-- ==== Sys2Proof/Word.lean ====
section
/-! DEFINITION. The word types of the path bus: a payload byte, a six-bit bus address and a two-byte number
(spec 11, R178 and R183). -/

namespace Sys2Proof

/-- One payload byte of a path bus frame (R183). -/
abbrev Byte := BitVec 8

/-- The six-bit source or destination field of a frame (R178). -/
abbrev Address := BitVec 6

/-- A two-byte payload number, sent high byte first (R183). -/
abbrev Half := BitVec 16

end Sys2Proof
end

