-- ==== Sys2Proof/Syntax.lean ====
section
/-! DEFINITION. The commands of the SP-614: one constructor of `Instr` for each row of spec/opcode_table.json, with
the operands the spec's text gives the row. A frame row carries the frame's header and its payload fields as the
receiving port reads them (R183), so that the port's own tests (R180 to R182) are part of the command's meaning;
FRAME_ERROR carries the levels of a frame as they stood on the line (R178). -/

namespace Sys2Proof

/-- The two stepper channels (R47). -/
inductive Channel where
  | a
  | b
deriving DecidableEq, Repr

/-- Source and destination of a frame (R178). -/
structure Header where
  src : Address
  dst : Address
deriving DecidableEq, Repr

/-- A tag as three payload bytes hold it (R183): the set, the last flag (bit 7) and the sequence (bits 5 to 0). -/
structure FrameTag where
  set : Half
  last : Bool
  seq : BitVec 6
deriving DecidableEq, Repr

/-- The payload fields of OFFER and FEED (R183). -/
structure SheetFields where
  tag : FrameTag
  /-- Side code: 0 SIMPLEX, 1 FIRST, 2 SECOND; 3 is not defined (R181). -/
  side : BitVec 2
  speed : BitVec 2
  /-- Bit 0 BROKEN, bit 1 SPOILED, bit 2 GHOST, bit 3 MISROUTED (R183). -/
  marks : BitVec 4
  length : Half
deriving DecidableEq, Repr

/-- The commands, in the order of spec/opcode_table.json. -/
inductive Instr where
  /-- FULL_RESET (R155): the pin is released, or power-on completes; the straps read these values. -/
  | fullReset (addrStraps : BitVec 6) (roleStraps : BitVec 3)
  /-- SELFTEST_COMPLETE (R156): bit k of `stuck` is sensor k's reading with its emitter off, bit k of `levels` its
  input level (1 covered) once the emitters are on again. -/
  | selftestComplete (stuck : BitVec 6) (levels : BitVec 6)
  /-- STEP (R25): the channel's step generator issues its next step. -/
  | step (ch : Channel)
  /-- LEAD_EDGE (R30): the filtered input of sensor k turns covered. -/
  | leadEdge (k : Fin 6)
  /-- TRAIL_EDGE (R38): the filtered input of sensor k turns uncovered. -/
  | trailEdge (k : Fin 6)
  /-- LINE_ACTIVE (R164): the filtered input of assignable line n turns to the level its polarity calls active. -/
  | lineActive (n : Fin 4)
  /-- LINE_INACTIVE (R164): the filtered input of assignable line n turns to its other level. -/
  | lineInactive (n : Fin 4)
  /-- PICK_START (R87). -/
  | pickStart
  /-- GHOST_LAUNCH (R171). -/
  | ghostLaunch
  /-- SLOT_EXAMINATION (R80). -/
  | slotExamination
  /-- DRAIN_END (R162). -/
  | drainEnd
  /-- PAUSE_END (R146). -/
  | pauseEnd
  /-- SWEEP_END (R176). -/
  | sweepEnd
  /-- HOLD_WAIT_EXPIRY (R74). -/
  | holdWaitExpiry
  /-- RETURN_WAIT_EXPIRY (R105). -/
  | returnWaitExpiry
  /-- IMAGE_WAIT_EXPIRY (R117). -/
  | imageWaitExpiry
  /-- EJECT_COMPLETE (R131). -/
  | ejectComplete
  /-- DUMP_COMPLETE (R133). -/
  | dumpComplete
  /-- PAGE_SYNC_PULSE_END (R121). -/
  | pageSyncPulseEnd
  /-- FAULT_DISPATCH (R142). -/
  | faultDispatch
  /-- FRAME_ERROR (R180): a frame completed on the line, given by its levels (dominant is false) from the start bit on,
  inserted bits among them (R178); the port reads it and makes every test. -/
  | frameError (levels : List Bool)
  /-- HALT (R149). -/
  | halt (h : Header) (code : Byte)
  /-- PASS (R83). -/
  | pass (h : Header) (t : FrameTag)
  /-- ARRIVED (R76). -/
  | arrived (h : Header) (t : FrameTag)
  /-- HOLD (R63). -/
  | hold (h : Header) (origin : Byte)
  /-- GO (R64). -/
  | go (h : Header) (origin : Byte)
  /-- BROKEN (R20). -/
  | broken (h : Header) (set : Half)
  /-- OFFER (R77). -/
  | offer (h : Header) (o : SheetFields)
  /-- TAKE (R71). -/
  | take (h : Header) (t : FrameTag)
  /-- DEFER (R70). -/
  | defer (h : Header) (t : FrameTag) (reason : Byte)
  /-- READY (R70). -/
  | ready (h : Header)
  /-- CONFIGURE (R187). -/
  | configure (h : Header) (start : BitVec 7) (endMark : Bool) (values : List Half)
  /-- START (R161). -/
  | start (h : Header)
  /-- DRAIN (R162). -/
  | drain (h : Header)
  /-- RESUME (R151). -/
  | resume (h : Header)
  /-- CLEARPATH (R153). -/
  | clearpath (h : Header)
  /-- RESTART (R158): the straps are read again and read these values. -/
  | restart (h : Header) (addrStraps : BitVec 6) (roleStraps : BitVec 3)
  /-- FEED (R86). -/
  | feed (h : Header) (o : SheetFields)
  /-- IMAGE (R111). -/
  | image (h : Header) (t : FrameTag) (side : Byte)
  /-- SWEEP (R168). -/
  | sweep (h : Header) (g : Byte) (n : Byte) (origin : Byte)
  /-- QUERY (R190). -/
  | query (h : Header) (selector : BitVec 3) (clear : Bool)
  /-- FRAME_SEND_START (R184). -/
  | frameSendStart
  /-- ARBITRATION_LOST (R179). -/
  | arbitrationLost
  /-- FRAME_SENT (R179). -/
  | frameSent
  /-- LINK (R185): a frame has waited in the transmit queue longer than LINKTO ms. -/
  | link
  /-- RESET_PIN_HELD_LOW (R155). -/
  | resetPinHeldLow
deriving DecidableEq, Repr

end Sys2Proof
end

