-- ==== Sys2Proof/Decode.lean ====
section
/-! DEFINITION. The command that a word of spec/opcode_table.json spells. No row of the table gives any bits (every
row's `fields` is empty and none has a `fixed` pattern), so no word spells a command; the layouts of the frames that
carry commands over the path bus are in Machine/Frames.lean. -/

namespace Sys2Proof

/-- No row of the opcode table gives bits, so no word of any width spells a command. -/
def decodeTableWord (_nbits _w : Nat) : Option Instr := none

end Sys2Proof
end

