-- ==== Sys2Proof/Config.lean ====
section
/-! DEFINITION. What the spec leaves open and the model leaves open with it: constants with no body, so that nothing
can be proved about their values. All of them are bytes of frames on the line whose value R183 does not give; no field
of the station's state depends on them (assumption log, entry 5). -/

namespace Sys2Proof

/-- The byte sent for a field that the frame marks absent by another field (R183: the set and the last
flag of a FAULT without tag, the position of a FAULT without position, the captures of a SWEEPREPORT without captures). Free value, log entry 5. -/
opaque Config.absentByte : Nat → Byte

/-- The byte sent for a number that does not fit one byte (R183 gives first expected one byte; R168 lets expected next
reach 256). Free value, log entry 5. -/
opaque Config.wideByte : Nat → Byte

/-- The six bits sent for a sequence number that does not fit six bits (R183; a SEQUENCE fault of R125 case 6 can name
sequence 64, R123). Free value, log entry 5. -/
opaque Config.wideSequence : Nat → BitVec 6

end Sys2Proof
end

