-- ==== Sys2Proof/Machine/State.lean ====
section
/-! DEFINITION. The state of the station: the thirteen blocks of spec 00 ("Blocks"), each with the principal state it
owns, the pins, the straps, and the queue of waiting commands. Plain data throughout. Distances are natural numbers:
fine pu (1/256 pu) where the field says so, pu otherwise. -/

namespace Sys2Proof.Machine

/-- The five roles (spec 00, "Roles"; R157). -/
inductive Role where
  | feed
  | transport
  | register
  | invert
  | exit
deriving DecidableEq, Repr

/-- The ten station states (spec 09). -/
inductive StationState where
  | selftest
  | unconfigured
  | ready
  | running
  | draining
  | pausing
  | paused
  | jammed
  | lockdown
  | sweeping
deriving DecidableEq, Repr

/-- The sixteen fault codes (spec 08). -/
inductive FaultCode where
  | miss
  | early
  | stall
  | short
  | speed
  | gap
  | handoff
  | overrun
  | image
  | route
  | interlock
  | halted
  | link
  | bin
  | sequence
  | table
deriving DecidableEq, Repr

/-- The side of a record (R2). -/
inductive Side where
  | simplex
  | first
  | second
deriving DecidableEq, Repr

/-- The place of a record (R5). -/
inductive Place where
  | expected
  | entering
  | inside
  | exiting
deriving DecidableEq, Repr

/-- The source of a record (R6). -/
inductive Source where
  | up1
  | up2
  | pick
deriving DecidableEq, Repr

/-- A branch beyond a gate, as a route, a gate position or a gate output (R6, R94). -/
inductive Route where
  | main
  | alt
deriving DecidableEq, Repr

/-- The exit stage of a record (R7). TAKEN keeps the address of the station whose TAKE it was, since PASS goes only to that
one (R73; log entry 54). -/
inductive ExitStage where
  | notOffered
  | offered
  | deferred
  | taken (taker : Nat)
deriving DecidableEq, Repr

/-- A direction of travel or of a channel (R6, R47). -/
inductive Direction where
  | forward
  | reverse
deriving DecidableEq, Repr

/-- The image state of a record, absent when no state has been decided (R10). -/
inductive ImageState where
  | ready
  | waiting
  | printed
  | skipped
deriving DecidableEq, Repr

/-- The marks of a record (R4). -/
structure Marks where
  broken : Bool
  spoiled : Bool
  ghost : Bool
  misrouted : Bool
deriving DecidableEq, Repr

/-- Set and sequence: what makes two records the same sheet (R1). -/
structure Tag where
  set : Nat
  seq : Nat
deriving DecidableEq, Repr

/-- A lead window, both limits in pu (R27). -/
structure Window where
  early : Nat
  late : Nat
deriving DecidableEq, Repr

/-- The position thresholds a record has reached; each is reached once per record (R26). -/
structure Reached where
  entry : Bool
  offer : Bool
  stop : Bool
  exit : Bool
  deadline : Bool
  decision : Bool
  gate : Bool
  sync : Bool
  compileStop : Bool
  revOffer : Bool
  revStop : Bool
  revExit : Bool
  revDeadline : Bool
deriving DecidableEq, Repr

/-- A sheet record (spec 01, R1 to R10), with the window the Track Unit holds for it (R27), the thresholds it has
reached (R26) and whether an OFFER is owed for it (R69 postponement, R70 later DEFERRED records). -/
structure Record where
  tag : Tag
  last : Bool
  side : Side
  length : Nat
  speed : Nat
  marks : Marks
  place : Place
  source : Source
  route : Option Route
  stage : ExitStage
  arrival : Bool
  dir : Direction
  /-- Fine pu. -/
  lead : Nat
  /-- Fine pu. -/
  odo : Nat
  /-- pu. -/
  ref : Nat
  next : Option Nat
  worst : Nat
  image : Option ImageState
  retries : Nat
  window : Option Window
  reached : Reached
  offerOwed : Bool
deriving DecidableEq, Repr

/-- The Track Unit's own state: the track queue (R11) and the broken set list (R20), both oldest first. -/
structure Track where
  queue : List Record
  broken : List Nat
deriving DecidableEq, Repr

/-- A sensor's state (R17 to R19, R31, R40). -/
structure Sensor where
  /-- The level last taken by the filter: covered or not. -/
  covered : Bool
  owner : Option Tag
  /-- The cover was recorded as confirmed (R31), not unconfirmed (R33). -/
  confirmed : Bool
  /-- STALL has been raised for this cover (R40). -/
  stalled : Bool
  /-- Lead odometer latch, fine pu. -/
  latch : Nat
  /-- Uncovered distance, fine pu. -/
  uncovered : Nat
deriving DecidableEq, Repr

/-- The Sensor Unit: six sensors and the self-test failure set, bit k for sensor k (R156). -/
structure SensorUnit where
  sensors : List Sensor
  failed : BitVec 6
deriving DecidableEq, Repr

/-- Run state of a step generator (R47). -/
inductive RunState where
  | stopped
  | rampUp
  | atSpeed
  | rampDown
deriving DecidableEq, Repr

/-- One step generator (R47, R57). `period` is the period of the step to come, 0 while the channel is STOPPED. -/
structure Chan where
  run : RunState
  ramp : Nat
  dir : Direction
  want : Option Direction
  period : Nat
deriving DecidableEq, Repr

/-- The own reasons of a hold (spec 03, section 3.5). -/
structure Reasons where
  handoffWait : Bool
  imageWait : Bool
  trayWait : Bool
  loopWait : Bool
deriving DecidableEq, Repr

/-- One own reason. -/
inductive OwnReason where
  | handoffWait
  | imageWait
  | trayWait
  | loopWait
deriving DecidableEq, Repr

/-- An entry of the hold set (R59). `via` is the neighbour the HOLD was received from, absent in the own entry. -/
structure HoldEntry where
  origin : Nat
  own : Reasons
  via : Option Nat
  fwd : List Nat
deriving DecidableEq, Repr

/-- The Drive Unit (spec 03). -/
structure Drive where
  chA : Chan
  chB : Chan
  speed : Nat
  hold : List HoldEntry
deriving DecidableEq, Repr

/-- The upstream side of a slot (R68). -/
inductive UpSide where
  | up1
  | up2
deriving DecidableEq, Repr

/-- The fields of an offer, held in a slot or carried by an OFFER (R68, R69). -/
structure Offer where
  tag : Tag
  last : Bool
  side : Side
  speed : Nat
  marks : Marks
  length : Nat
deriving DecidableEq, Repr

/-- The reasons of a DEFER (R78). -/
inductive DeferReason where
  | held
  | state
  | drain
  | duplicate
deriving DecidableEq, Repr

/-- An entry of the deferred-upstream set (R68). -/
structure Deferral where
  reason : DeferReason
  /-- The duplicated set and sequence, for DUPLICATE. -/
  dup : Option Tag
deriving DecidableEq, Repr

/-- A distance- or time-armed timer (R74, R105, R116). -/
inductive Timer where
  | idle
  | armed
  | running
deriving DecidableEq, Repr

/-- The Handoff Unit (R68) with the merge arbiter (R91). -/
structure Handoff where
  slot1 : Option Offer
  slot2 : Option Offer
  deferred1 : Option Deferral
  deferred2 : Option Deferral
  setInProgress : Option Nat
  waiting : Option Tag
  holdTimer : Timer
  givenUp : Option Tag
  lastSide : Option UpSide
  streak : Nat
deriving DecidableEq, Repr

/-- A gate move (R94); the travel is in fine pu. -/
inductive Move where
  | none
  | waiting (target : Route)
  | moving (target : Route) (travel : Nat)
deriving DecidableEq, Repr

/-- The gate state of the Gate Unit (R94). -/
structure Gate where
  position : Route
  output : Route
  move : Move
  list : List Tag
  occupant : Option Tag
deriving DecidableEq, Repr

/-- The states of the inverter sequence (R101). -/
inductive InverterState where
  | idle
  | filling
  | runout
  | stopping
  | returning
  | returnWait
  | blocked
deriving DecidableEq, Repr

/-- The inverter sequence of the Gate Unit (R101); the run-out travel is in fine pu. -/
structure Inverter where
  seq : InverterState
  loop : Option Tag
  runout : Nat
  timer : Timer
  givenUp : Bool
deriving DecidableEq, Repr

/-- An entry of the image ready list (R109). -/
structure ImageEntry where
  tag : Tag
  side : Nat
deriving DecidableEq, Repr

/-- The Registration Unit (R109). -/
structure Registration where
  images : List ImageEntry
  timer : Timer
  pulse : Bool
deriving DecidableEq, Repr

/-- The reasons of a PURGED report (R133). -/
inductive DumpReason where
  | sequence
  | broken
  | marked
  | cleared
deriving DecidableEq, Repr

/-- The phase of a tray operation (R123). -/
inductive OpPhase where
  | binWait
  | active
deriving DecidableEq, Repr

/-- The tray operation (R123). -/
inductive Operation where
  | none
  | ejecting (phase : OpPhase)
  | dumping (phase : OpPhase)
deriving DecidableEq, Repr

/-- A sheet on its way into the tray or already in it while an operation runs (R128, R136). `suspect` says that the
entry was by reckoning or with a failed trail check. -/
structure TrayEntry where
  tag : Tag
  last : Bool
  marks : Marks
  suspect : Bool
deriving DecidableEq, Repr

/-- The Compile Unit (R123), with its EJECT and DUMP lines. `keepOpen` says that the operation ordered is a split eject
whose completion leaves the set open (R132); a break (R126) or a CLEARPATH (R138) while it is ACTIVE takes that back. -/
structure Compile where
  traySet : Option Nat
  count : Nat
  nextSeq : Nat
  split : Bool
  op : Operation
  dumpReason : Option DumpReason
  timer : Timer
  binReported : Bool
  late : List TrayEntry
  routedSet : Option Nat
  routedNext : Nat
  offset : Bool
  ejectLine : Bool
  dumpLine : Bool
  keepOpen : Bool
deriving DecidableEq, Repr

/-- An order of the feed order queue (R85). -/
structure FeedOrder where
  tag : Tag
  last : Bool
  side : Side
  speed : Nat
  length : Nat
deriving DecidableEq, Repr

/-- The Feed Unit (R85). -/
structure FeedUnit where
  orders : List FeedOrder
  pick : Option Tag
  supplyReported : Bool
deriving DecidableEq, Repr

/-- A fault request (R139). `last` belongs to the tag. `gone`: the involved record has left the queue since the fault was
raised (R145), so that a later record of its tag is not taken for it; a field of the model's own (log entry 25). -/
structure Request where
  code : FaultCode
  original : Option FaultCode
  involved : Option Tag
  tag : Option Tag
  last : Bool
  position : Option Nat
  sensor : Option Nat
  worst : Nat
  ghost : Bool
  gone : Bool := false
deriving DecidableEq, Repr

/-- The actions of the disposition table (R143). -/
inductive Action where
  | count
  | spoil
  | hold
  | stop
deriving DecidableEq, Repr

/-- A context record of the fault stack (R148). -/
structure Context where
  code : FaultCode
  original : Option FaultCode
  /-- The action was STOP, not HOLD. -/
  isStop : Bool
  saved : StationState
deriving DecidableEq, Repr

/-- The Fault Unit (R140, R141, R148). The counters stand in code order; the stack is top first. -/
structure FaultUnit where
  counters : List Nat
  pending : List Request
  stack : List Context
  restartNeeded : Bool
deriving DecidableEq, Repr

/-- The reasons of a STATUS reply (R163). -/
inductive StatusReason where
  | none
  | state
  | sensorFailed
  | notClear
  | config
deriving DecidableEq, Repr

/-- The fields of STATUS kind 0 (R163). -/
structure Status where
  state : StationState
  reason : StatusReason
  failing : Option Nat
  queueCount : Nat
  depth : Nat
  top : Option FaultCode
  holdCount : Nat
deriving DecidableEq, Repr

/-- The sweep results (R168). -/
structure SweepResults where
  received : Nat
  synced : Bool
  expectedNext : Nat
  mismatches : Nat
  firstExpected : Option Nat
  firstActual : Option Nat
  residuals : Nat
  firstResidual : Option Nat
deriving DecidableEq, Repr

/-- The frames a station sends (R181, R183), field by field. -/
inductive FrameBody where
  | halt (code : FaultCode)
  | pass (tag : Tag) (last : Bool)
  | arrived (tag : Tag) (last : Bool)
  | hold (origin : Nat)
  | go (origin : Nat)
  | broken (set : Nat)
  | offer (o : Offer)
  | take (tag : Tag) (last : Bool)
  | defer (tag : Tag) (last : Bool) (reason : DeferReason)
  | ready
  | sync (tag : Tag) (last : Bool) (side : Nat)
  | status (st : Status)
  | statusFaults (upper : Bool) (counters : List Nat)
  | statusBus (counters : List Nat)
  | statusSweep (r : SweepResults)
  | fault (r : Request)
  | delivered (set : Nat) (count : Nat) (split : Bool)
  | purged (set : Nat) (count : Nat) (reason : DumpReason)
  | join (role : Role) (failed : BitVec 6) (strapFault : Bool) (strap : Nat)
  | sweepReport (r : SweepResults)
deriving DecidableEq, Repr

/-- A frame to send: destination and body. -/
structure Frame where
  dst : Nat
  body : FrameBody
deriving DecidableEq, Repr

/-- A place of the transmit queue; `sending` marks the frame being sent (R184). -/
structure TxEntry where
  frame : Frame
  sending : Bool
deriving DecidableEq, Repr

/-- The Path Bus Port (spec 11). -/
structure Port where
  /-- The receive buffer: the frames that occupy its halves, in the order in which they completed, at most 2 (R180). -/
  rx : List Instr
  tx : List TxEntry
  linkReported : Bool
  overruns : Nat
  checkErrors : Nat
  foreign : Nat
  stale : Nat
  drops : Nat
deriving DecidableEq, Repr

/-- The Configuration Store (R187 to R189): the parameter table by index, the CONFIGURE index, the clamp counter and
the derived points of the last commit check that passed. -/
structure ConfigStore where
  params : List Nat
  index : Nat
  clamps : Nat
  stopDistance : Nat
  stopPoint : Nat
  compileStop : Nat
  returnStop : Nat
deriving DecidableEq, Repr

/-- Station Control (R167): station state, self-test timer, whether the self-test follows a restart (R159), the RESET
pin held low (R155), and the straps as last read (R157). -/
structure Control where
  st : StationState
  selftest : Bool
  restarted : Bool
  resetLow : Bool
  address : Nat
  strap : Nat
deriving DecidableEq, Repr

/-- The Sweep Unit (R168). `refused`: the latest SWEEP was refused, so that the station takes no part in the sweep; R168
names no place for it, and the field is the model's own (log entry 49). -/
structure Sweep where
  ghosts : Nat
  inject : Nat
  origin : Option Nat
  active : Bool
  launching : Bool
  nextNumber : Nat
  spacing : Option Tag
  lastSeen : Bool
  drainAsked : Bool
  refused : Bool
  results : SweepResults
deriving DecidableEq, Repr

/-- The input pins: bit k of `sensors` is the level of sensor input k (1 covered), bit n of `lines` the level of
assignable line n (1 high), as the outside world last drove them. -/
structure Pins where
  sensors : BitVec 6
  lines : BitVec 4
deriving DecidableEq, Repr

/-- No command of this block ends a run: the spec gives every row of the opcode table an effect in every state. -/
inductive Fault where
  /-- Raised by no command. Safe: it never ends a run. -/
  | noEffectGiven
deriving DecidableEq, Repr

/-- The refusals. -/
inductive Refusal where
  /-- A command whose meaning is not written yet; no arm of exec answers with it. Safe. -/
  | notModelled (mnemonic : String)
deriving DecidableEq, Repr

/-- The state of the station, one field per block, and the commands waiting, first in first out. -/
structure State where
  pins : Pins
  ctl : Control
  port : Port
  cfg : ConfigStore
  sens : SensorUnit
  drive : Drive
  track : Track
  hand : Handoff
  gate : Gate
  inv : Inverter
  reg : Registration
  comp : Compile
  feed : FeedUnit
  flt : FaultUnit
  sweep : Sweep
  pending : List Instr
deriving DecidableEq, Repr

/-! ### Values after full reset -/

/-- The greatest fine position (spec 00, "Fine position"; R8, R19). -/
def fineMax : Nat := 16777215

/-- A distance of 65535 pu in fine pu: the uncovered distance after reset (R19, R23). -/
def farUncovered : Nat := 65535 * 256

/-- A sensor after full reset and restart (R23). R23 gives the covered state a value only from the end of the self-test
that follows; uncovered until then is DESIGN CHOICE (log entry 28). -/
def Sensor.reset : Sensor :=
  { covered := false, owner := none, confirmed := false, stalled := false, latch := 0, uncovered := farUncovered }

/-- A step generator after full reset and restart (R47). The spec gives the period of a STOPPED generator no value; 0 is
DESIGN CHOICE (log entry 46). -/
def Chan.reset : Chan := { run := .stopped, ramp := 0, dir := .forward, want := none, period := 0 }

/-- No own reason. -/
def Reasons.none : Reasons :=
  { handoffWait := false, imageWait := false, trayWait := false, loopWait := false }

/-- No marks (R13). -/
def Marks.none : Marks := { broken := false, spoiled := false, ghost := false, misrouted := false }

/-- No threshold reached (R26). -/
def Reached.none : Reached :=
  { entry := false, offer := false, stop := false, exit := false, deadline := false, decision := false, gate := false,
    sync := false, compileStop := false, revOffer := false, revStop := false, revExit := false, revDeadline := false }

/-- The Drive Unit after full reset and restart (spec 03, table of the Drive Unit's state). -/
def Drive.reset : Drive := { chA := Chan.reset, chB := Chan.reset, speed := 0, hold := [] }

/-- The Track Unit after full reset and restart (R23). -/
def Track.reset : Track := { queue := [], broken := [] }

/-- The Handoff Unit after full reset, restart and CLEARPATH (R68, R91). -/
def Handoff.reset : Handoff :=
  { slot1 := none, slot2 := none, deferred1 := none, deferred2 := none, setInProgress := none, waiting := none,
    holdTimer := .idle, givenUp := none, lastSide := none, streak := 0 }

/-- The gate state after full reset and restart (R94). -/
def Gate.reset : Gate := { position := .main, output := .main, move := .none, list := [], occupant := none }

/-- The inverter sequence after full reset, restart and CLEARPATH (R101). -/
def Inverter.reset : Inverter := { seq := .idle, loop := none, runout := 0, timer := .idle, givenUp := false }

/-- The Registration Unit after full reset and restart (R109). -/
def Registration.reset : Registration := { images := [], timer := .idle, pulse := false }

/-- The Compile Unit after full reset and restart (R123). -/
def Compile.reset : Compile :=
  { traySet := none, count := 0, nextSeq := 1, split := false, op := .none, dumpReason := none, timer := .idle,
    binReported := false, late := [], routedSet := none, routedNext := 1, offset := false, ejectLine := false,
    dumpLine := false, keepOpen := false }

/-- The Feed Unit after full reset, restart and CLEARPATH (R85). -/
def FeedUnit.reset : FeedUnit := { orders := [], pick := none, supplyReported := false }

/-- The Fault Unit after full reset and restart (R154). -/
def FaultUnit.reset : FaultUnit :=
  { counters := List.replicate 16 0, pending := [], stack := [], restartNeeded := false }

/-- The sweep results after full reset, restart and SWEEP (R168). -/
def SweepResults.reset : SweepResults :=
  { received := 0, synced := false, expectedNext := 0, mismatches := 0, firstExpected := none, firstActual := none,
    residuals := 0, firstResidual := none }

/-- The Sweep Unit after full reset and restart (R168). -/
def Sweep.reset : Sweep :=
  { ghosts := 0, inject := 0, origin := none, active := false, launching := false, nextNumber := 0, spacing := none,
    lastSeen := false, drainAsked := false, refused := false, results := SweepResults.reset }

/-- The Path Bus Port after full reset (R184 to R186). -/
def Port.reset : Port :=
  { rx := [], tx := [], linkReported := false, overruns := 0, checkErrors := 0, foreign := 0, stale := 0,
    drops := 0 }

/-- The default of DISP[k]: present, its action code, rank k, report yes (R143, R189). -/
def dispDefault (k action : Nat) : Nat := 32768 + action * 256 + k * 16 + 1

/-- The parameter defaults by index (R189; DISP from R143). -/
def paramDefaults : List Nat :=
  [1, 0, 0, 0, 0, 1] ++ List.replicate 6 0 ++ List.replicate 6 0 ++ List.replicate 6 0 ++ List.replicate 6 0 ++
  [0, 0, 300, 50, 600, 128, 128, 0, 0] ++ [400, 400, 400, 400] ++ [400, 400, 400, 400] ++ [4000, 4000, 64, 64] ++
  [20, 40, 16, 40, 200, 20, 50, 30, 40, 20, 150, 100, 80, 50, 1, 4, 0, 250, 1] ++
  [dispDefault 0 3, dispDefault 1 3, dispDefault 2 3, dispDefault 3 1, dispDefault 4 0, dispDefault 5 0,
   dispDefault 6 3, dispDefault 7 3, dispDefault 8 1, dispDefault 9 1, dispDefault 10 3, dispDefault 11 3,
   dispDefault 12 2, dispDefault 13 2, dispDefault 14 1, dispDefault 15 3] ++
  [16, 10] ++ [256, 256, 256, 256]

/-- The Configuration Store after full reset. The spec gives the derived points no value before a first commit check
has passed; 0 is DESIGN CHOICE (log entry 2). -/
def ConfigStore.reset : ConfigStore :=
  { params := paramDefaults, index := 0, clamps := 0, stopDistance := 0, stopPoint := 0, compileStop := 0,
    returnStop := 0 }

/-- Station Control after a full reset that read these straps (R155, R167). -/
def Control.reset (addrStraps roleStraps : Nat) : Control :=
  { st := .selftest, selftest := true, restarted := false, resetLow := false, address := addrStraps,
    strap := roleStraps }

/-- Every block at its value after full reset, with the straps as read and the outside world's pins and the waiting
commands as they stand (R155). R23 has the self-test failure set set by the self-test that follows and gives it no value
before that; empty until then is DESIGN CHOICE (log entry 28). -/
def State.fullReset (addrStraps roleStraps : Nat) (pins : Pins) (waiting : List Instr) : State :=
  { pins := pins
    ctl := Control.reset addrStraps roleStraps
    port := Port.reset
    cfg := ConfigStore.reset
    sens := { sensors := List.replicate 6 Sensor.reset, failed := 0#6 }
    drive := Drive.reset
    track := Track.reset
    hand := Handoff.reset
    gate := Gate.reset
    inv := Inverter.reset
    reg := Registration.reset
    comp := Compile.reset
    feed := FeedUnit.reset
    flt := FaultUnit.reset
    sweep := Sweep.reset
    pending := waiting }

/-- The machine right after power-on: the station of address 10 and role strap 0 (FEED) of the example path, every
sensor input uncovered and every line low. The straps and the pins are the outside world's; these values of them are
DESIGN CHOICE (log entry 1). No command waits. -/
def State.reset : State := State.fullReset 10 0 { sensors := 0#6, lines := 0#4 } []

end Sys2Proof.Machine
end

