-- ==== Sys2Proof/Machine/Operands.lean ====
section
/-! DEFINITION. The operand forms: the parameters by name (R189), the codes of the role, branch, kind, line and
disposition fields, the payload fields of a received frame as the station's own values (R183), and the arithmetic of
distances that the rules share. -/

namespace Sys2Proof.Machine

/-! ### Arithmetic -/

/-- Counters that run from 0 to 255 and saturate (spec 00, "Saturation"). -/
def incSat (n : Nat) : Nat := min (n + 1) 255

/-- Fine pu rounded up to pu: ⌈n ÷ 256⌉ (R58). -/
def ceilPu (n : Nat) : Nat := (n + 255) / 256

/-- The slip term SLIP × d ÷ 1024, rounded up (R28). -/
def slipTerm (slip d : Nat) : Nat := (slip * d + 1023) / 1024

/-- The integer position of a record (R8, R25). -/
def Record.pos (r : Record) : Nat := r.lead / 256

/-- |s − p|, the magnitude of a correction (R31). -/
def distance (a b : Nat) : Nat := (a - b) + (b - a)

/-! ### Parameters by name (R189) -/

/-- The value of the parameter at an index. -/
def State.par (s : State) (i : Nat) : Nat := s.cfg.params.getD i 0

def State.engAddr (s : State) : Nat := s.par 0
def State.up1 (s : State) : Nat := s.par 1
def State.up2 (s : State) : Nat := s.par 2
def State.dn1 (s : State) : Nat := s.par 3
def State.dn2 (s : State) : Nat := s.par 4
def State.scount (s : State) : Nat := s.par 5
def State.spos (s : State) (k : Nat) : Nat := s.par (6 + k)
def State.sbranch (s : State) (k : Nat) : Nat := s.par (12 + k)
def State.skind (s : State) (k : Nat) : Nat := s.par (18 + k)
def State.szone (s : State) (k : Nat) : Nat := s.par (24 + k)
def State.exitX (s : State) : Nat := s.par 30
def State.aExit (s : State) : Nat := s.par 31
def State.offerD (s : State) : Nat := s.par 32
def State.holdM (s : State) : Nat := s.par 33
def State.arrD (s : State) : Nat := s.par 34
def State.stepLen (s : State) : Channel → Nat
  | .a => s.par 35
  | .b => s.par 36
def State.prescale (s : State) : Channel → Nat
  | .a => s.par 37
  | .b => s.par 38
def State.target (s : State) : Channel → Nat
  | .a => s.par (39 + s.drive.speed)
  | .b => s.par (43 + s.drive.speed)
def State.rampStart (s : State) : Channel → Nat
  | .a => s.par 47
  | .b => s.par 48
def State.rampLen (s : State) : Channel → Nat
  | .a => s.par 49
  | .b => s.par 50
def State.tEarly (s : State) : Nat := s.par 51
def State.tLate (s : State) : Nat := s.par 52
def State.slip (s : State) : Nat := s.par 53
def State.tLen (s : State) : Nat := s.par 54
def State.gapMin (s : State) : Nat := s.par 55
def State.gateSw (s : State) : Nat := s.par 61
def State.syncD (s : State) : Nat := s.par 62
def State.revD (s : State) : Nat := s.par 63
def State.ccap (s : State) : Nat := s.par 64
def State.mergeSecondary (s : State) : Bool := s.par 65 == 1
def State.streakLimit (s : State) : Nat := s.par 66
def State.drainSheet (s : State) : Bool := s.par 67 == 1
def State.pickD (s : State) : Nat := s.par 68
def State.pickRt (s : State) : Nat := s.par 69
def State.disp (s : State) (code : Nat) : Nat := s.par (70 + code)
def State.dLimit (s : State) : Nat := s.par 86
def State.promoted (s : State) : Nat := s.par 87
def State.lineParam (s : State) (n : Nat) : Nat := s.par (88 + n)

/-- The range of a parameter by index, both ends included (R189). Indexes 70 to 85 and 88 to 91 (DISP, LINE) are not
clamped; their rows give every sixteen-bit value. -/
def paramRange (i : Nat) : Nat × Nat :=
  if i = 0 then (1, 62)
  else if i ≤ 4 then (0, 62)
  else if i = 5 then (1, 6)
  else if i ≤ 11 then (0, 61035)
  else if i ≤ 17 then (0, 2)
  else if i ≤ 23 then (0, 4)
  else if i ≤ 29 then (0, 1)
  else if i ≤ 31 then (0, 61035)
  else if i = 32 then (0, 2000)
  else if i = 33 then (0, 500)
  else if i = 34 then (0, 4000)
  else if i ≤ 36 then (16, 4095)
  else if i ≤ 38 then (0, 3)
  else if i ≤ 48 then (16, 65535)
  else if i ≤ 50 then (0, 255)
  else if i ≤ 54 then (0, 255)
  else if i = 55 then (0, 2000)
  else if i = 56 then (0, 255)
  else if i ≤ 60 then (1, 255)
  else if i ≤ 62 then (0, 2000)
  else if i = 63 then (0, 1000)
  else if i = 64 then (1, 63)
  else if i = 65 then (0, 1)
  else if i = 66 then (1, 15)
  else if i = 67 then (0, 1)
  else if i = 68 then (0, 1000)
  else if i = 69 then (0, 3)
  else if i ≤ 85 then (0, 65535)
  else if i = 86 then (1, 16)
  else if i = 87 then (0, 16)
  else (0, 65535)

/-- Whether an index is a DISP or a LINE parameter, whose unnamed bits are ignored and which is never clamped (R189). -/
def isDispParam (i : Nat) : Bool := decide (70 ≤ i ∧ i ≤ 85)

/-- See `isDispParam`. -/
def isLineParam (i : Nat) : Bool := decide (88 ≤ i ∧ i ≤ 91)

/-- The named bits of a DISP value: 15, 9 to 8, 7 to 4 and 0 (R189). -/
def dispBits (v : Nat) : Nat := (v / 32768 % 2) * 32768 + (v / 16 % 64) * 16 + v % 2

/-- The named bits of a LINE value: 8 and 2 to 0 (R189). -/
def lineBits (v : Nat) : Nat := (v / 256 % 2) * 256 + v % 8

/-! ### Codes -/

/-- The role a role strap value selects; 5 to 7 are taken as TRANSPORT (R157). -/
def roleOf (strap : Nat) : Role :=
  if strap = 0 then .feed else if strap = 1 then .transport else if strap = 2 then .register
  else if strap = 3 then .invert else if strap = 4 then .exit else .transport

/-- The role in use, read from the straps (R157). -/
def State.role (s : State) : Role := roleOf s.ctl.strap

/-- The strap fault flag (R157). -/
def State.strapFault (s : State) : Bool := decide (5 ≤ s.ctl.strap)

/-- The code of a role in JOIN (R183). -/
def Role.code : Role → Nat
  | .feed => 0
  | .transport => 1
  | .register => 2
  | .invert => 3
  | .exit => 4

/-- The code of a station state in STATUS (R183). -/
def StationState.code : StationState → Nat
  | .selftest => 0
  | .unconfigured => 1
  | .ready => 2
  | .running => 3
  | .draining => 4
  | .pausing => 5
  | .paused => 6
  | .jammed => 7
  | .lockdown => 8
  | .sweeping => 9

/-- The code of a fault (spec 08). -/
def FaultCode.code : FaultCode → Nat
  | .miss => 0
  | .early => 1
  | .stall => 2
  | .short => 3
  | .speed => 4
  | .gap => 5
  | .handoff => 6
  | .overrun => 7
  | .image => 8
  | .route => 9
  | .interlock => 10
  | .halted => 11
  | .link => 12
  | .bin => 13
  | .sequence => 14
  | .table => 15

/-- The code of a STATUS reason (R183). -/
def StatusReason.code : StatusReason → Nat
  | .none => 0
  | .state => 1
  | .sensorFailed => 2
  | .notClear => 3
  | .config => 4

/-- The code of a DEFER reason (R183). -/
def DeferReason.code : DeferReason → Nat
  | .held => 0
  | .state => 1
  | .drain => 2
  | .duplicate => 3

/-- The code of a PURGED reason (R183). -/
def DumpReason.code : DumpReason → Nat
  | .sequence => 0
  | .broken => 1
  | .marked => 2
  | .cleared => 3

/-- The code of a side (R183). -/
def Side.code : Side → Nat
  | .simplex => 0
  | .first => 1
  | .second => 2

/-- The side a side code names; code 3 never passes the port (R181). -/
def sideOf (code : Nat) : Side := if code = 0 then .simplex else if code = 1 then .first else .second

/-- The marks byte (R183). -/
def Marks.code (m : Marks) : Nat :=
  m.broken.toNat + 2 * m.spoiled.toNat + 4 * m.ghost.toNat + 8 * m.misrouted.toNat

/-- The marks that a marks field holds (R183). -/
def marksOf (m : BitVec 4) : Marks :=
  { broken := m.getLsbD 0, spoiled := m.getLsbD 1, ghost := m.getLsbD 2, misrouted := m.getLsbD 3 }

/-- The action code of a DISP entry (R189). -/
def actionOf (code : Nat) : Action :=
  if code = 0 then .count else if code = 1 then .spoil else if code = 2 then .hold else .stop

/-- The present field of a disposition entry (R143, R189). -/
def State.dispPresent (s : State) (code : Nat) : Bool := decide (s.disp code / 32768 % 2 = 1)

/-- The action field of a disposition entry (R143, R189). -/
def State.dispAction (s : State) (code : Nat) : Action := actionOf (s.disp code / 256 % 4)

/-- The rank field of a disposition entry (R143, R189). -/
def State.dispRank (s : State) (code : Nat) : Nat := s.disp code / 16 % 16

/-- The report field of a disposition entry (R143, R189). -/
def State.dispReport (s : State) (code : Nat) : Bool := decide (s.disp code % 2 = 1)

/-- The functions of an assignable line (R164). -/
inductive LineFunction where
  | none
  | interlock
  | pause
  | binFull
  | supplyEmpty
  | pageSync
  | offset
  | faultLamp
deriving DecidableEq, Repr

/-- The function a LINE value gives (R189). -/
def lineFunctionOf (v : Nat) : LineFunction :=
  match v % 8 with
  | 0 => .none
  | 1 => .interlock
  | 2 => .pause
  | 3 => .binFull
  | 4 => .supplyEmpty
  | 5 => .pageSync
  | 6 => .offset
  | _ => .faultLamp

/-- The function of line n (R164). -/
def State.lineFunction (s : State) (n : Nat) : LineFunction := lineFunctionOf (s.lineParam n)

/-- The level at which line n is active: high or not (R164, R189). -/
def State.lineActiveHigh (s : State) (n : Nat) : Bool := decide (s.lineParam n / 256 % 2 = 1)

/-! ### Payload fields of received frames (R183) -/

/-- Set and sequence of a received tag. -/
def keyOf (t : FrameTag) : Tag := { set := t.set.toNat, seq := t.seq.toNat }

/-- A length clamped into 1000 to 4500 pu (R3). -/
def clampLength (n : Nat) : Nat := max 1000 (min n 4500)

/-- The offer an OFFER frame carries, its length clamped as it fills its slot (R77). -/
def offerOf (o : SheetFields) : Offer :=
  { tag := keyOf o.tag, last := o.tag.last, side := sideOf o.side.toNat, speed := o.speed.toNat, marks := marksOf o.marks,
    length := clampLength o.length.toNat }

/-- The order a FEED frame carries; the marks are not kept (R86). -/
def orderOf (o : SheetFields) : FeedOrder :=
  { tag := keyOf o.tag, last := o.tag.last, side := sideOf o.side.toNat, speed := o.speed.toNat,
    length := clampLength o.length.toNat }

/-- SWEEP's ghost count, 0 taken as 1 (R168). -/
def sweepCount (g : Nat) : Nat := if g = 0 then 1 else g

/-- SWEEP's inject period, 1 taken as 2 (R168). -/
def sweepInject (n : Nat) : Nat := if n = 1 then 2 else n

/-! ### Bits of a pin field -/

/-- A six-bit field with bit k set or cleared. -/
def withBit {w : Nat} (x : BitVec w) (k : Nat) (on : Bool) : BitVec w :=
  if on then x ||| BitVec.twoPow w k else x &&& ~~~ (BitVec.twoPow w k)

end Sys2Proof.Machine
end

