-- ==== Sys2Proof/Machine/Flags.lean ====
section
/-! DEFINITION. The conditions the rules consult: which record, sensor or neighbour a rule means, when a record occupies
the entry, when a channel has demand, when the gate is clear, when a line function is active, and the levels of the
output lines. Nothing here changes the state. -/

namespace Sys2Proof.Machine

/-! ### Station states -/

/-- RUNNING, DRAINING, PAUSING and SWEEPING, the states in which steps are issued (R54). -/
def StationState.steps : StationState → Bool
  | .running | .draining | .pausing | .sweeping => true
  | _ => false

/-- RUNNING, DRAINING and PAUSING, the states in which edges are checked (R43). -/
def StationState.checks : StationState → Bool
  | .running | .draining | .pausing => true
  | _ => false

/-! ### Records and sensors -/

/-- The record with a tag, of which there is at most one (R15). -/
def State.rec? (s : State) (t : Tag) : Option Record := s.track.queue.find? fun r => r.tag == t

/-- A tag is held in the track queue (R11, R78). -/
def State.held (s : State) (t : Tag) : Bool := (s.rec? t).isSome

/-- The state of sensor k. -/
def State.sensor (s : State) (k : Nat) : Sensor := s.sens.sensors.getD k Sensor.reset

/-- Sensor k is in use (R16). -/
def State.inUse (s : State) (k : Nat) : Bool := decide (k < s.scount)

/-- The uncovered-distance counter of sensor k, in pu (R19). -/
def State.gapAt (s : State) (k : Nat) : Nat := (s.sensor k).uncovered / 256

/-- The sensor of a kind: the lowest-numbered one in use (R16). The kinds are 1 GATE, 2 REG, 3 INVERT, 4 COMPILE. -/
def State.ofKind (s : State) (kind : Nat) : Option Nat :=
  (List.range s.scount).find? fun k => s.skind k == kind

def State.gateSensor (s : State) : Option Nat := s.ofKind 1
def State.regSensor (s : State) : Option Nat := s.ofKind 2
def State.invertSensor (s : State) : Option Nat := s.ofKind 3
def State.compileSensor (s : State) : Option Nat := s.ofKind 4

/-- Sensor k is eligible as next sensor of a FORWARD record with this route (R32; an absent route counts as MAIN at a
role without a gate, R6). Branch codes: 0 COMMON, 1 MAIN, 2 ALT. -/
def State.eligible (s : State) (route : Option Route) (k : Nat) : Bool :=
  match s.role, route with
  | .invert, none => s.sbranch k == 0 || s.gateSensor == some k
  | .exit, none => s.sbranch k == 0 || s.gateSensor == some k
  | .invert, some .alt => s.sbranch k == 0 || s.sbranch k == 2
  | .exit, some .alt => s.sbranch k == 0 || s.sbranch k == 2
  | _, _ => s.sbranch k == 0 || s.sbranch k == 1

/-- The lowest-numbered eligible sensor in use numbered above k (R32). -/
def State.nextAbove (s : State) (route : Option Route) (k : Nat) : Option Nat :=
  (List.range s.scount).find? fun j => decide (k < j) && s.eligible route j

/-- The next sensor after sensor k: by R32 for a FORWARD record, none for a REVERSE one. -/
def State.nextSensor (s : State) (r : Record) (k : Nat) : Option Nat :=
  match r.dir with
  | .forward => s.nextAbove r.route k
  | .reverse => none

/-- The window of a record at sensor k, from the values in force (R28 forward, R29 reverse). -/
def State.windowAt (s : State) (dir : Direction) (ref k : Nat) : Window :=
  match dir with
  | .forward =>
    { early := s.spos k - s.tEarly
      late := min (s.spos k + s.tLate + slipTerm s.slip (s.spos k - ref)) 65535 }
  | .reverse =>
    { early := min (s.spos k + s.tEarly) 65535
      late := s.spos k - (s.tLate + slipTerm s.slip (ref - s.spos k)) }

/-- The window the Track Unit holds for a record: none for a ghost, an EXPECTED record, or one without next sensor
(R27). -/
def State.windowOf (s : State) (r : Record) : Option Window :=
  match r.next with
  | none => none
  | some k => if r.marks.ghost ∨ r.place = .expected then none else some (s.windowAt r.dir r.ref k)

/-- The zone channel of sensor k (R16). -/
def State.zoneOf (s : State) (k : Nat) : Channel := if s.szone k = 1 then .b else .a

/-- The channel driving a record, none for an EXPECTED one (R24). -/
def State.drivenBy (s : State) (r : Record) : Option Channel :=
  if r.place = .expected then none
  else if s.role = .invert ∧ r.route = some .alt ∧ r.reached.gate = true then some .b
  else match r.next with
    | some k => some (s.zoneOf k)
    | none => some .a

/-- A record occupies the entry (R5). -/
def Record.occupiesEntry (r : Record) : Bool :=
  match r.place with
  | .expected => true
  | .entering => true
  | .inside => false
  | .exiting => !r.reached.entry

/-- Some record occupies the entry (R78 cause 6). -/
def State.entryOccupied (s : State) : Bool := s.track.queue.any Record.occupiesEntry

/-- A record would be routed ALT at an INVERT station as it stands (R95). -/
def Record.wouldLoop (r : Record) : Bool :=
  decide (r.side = .first) && !r.marks.broken && !r.marks.spoiled && !r.marks.ghost

/-- A LOOP record (R100). -/
def Record.isLoop (r : Record) : Bool :=
  match r.route with
  | some .alt => true
  | some .main => false
  | none => r.wouldLoop

/-- A record of an INVERT station has stopped being a LOOP record in an event that began in state `before`: it has left
the queue, or its marks or its route end it (R100, R106). -/
def State.loopEnded (s before : State) : Bool :=
  decide (s.role = .invert) && before.track.queue.any fun r =>
    r.isLoop && !(s.track.queue.any fun x => x.tag == r.tag && x.isLoop)

/-- A LOOP-bound offer (R100). -/
def State.loopBound (s : State) (o : Offer) : Bool :=
  decide (o.side = .first) && !o.marks.broken && !o.marks.spoiled && !o.marks.ghost &&
    !s.track.broken.contains o.tag.set

/-- The downstream of a record: DN2 for an ALT record at an INVERT station, DN1 for any other (R69, R95). -/
def State.downstream (s : State) (r : Record) : Nat :=
  if s.role = .invert ∧ r.route = some .alt then s.dn2 else s.dn1

/-- The upstream named by a source; none for PICK (R6, R60). -/
def State.upstreamOf (s : State) : Source → Option Nat
  | .up1 => some s.up1
  | .up2 => some s.up2
  | .pick => none

/-- The address of an upstream side. -/
def State.sideAddr (s : State) : UpSide → Nat
  | .up1 => s.up1
  | .up2 => s.up2

/-- The record's downstream has taken it (R7, R73). A record taken by DN1 whose route then becomes ALT has DN2 as its
downstream for every rule of the upstream side from then on (R95), so it counts as not taken, and the other way round
after a ROUTE fault: DEDUCED (log entry 54). -/
def State.taken (s : State) (r : Record) : Bool := decide (r.stage = .taken (s.downstream r))

/-- Exit stage NONE, OFFERED or DEFERRED with the record's downstream (R69, R72, R104). -/
def State.untaken (s : State) (r : Record) : Bool := !s.taken r

/-- The trail of a record lies beyond its exit boundary (R76). -/
def State.trailOut (s : State) (r : Record) : Bool :=
  match r.dir with
  | .forward => decide (s.exitX + r.length ≤ r.pos)
  | .reverse => decide (r.pos + r.length ≤ s.aExit)

/-- A record is at its exit boundary: the threshold has been reached (R26, R73). -/
def Record.atBoundary (r : Record) : Bool :=
  match r.dir with
  | .forward => r.reached.exit
  | .reverse => r.reached.revExit

/-- The covering distance of an owner at a sensor, in pu (R38). -/
def covering (r : Record) (q : Sensor) : Nat := (r.odo - q.latch) / 256

/-- The greatest covering distance that raises no STALL (R40). -/
def State.stallLimit (s : State) (r : Record) : Nat := r.length + s.tLen + slipTerm s.slip r.length

/-- The side number of the image a record needs (R110). -/
def Record.imageSide (r : Record) : Nat := if r.side = .second then 2 else 1

/-- Some record in the queue has image state WAITING (R115). -/
def State.someWaiting (s : State) : Bool := s.track.queue.any fun r => decide (r.image = some .waiting)

/-! ### Lines -/

/-- Line n reads active: it has an input function and its level is the active one (R164). -/
def State.lineReads (s : State) (f : LineFunction) (n : Nat) : Bool :=
  decide (s.lineFunction n = f) && (s.pins.lines.getLsbD n == s.lineActiveHigh n)

/-- An input function is active while at least one line of the function reads active (R164). -/
def State.functionActive (s : State) (f : LineFunction) : Bool := (List.range 4).any fun n => s.lineReads f n

/-- Some sensor in use is covered (R17). -/
def State.someCovered (s : State) : Bool := (List.range s.scount).any fun k => (s.sensor k).covered

/-- Some sensor in use is in the self-test failure set (R161). -/
def State.someFailed (s : State) : Bool := (List.range s.scount).any fun k => s.sens.failed.getLsbD k

/-! ### Channels -/

def State.chan (s : State) : Channel → Chan
  | .a => s.drive.chA
  | .b => s.drive.chB

/-- Both channels stand. -/
def State.bothStopped (s : State) : Bool :=
  decide (s.drive.chA.run = .stopped ∧ s.drive.chB.run = .stopped)

/-- The common conditions of demand: a stepping state and an empty hold set (R50, R51). -/
def State.mayRun (s : State) : Bool := s.ctl.st.steps && s.drive.hold.isEmpty

/-- Channel A has demand (R50). -/
def State.demandA (s : State) : Bool :=
  s.mayRun && (decide (s.ctl.st = .running) || !s.track.queue.isEmpty ||
    (decide (s.role = .feed ∧ s.ctl.st = .draining) && s.feed.pick.isSome))

/-- The pick spacing threshold GAPMIN − PICKD, 0 when negative (R19). -/
def State.pickSpacing (s : State) : Nat := s.gapMin - s.pickD

/-- The stops of the inverter sequence (R51, R101). -/
def InverterState.stops : InverterState → Bool
  | .stopping | .returnWait | .blocked => true
  | _ => false

/-- Channel B has demand (R51). -/
def State.demandB (s : State) : Bool :=
  s.mayRun &&
  match s.role with
  | .feed =>
    s.feed.pick.isSome ||
      (!s.feed.orders.isEmpty && !(s.sensor 0).covered && decide (s.gapAt 0 < s.pickSpacing))
  | .invert => s.track.queue.any (fun r => decide (r.route = some .alt)) && !s.inv.seq.stops
  | _ => (List.range s.scount).any (fun k => s.szone k == 1) && s.demandA

/-- period(i) of the ramp table (R52), S being RST, or T when RST is smaller. -/
def rampPeriod (start target len i : Nat) : Nat :=
  if len = 0 then target else max start target - (max start target - target) * i / len

/-- The period of a channel's step to come: period(i + 1) in RAMP-UP, T AT SPEED, period(i − 1) in RAMP-DOWN (R53,
R54); 0 while STOPPED. -/
def State.nextPeriod (s : State) (ch : Channel) : Nat :=
  match (s.chan ch).run with
  | .stopped => 0
  | .rampUp => rampPeriod (s.rampStart ch) (s.target ch) (s.rampLen ch) ((s.chan ch).ramp + 1)
  | .atSpeed => s.target ch
  | .rampDown => rampPeriod (s.rampStart ch) (s.target ch) (s.rampLen ch) ((s.chan ch).ramp - 1)

/-- The wait before a channel's step to come, in ticks of 0.5 µs: P × 2^PRES (R47). -/
def State.interval (s : State) (ch : Channel) : Nat := (s.chan ch).period * 2 ^ s.prescale ch

/-! ### Holds and neighbours -/

def OwnReason.holdsIn (r : OwnReason) (o : Reasons) : Bool :=
  match r with
  | .handoffWait => o.handoffWait
  | .imageWait => o.imageWait
  | .trayWait => o.trayWait
  | .loopWait => o.loopWait

/-- Some own reason is present. -/
def Reasons.any (o : Reasons) : Bool := o.handoffWait || o.imageWait || o.trayWait || o.loopWait

/-- The hold set's entry for an origin (R59). -/
def State.holdEntry? (s : State) (origin : Nat) : Option HoldEntry :=
  s.drive.hold.find? fun e => e.origin == origin

/-- The neighbour on the far side of the boundary at which an EXITING record is gripped: DN2 for a REVERSE record at an
INVERT station, DN1 for any other, whatever its route (R60). -/
def State.boundaryNeighbour (s : State) (r : Record) : Nat :=
  if s.role = .invert ∧ r.dir = .reverse then s.dn2 else s.dn1

/-- The neighbours a record makes sharing (R60). -/
def State.sharedBy (s : State) (r : Record) : List Nat :=
  (if r.occupiesEntry then (s.upstreamOf r.source).toList else []) ++
    (if r.place = .exiting then [s.boundaryNeighbour r] else [])

/-- The sharing neighbours, each once, none of them 0 (R60). The spec gives no order in which HOLD or GO is queued to
several of them in one event; queue order, a record's upstream before its downstream, is DESIGN CHOICE (log entry 40). -/
def State.sharing (s : State) : List Nat :=
  ((s.track.queue.flatMap s.sharedBy).filter fun a => a != 0).eraseDups

/-- There is a place for an entry of another origin (R59). -/
def State.holdHasPlace (s : State) : Bool :=
  if (s.holdEntry? s.ctl.address).isSome then decide (s.drive.hold.length ≤ 7)
  else decide (s.drive.hold.length ≤ 6)

/-! ### Offers and slots -/

def State.slot (s : State) : UpSide → Option Offer
  | .up1 => s.hand.slot1
  | .up2 => s.hand.slot2

def State.deferral (s : State) : UpSide → Option Deferral
  | .up1 => s.hand.deferred1
  | .up2 => s.hand.deferred2

/-- The other upstream side. -/
def UpSide.other : UpSide → UpSide
  | .up1 => .up2
  | .up2 => .up1

/-- A slot holds an offer of this tag. -/
def State.slotHolds (s : State) (side : UpSide) (t : Tag) : Bool :=
  match s.slot side with
  | some o => o.tag == t
  | none => false

/-- A sheet inside the drain boundary (R79). -/
def State.insideDrain (s : State) (side : Side) (t : Tag) : Bool :=
  decide (side = .second) ||
    (!s.drainSheet && s.hand.setInProgress == some t.set && decide (1 < t.seq))

/-- What an examination finds for an offer (R78): a lasting cause with its DEFER reason, a temporary cause, or none. -/
inductive Verdict where
  | lasting (reason : DeferReason)
  | waits
  | free
deriving DecidableEq, Repr

/-- A ghost is offered to a station whose SWEEP was refused (R168). A SWEEPING station that refuses a second SWEEP goes
on with the sweep it has, and R78 alone judges the ghosts offered to it: DEDUCED (log entry 49). -/
def State.ghostBarred (s : State) (o : Offer) : Bool :=
  o.marks.ghost && s.sweep.refused && decide (s.ctl.st ≠ .sweeping)

/-- The causes of R78 in their order; the ghost of a sweep that the station has refused is deferred STATE (R168), at the
place of cause 2 (DESIGN CHOICE, log entry 49). -/
def State.judge (s : State) (side : UpSide) (o : Offer) : Verdict :=
  if s.drive.hold ≠ [] then .lasting .held
  else if (s.ctl.st ≠ .running ∧ s.ctl.st ≠ .draining ∧ s.ctl.st ≠ .sweeping) ∨ s.ghostBarred o then .lasting .state
  else if s.held o.tag ∨ s.slotHolds side.other o.tag then .lasting .duplicate
  else if s.ctl.st = .draining ∧ s.insideDrain o.side o.tag = false then .lasting .drain
  else if 8 ≤ s.track.queue.length then .waits
  else if s.entryOccupied then .waits
  else if s.role = .invert ∧ s.loopBound o ∧ s.track.queue.any Record.isLoop then .waits
  else .free

/-- A slot holds an offer that no cause stops (R91). -/
def State.slotFree (s : State) (side : UpSide) : Bool :=
  match s.slot side with
  | some o => decide (s.judge side o = .free)
  | none => false

/-! ### Records at their thresholds, as the owning blocks see them -/

/-- The tag of the record at the stop point: the head non-EXITING record, ALT records of an INVERT station passed over,
past its stop point and not TAKEN (R72). -/
def State.stopDue (s : State) : Option Tag :=
  if s.role = .exit then none
  else match s.track.queue.find? (fun r =>
      decide (r.place ≠ .exiting) && !(decide (s.role = .invert) && decide (r.route = some .alt))) with
    | none => none
    | some r => if r.reached.stop = true ∧ s.untaken r = true then some r.tag else none

/-- TRAY_WAIT is due: an operation runs and a MAIN record is past the compile stop point (R135). -/
def State.trayDue (s : State) : Bool :=
  decide (s.role = .exit) && decide (s.comp.op ≠ .none) &&
    s.track.queue.any fun r => decide (r.route = some .main) && r.reached.compileStop

/-- LOOP_WAIT is due: the sequence is BLOCKED and the loop record is EXITING (R108). -/
def State.loopDue (s : State) : Bool :=
  decide (s.inv.seq = .blocked) &&
    s.track.queue.any fun r => (s.inv.loop == some r.tag) && decide (r.place = .exiting)

/-- The gate is clear: its sensor is uncovered and it has no occupant (R96). -/
def State.gateClear (s : State) : Bool :=
  s.gate.occupant.isNone &&
  match s.gateSensor with
  | some k => !(s.sensor k).covered
  | none => true

/-! ### Output lines (R155, R156, R164, R166) -/

/-- FAULT_LAMP is active (R148, R166). -/
def State.faultLamp (s : State) : Bool := !s.flt.stack.isEmpty || decide (s.ctl.st = .lockdown)

/-- Every output line is driven inactive: the RESET pin is low or the station is in SELFTEST (R155, R156). -/
def State.outputsOff (s : State) : Bool := s.ctl.resetLow || decide (s.ctl.st = .selftest)

/-- The EJECT line is active. -/
def State.ejectOut (s : State) : Bool := !s.outputsOff && s.comp.ejectLine

/-- The DUMP line is active. -/
def State.dumpOut (s : State) : Bool := !s.outputsOff && s.comp.dumpLine

/-- The direction line of a channel (R47): FORWARD is its inactive level, the one a full reset leaves it at (R155). -/
def State.directionOut (s : State) (ch : Channel) : Direction := if s.outputsOff then .forward else (s.chan ch).dir

/-- The emitter drives of the six sensor inputs are on: off from the entry to SELFTEST to the end of its 50 ms (R156).
The spec gives them no level while the RESET pin is low; off, as the outputs are, is DESIGN CHOICE (log entry 35). -/
def State.emittersOn (s : State) : Bool := !s.ctl.resetLow && !s.ctl.selftest

/-- The gate line: MAIN is its inactive position, where a full reset drives it (R94, R155). -/
def State.gateOut (s : State) : Route := if s.outputsOff then .main else s.gate.output

/-- The level driven on assignable line n (high or not); none when the line is not an output (R164, R166). -/
def State.lineOut (s : State) (n : Nat) : Option Bool :=
  let level (active : Bool) : Option Bool :=
    some (if s.outputsOff then !s.lineActiveHigh n else active == s.lineActiveHigh n)
  match s.lineFunction n with
  | .pageSync => level s.reg.pulse
  | .offset => level s.comp.offset
  | .faultLamp => level s.faultLamp
  | _ => none

end Sys2Proof.Machine
end

