-- ==== Sys2Proof/Machine/Ops.lean ====
section
/-! DEFINITION. The named operations that the meanings share: counting and queueing frames (R184, R186), raising a fault
(R139 to R141), updating a record or a sensor, the hold set (R59 to R67), the two step generators (R53 to R57), and
queueing a STATUS reply (R163). Each is written over the block it owns. -/

namespace Sys2Proof.Machine

/-! ### The Path Bus Port: counters and the transmit queue -/

def countStale (s : State) : State := { s with port := { s.port with stale := incSat s.port.stale } }
def countForeign (s : State) : State := { s with port := { s.port with foreign := incSat s.port.foreign } }
def countCheckError (s : State) : State := { s with port := { s.port with checkErrors := incSat s.port.checkErrors } }
def countOverrun (s : State) : State := { s with port := { s.port with overruns := incSat s.port.overruns } }

/-- The class of a frame (R181). -/
def FrameBody.cls : FrameBody → Nat
  | .halt _ => 0
  | .pass _ _ => 1
  | .arrived _ _ => 1
  | .hold _ => 1
  | .go _ => 1
  | .broken _ => 1
  | .offer _ => 2
  | .take _ _ => 2
  | .defer _ _ _ => 2
  | .ready => 2
  | .sync _ _ _ => 4
  | .status _ => 5
  | .statusFaults _ _ => 5
  | .statusBus _ => 5
  | .statusSweep _ => 5
  | .fault _ => 5
  | .delivered _ _ _ => 5
  | .purged _ _ _ => 5
  | .join _ _ _ _ => 5
  | .sweepReport _ => 5

/-- The class of a place of the transmit queue. -/
def TxEntry.cls (e : TxEntry) : Nat := e.frame.body.cls

/-- A frame joins behind every frame of its class or a better one (R184). -/
def insertByClass (e : TxEntry) : List TxEntry → List TxEntry
  | [] => [e]
  | x :: xs => if e.cls < x.cls then e :: x :: xs else x :: insertByClass e xs

/-- The worst class among the frames that are not being sent (R184). -/
def worstClass : List TxEntry → Option Nat
  | [] => none
  | x :: xs =>
    if x.sending then worstClass xs
    else match worstClass xs with
      | none => some x.cls
      | some c => some (max x.cls c)

/-- An entry that an eviction of class c may take: of that class and not being sent (R184). -/
def TxEntry.evictable (c : Nat) (e : TxEntry) : Bool := !e.sending && e.cls == c

/-- The queue without its newest evictable frame of class c (R184). -/
def dropNewest (c : Nat) : List TxEntry → List TxEntry
  | [] => []
  | x :: xs =>
    if xs.any (TxEntry.evictable c) then x :: dropNewest c xs
    else if x.evictable c then xs
    else x :: dropNewest c xs

/-- A frame is queued: it joins, evicts the newest frame of the worst class, or is dropped (R184). -/
def Port.enqueue (p : Port) (f : Frame) : Port :=
  if p.tx.length < 12 then { p with tx := insertByClass ⟨f, false⟩ p.tx }
  else match worstClass p.tx with
    | none => { p with drops := incSat p.drops }
    | some c =>
      if f.body.cls < c then
        { p with tx := insertByClass ⟨f, false⟩ (dropNewest c p.tx), drops := incSat p.drops }
      else { p with drops := incSat p.drops }

/-- A frame is queued to an address; address 0 is no neighbour, and nothing is sent to it (R60, R69). -/
def Port.post (p : Port) (dst : Nat) (body : FrameBody) : Port := if dst = 0 then p else p.enqueue ⟨dst, body⟩

/-- A frame is queued to each address of a list, in order. -/
def Port.postAll (p : Port) (dsts : List Nat) (body : FrameBody) : Port :=
  dsts.foldl (fun q d => q.post d body) p

def send (dst : Nat) (body : FrameBody) (s : State) : State := { s with port := s.port.post dst body }

def sendAll (dsts : List Nat) (body : FrameBody) (s : State) : State := { s with port := s.port.postAll dsts body }

/-- The destination that names all stations (R178). -/
def everyone : Nat := 63

/-! ### Raising a fault (R139 to R141) -/

/-- The counter of a code is increased by one, saturating at 255 (R140). -/
def FaultUnit.count (f : FaultUnit) (c : FaultCode) : FaultUnit :=
  { f with counters := f.counters.set c.code (incSat (f.counters.getD c.code 0)) }

/-- The pending request of a code (R141). -/
def FaultUnit.pendingOf (f : FaultUnit) (c : FaultCode) : Option Request := f.pending.find? fun q => q.code == c

/-- A raised request becomes pending unless one of its code already is (R141). -/
def FaultUnit.pend (f : FaultUnit) (q : Request) : FaultUnit :=
  match f.pendingOf q.code with
  | some _ => f
  | none => { f with pending := f.pending ++ [q] }

/-- Requests raised in SELFTEST, UNCONFIGURED and LOCKDOWN do not become pending (R141). -/
def StationState.faultsPend : StationState → Bool
  | .selftest | .unconfigured | .lockdown => false
  | _ => true

/-- A fault is raised: counted always, pending where the state lets it (R140, R141). -/
def raise (q : Request) (s : State) : State :=
  { s with flt := if s.ctl.st.faultsPend then (s.flt.count q.code).pend q else s.flt.count q.code }

/-- The request a block raises against a record (R139). -/
def requestFor (code : FaultCode) (r : Record) (position sensor : Option Nat) : Request :=
  { code := code, original := none, involved := some r.tag, tag := some r.tag, last := r.last, position := position,
    sensor := sensor, worst := r.worst, ghost := r.marks.ghost, gone := false }

/-- The request a block raises with no involved record; the tag where the raising rule names one (R139). -/
def requestBare (code : FaultCode) (tag : Option Tag) (last : Bool) (sensor : Option Nat) : Request :=
  { code := code, original := none, involved := none, tag := tag, last := last, position := none, sensor := sensor,
    worst := 0, ghost := false, gone := false }

/-- A request whose involved record leaves the queue knows it (R145). -/
def Request.without (t : Tag) (q : Request) : Request := if q.involved = some t then { q with gone := true } else q

/-- The pending requests when a record leaves the queue: kept, its own as of a record that has left (R145, R154). -/
def FaultUnit.without (f : FaultUnit) (t : Tag) : FaultUnit := { f with pending := f.pending.map (Request.without t) }

/-! ### Records and sensors -/

/-- The record with a tag is changed; the others stay. -/
def mapRec (t : Tag) (f : Record → Record) (s : State) : State :=
  { s with track := { s.track with queue := s.track.queue.map fun r => if r.tag = t then f r else r } }

/-- What a block does with the record of a tag, if the queue still holds it. -/
def onRec (t : Tag) (f : Record → State → State) (s : State) : State :=
  match s.rec? t with
  | some r => f r s
  | none => s

def setSensor (k : Nat) (f : Sensor → Sensor) (s : State) : State :=
  { s with sens := { s.sens with sensors := s.sens.sensors.modify k f } }

/-- A sensor without owner (R14, R18, R46). -/
def Sensor.disown (q : Sensor) : Sensor := { q with owner := none, confirmed := false, stalled := false }

/-! ### READY to deferred upstreams (R82) -/

def Handoff.clearDeferral (h : Handoff) : UpSide → Handoff
  | .up1 => { h with deferred1 := none }
  | .up2 => { h with deferred2 := none }

def Handoff.setDeferral (h : Handoff) (d : Deferral) : UpSide → Handoff
  | .up1 => { h with deferred1 := some d }
  | .up2 => { h with deferred2 := some d }

def Handoff.setSlot (h : Handoff) (o : Option Offer) : UpSide → Handoff
  | .up1 => { h with slot1 := o }
  | .up2 => { h with slot2 := o }

/-- A deferral is one that READY now ends. -/
def State.owesReady (s : State) (p : Deferral → Bool) (side : UpSide) : Bool :=
  match s.deferral side with
  | some d => p d
  | none => false

/-- READY is queued to a deferred upstream whose reason has ended, and its entry removed (R82). -/
def sendReady (p : Deferral → Bool) (side : UpSide) (s : State) : State :=
  if s.owesReady p side then
    { s with port := s.port.post (s.sideAddr side) .ready, hand := s.hand.clearDeferral side }
  else s

/-- The same for both upstreams, UP1 first. -/
def sendReadies (p : Deferral → Bool) (s : State) : State := sendReady p .up2 (sendReady p .up1 s)

def Deferral.isHeld (d : Deferral) : Bool := decide (d.reason = .held)
def Deferral.isState (d : Deferral) : Bool := decide (d.reason = .state)
def Deferral.isStateOrDrain (d : Deferral) : Bool := decide (d.reason = .state) || decide (d.reason = .drain)

/-- The duplicated set and sequence is carried by no record and by no offer in the other slot (R82, DUPLICATE). -/
def State.dupGone (s : State) (side : UpSide) (d : Deferral) : Bool :=
  decide (d.reason = .duplicate) &&
  match d.dup with
  | some t => !s.held t && !s.slotHolds side.other t
  | none => true

/-- READY to each upstream deferred DUPLICATE whose duplicate is gone (R82). On entering LOCKDOWN the slots are emptied
(R80) while R90 says the deferred-upstream set is kept: where the emptying takes the duplicate away, that R82 holds and
READY is queued in that event is DEDUCED (log entry 40). -/
def sendDuplicateReadies (s : State) : State :=
  let s1 := sendReady (s.dupGone .up1) .up1 s
  sendReady (s1.dupGone .up2) .up2 s1

/-! ### The hold set (R59 to R67) -/

def OwnReason.put (r : OwnReason) (on : Bool) (o : Reasons) : Reasons :=
  match r with
  | .handoffWait => { o with handoffWait := on }
  | .imageWait => { o with imageWait := on }
  | .trayWait => { o with trayWait := on }
  | .loopWait => { o with loopWait := on }

/-- The own entry holds this reason. -/
def State.ownHolds (s : State) (r : OwnReason) : Bool :=
  match s.holdEntry? s.ctl.address with
  | some e => r.holdsIn e.own
  | none => false

def State.withHold (s : State) (hold : List HoldEntry) : State := { s with drive := { s.drive with hold := hold } }

/-- A running channel that loses demand ramps down, or stands at once at ramp index 0 (R54). -/
def Chan.loseDemand (c : Chan) : Chan :=
  if c.run = .rampUp ∨ c.run = .atSpeed then
    (if c.ramp = 0 then { c with run := .stopped } else { c with run := .rampDown })
  else c

/-- Both channels lose demand where the hold set is empty: an own entry is about to join it (R61). -/
def State.yieldDemand (s : State) : State :=
  if s.drive.hold = [] then
    { s with drive := { s.drive with chA := s.drive.chA.loseDemand, chB := s.drive.chB.loseDemand } }
  else s

/-- An own reason is added (R61): a new own entry removes demand from both channels if the set was empty, so that a
ramp-down begins then (R54) and is finished whatever the event does to the set afterwards (R55), and it sends HOLD to each
sharing neighbour; an own entry already present gains the reason and sends nothing. -/
def addReason (r : OwnReason) (s : State) : State :=
  match s.holdEntry? s.ctl.address with
  | some _ =>
    s.withHold (s.drive.hold.map fun e =>
      if e.origin = s.ctl.address then { e with own := r.put true e.own } else e)
  | none =>
    sendAll s.sharing (.hold s.ctl.address)
      (s.yieldDemand.withHold (s.drive.hold ++
        [{ origin := s.ctl.address, own := r.put true Reasons.none, via := none, fwd := s.sharing }]))

/-- READY to the upstreams deferred HELD once the hold set is empty (R66, R82). -/
def tellHoldEmpty (s : State) : State := if s.drive.hold.isEmpty then sendReadies Deferral.isHeld s else s

/-- An entry leaves the hold set: GO for its origin goes to its forwarded list (R62, R64). -/
def releaseEntry (e : HoldEntry) (s : State) : State :=
  tellHoldEmpty (sendAll e.fwd (.go e.origin)
    (s.withHold (s.drive.hold.filter fun x => x.origin != e.origin)))

/-- An own reason is removed (R62); a reason the own entry does not hold changes nothing. -/
def removeReason (r : OwnReason) (s : State) : State :=
  match s.holdEntry? s.ctl.address with
  | none => s
  | some e =>
    if r.holdsIn e.own = false then s
    else if (r.put false e.own).any then
      s.withHold (s.drive.hold.map fun x =>
        if x.origin = s.ctl.address then { x with own := r.put false x.own } else x)
    else releaseEntry e s

/-- The neighbour is to learn of this entry: it is not the origin, not where the HOLD came from, and not yet in the
forwarded list (R65). -/
def HoldEntry.lacks (e : HoldEntry) (nb : Nat) : Bool :=
  decide (nb ≠ 0) && decide (e.origin ≠ nb) && decide (e.via ≠ some nb) && !e.fwd.contains nb

/-- A neighbour has come to share a sheet: HOLD goes to it for every entry it lacks (R65). The entries have no order among
themselves (R59); that their frames are queued in the order in which they were added is DESIGN CHOICE (log entry 40). -/
def extendHolds (nb : Nat) (s : State) : State :=
  { s with
    port := (s.drive.hold.filter (HoldEntry.lacks · nb)).foldl (fun p e => p.post nb (.hold e.origin)) s.port
    drive := { s.drive with
      hold := s.drive.hold.map fun e => if e.lacks nb then { e with fwd := e.fwd ++ [nb] } else e } }

/-- The hold set is cleared (R67): GO for each entry to its forwarded list, then no entry; the waits that lived on own
reasons end (R74, R116). The entries have no order among themselves (R59); that their GO frames are queued in the order
in which the entries were added is DESIGN CHOICE (log entry 40). -/
def clearHold (s : State) : State :=
  { s with
    port := s.drive.hold.foldl (fun p e => p.postAll e.fwd (.go e.origin)) s.port
    drive := { s.drive with hold := [] }
    hand := { s.hand with waiting := none, holdTimer := .idle }
    reg := { s.reg with timer := .idle } }

/-! ### The step generators (R53 to R57) -/

/-- A stopped channel applies the direction wanted (R55, R57). -/
def Chan.applyWant (c : Chan) : Chan :=
  if c.run = .stopped then
    match c.want with
    | some d => { c with dir := d, want := none }
    | none => c
  else c

/-- A stopped channel with demand and no direction wanted begins a ramp-up; with K = 0 it is AT SPEED at once (R53). -/
def Chan.beginRamp (c : Chan) (len : Nat) : Chan :=
  if c.run = .stopped ∧ c.want = none then
    (if len = 0 then { c with run := .atSpeed, ramp := 0 } else { c with run := .rampUp, ramp := 0 })
  else c

/-- The generator issues one step (R53, R54). -/
def Chan.issue (c : Chan) (len : Nat) : Chan :=
  match c.run with
  | .stopped => c
  | .rampUp =>
    if len ≤ c.ramp + 1 then { c with run := .atSpeed, ramp := len } else { c with ramp := c.ramp + 1 }
  | .atSpeed => c
  | .rampDown =>
    if c.ramp ≤ 1 then { c with run := .stopped, ramp := 0 } else { c with ramp := c.ramp - 1 }

/-- An emergency stop of one channel (R56). -/
def Chan.halt (c : Chan) : Chan := Chan.applyWant { c with run := .stopped, ramp := 0, period := 0 }

/-- A direction is requested (R57). -/
def Chan.request (c : Chan) (d : Direction) : Chan :=
  if c.run = .stopped then { c with dir := d, want := none }
  else if c.dir = d then { c with want := none }
  else { c with want := some d }

def setChan (ch : Channel) (f : Chan → Chan) (s : State) : State :=
  match ch with
  | .a => { s with drive := { s.drive with chA := f s.drive.chA } }
  | .b => { s with drive := { s.drive with chB := f s.drive.chB } }

/-- An emergency stop of both channels (R56). -/
def emergencyStop (s : State) : State :=
  { s with drive := { s.drive with chA := s.drive.chA.halt, chB := s.drive.chB.halt } }

/-! ### STATUS (R163) -/

/-- The fields of STATUS kind 0 as they stand (R163). -/
def State.statusOf (s : State) (reason : StatusReason) (failing : Option Nat) : Status :=
  { state := s.ctl.st, reason := reason, failing := failing, queueCount := s.track.queue.length,
    depth := s.flt.stack.length, top := s.flt.stack.head?.map Context.code, holdCount := s.drive.hold.length }

/-- A STATUS reply is queued to ENGADDR (R163). -/
def reply (reason : StatusReason) (s : State) : State := send s.engAddr (.status (s.statusOf reason none)) s

/-- A STATUS reply with the failing index of a commit check (R160, R188). -/
def replyConfig (failing : Option Nat) (s : State) : State :=
  match failing with
  | none => reply .none s
  | some i => send s.engAddr (.status (s.statusOf .config (some i))) s

end Sys2Proof.Machine
end

