-- ==== Sys2Proof/Machine/Tray.lean ====
section
/-! DEFINITION. The compile tray (spec 07): ordering, beginning and completing an eject or a dump, the tray's answer to a
broken set (R126), and the breaking of sets (R20 to R22) with the image list and image wait they end (R113, R118). The
entry of sheets into the tray is in Machine/Compile.lean. -/

namespace Sys2Proof.Machine

/-! ### Operations on the tray (R130 to R133) -/

/-- The compile record of an empty tray (R131). -/
def Compile.cleared (c : Compile) : Compile :=
  { c with traySet := none, count := 0, nextSeq := 1, split := false, keepOpen := false }

/-- The ordered operation begins: line, report and timer (R130, R131, R133). -/
def beginOperation (s : State) : State :=
  match s.comp.op with
  | .none => s
  | .ejecting _ =>
    { s with
      comp := { s.comp with
        op := .ejecting .active, timer := .running, ejectLine := true, offset := !s.comp.offset }
      port := s.port.post s.engAddr (.delivered (s.comp.traySet.getD 0) s.comp.count s.comp.split) }
  | .dumping _ =>
    { s with
      comp := { s.comp with op := .dumping .active, timer := .running, dumpLine := true }
      port := s.port.post s.engAddr
        (.purged (s.comp.traySet.getD 0) s.comp.count (s.comp.dumpReason.getD .marked)) }

/-- An ordered operation meets an active BIN_FULL line: BIN is raised once (R130). -/
def binWait (s : State) : State :=
  if s.comp.binReported then s
  else { raise (requestBare .bin none false none) s with comp := { s.comp with binReported := true } }

/-- The operation just ordered begins, or waits for the bin (R130). -/
def beginOrWait (s : State) : State := if s.functionActive .binFull then binWait s else beginOperation s

/-- An eject is ordered; a split eject leaves the set open and reports split yes (R129, R132). That split is yes from the
order on, through a BIN WAIT, is DESIGN CHOICE (log entry 48). -/
def orderEject (split : Bool) (s : State) : State :=
  beginOrWait { s with comp := { s.comp with
    op := .ejecting .binWait, split := s.comp.split || split, keepOpen := split } }

/-- A dump is ordered with its reason (R129, R126). -/
def orderDump (reason : DumpReason) (s : State) : State :=
  beginOrWait { s with comp := { s.comp with
    op := .dumping .binWait, dumpReason := some reason, keepOpen := false } }

/-- No BIN_FULL line remains active: an operation in BIN WAIT begins, in any state but LOCKDOWN (R130). -/
def binFreed (s : State) : State :=
  if s.ctl.st = .lockdown then s
  else if s.comp.op = .ejecting .binWait ∨ s.comp.op = .dumping .binWait then
    beginOperation { s with comp := { s.comp with binReported := false } }
  else s

/-! ### The tray's answer to a set added to the broken set list (R126) -/

/-- The routed view forgets a broken set (R126). -/
def Compile.forgetRouted (c : Compile) (set : Nat) : Compile :=
  if c.routedSet = some set then { c with routedSet := none, routedNext := 1 } else c

/-- The tray's answer, by its operation and count (R126). -/
def answerTray (set : Nat) (reason : DumpReason) (s : State) : State :=
  if s.comp.traySet = some set then
    match s.comp.op with
    | .none =>
      if s.comp.count = 0 then { s with comp := s.comp.cleared } else orderDump reason s
    | .ejecting .binWait =>
      { s with comp := { s.comp with op := .dumping .binWait, dumpReason := some reason, keepOpen := false } }
    | .ejecting .active => { s with comp := { s.comp with keepOpen := false } }
    | .dumping _ => s
  else s

/-- The Compile Unit of an EXIT station answers a set added to the list (R126); at any other role it takes no event
(R123). -/
def answerBroken (set : Nat) (reason : DumpReason) (s : State) : State :=
  if s.role = .exit then answerTray set reason { s with comp := s.comp.forgetRouted set } else s

/-! ### Marks and image waits (R21, R118) -/

/-- A record of a broken set, ghosts excepted, is marked BROKEN (R21). -/
def Record.breakIn (set : Nat) (r : Record) : Record :=
  if r.tag.set = set ∧ r.marks.ghost = false then { r with marks := { r.marks with broken := true } } else r

/-- A WAITING record that carries BROKEN or SPOILED becomes SKIPPED (R118). -/
def Record.skipMarked (r : Record) : Record :=
  if r.image = some .waiting ∧ (r.marks.broken = true ∨ r.marks.spoiled = true) then
    { r with image := some .skipped }
  else r

/-- IMAGE_WAIT leaves the hold set, and its timer becomes IDLE, once no record is WAITING (R115, R116). -/
def reviewImageWait (s : State) : State :=
  if s.someWaiting = true ∨ s.ownHolds .imageWait = false then s
  else removeReason .imageWait { s with reg := { s.reg with timer := .idle } }

/-- After marks have been added: image waits that they end (R118). -/
def reviewMarks (s : State) : State :=
  reviewImageWait { s with track := { s.track with queue := s.track.queue.map Record.skipMarked } }

/-- Every record of the set is marked BROKEN (R21), and the blocks that watch marks answer (R118). -/
def markSet (set : Nat) (s : State) : State :=
  reviewMarks { s with track := { s.track with queue := s.track.queue.map (Record.breakIn set) } }

/-! ### The broken set list (R20 to R22) -/

/-- The list with a set added as its newest entry; a full list loses its oldest (R20). -/
def pushBroken (set : Nat) (l : List Nat) : List Nat := (if 8 ≤ l.length then l.drop 1 else l) ++ [set]

/-- A set joins the broken set list (R20): its records are marked (R21), its images forgotten (R113), and the tray
answers (R126). A set already listed keeps its place and changes nothing. -/
def addBroken (set : Nat) (reason : DumpReason) (s : State) : State :=
  if s.track.broken.contains set then s
  else
    answerBroken set reason
      (markSet set
        { s with
          track := { s.track with broken := pushBroken set s.track.broken }
          reg := { s.reg with images := s.reg.images.filter fun e => e.tag.set != set } })

/-- A local break (R22): the set is added, its records marked, and BROKEN queued to all stations; a set already listed
has its records marked and sends no frame. BROKEN is queued before the GO of an image wait that the marks end (R118):
DESIGN CHOICE (log entry 40). -/
def breakSet (set : Nat) (reason : DumpReason) (s : State) : State :=
  if s.track.broken.contains set then markSet set s
  else addBroken set reason (send everyone (.broken set) s)

end Sys2Proof.Machine
end

