-- ==== Sys2Proof/Machine/Gate.lean ====
section
/-! DEFINITION. The Gate Unit (spec 05): gate moves (R96, R97), the decision point (R95) with the route rule of the EXIT
station (R124, R125), the gate position (R98), the ROUTE fault (R99, R127), the taking of a record by the inverter
sequence (R102, R108), and the sequence checker (R175). -/

namespace Sys2Proof.Machine

/-! ### Gate moves (R94, R96, R97) -/

/-- A move toward a route begins: the gate output changes; with GATESW 0 it completes at once (R96, R97). -/
def startMove (target : Route) (s : State) : State :=
  { s with gate :=
      if s.gateSw = 0 then { s.gate with output := target, position := target, move := .none }
      else { s.gate with output := target, move := .moving target 0 } }

/-- A move toward a route is made: MOVING when the gate is clear, WAITING otherwise (R96). -/
def makeMove (target : Route) (s : State) : State :=
  if s.gateClear then startMove target s else { s with gate := { s.gate with move := .waiting target } }

/-- The route the gate is to serve: that of the head of the gate list (R96). -/
def State.gateWanted (s : State) : Option Route :=
  match s.gate.list.head? with
  | none => none
  | some t => (s.rec? t).bind Record.route

/-- The gate serves the head of the gate list (R96). -/
def serveGate (s : State) : State :=
  match s.gate.move with
  | .moving _ _ => s
  | .waiting target => if s.gateClear then startMove target s else s
  | .none =>
    match s.gateWanted with
    | none => s
    | some route => if route = s.gate.position then s else makeMove route s

/-- A move is abandoned: the output returns to the position (R94, R99). -/
def Gate.abandon (g : Gate) : Gate := { g with output := g.position, move := .none }

/-- A step of the gate sensor's zone channel adds its length to the travel of a MOVING move, which completes at
GATESW × 256 (R97). -/
def Gate.travel (g : Gate) (len limit : Nat) : Gate :=
  match g.move with
  | .moving target travel =>
    if limit ≤ travel + len then { g with position := target, move := .none }
    else { g with move := .moving target (travel + len) }
  | _ => g

/-- The gate's share of a step (R97). -/
def gateStep (ch : Channel) (s : State) : State :=
  match s.gateSensor with
  | none => s
  | some k =>
    if s.zoneOf k = ch then { s with gate := s.gate.travel (s.stepLen ch) (s.gateSw * 256) } else s

/-- The gate occupant becomes none, and a waiting move may start (R98, R96). -/
def freeOccupant (s : State) : State := serveGate { s with gate := { s.gate with occupant := none } }

/-! ### Routes (R32, R95) -/

/-- The branch code a route does not follow (R32). -/
def Route.unfollowed : Route → Nat
  | .main => 2
  | .alt => 1

/-- The sensor chosen afresh after a change of route: the lowest eligible one above the gate sensor (R32). -/
def State.nextPastGate (s : State) (route : Route) : Option Nat :=
  s.nextAbove (some route) (s.gateSensor.getD 0)

/-- The next sensor of a record after its route changes (R32). -/
def State.rerouted (s : State) (route : Route) (next : Option Nat) : Option Nat :=
  match next with
  | none => s.nextPastGate route
  | some k =>
    if s.gateSensor ≠ some k ∧ s.sbranch k = route.unfollowed then s.nextPastGate route else some k

/-- The Track Unit takes a new route whole (R32). -/
def Record.withRoute (s : State) (route : Route) (r : Record) : Record :=
  let r1 := { r with route := some route, next := s.rerouted route r.next }
  if r1.next = r.next then r1 else { r1 with window := s.windowOf r1 }

def setRoute (t : Tag) (route : Route) (s : State) : State := mapRec t (Record.withRoute s route) s

/-- The route of a record at an INVERT station (R95). -/
def Record.invertRoute (r : Record) : Route := if r.wouldLoop then .alt else .main

/-! ### The inverter sequence takes a record (R102, R108) -/

/-- The sequence takes its loop record (R102). -/
def Inverter.fill (t : Tag) : Inverter :=
  { seq := .filling, loop := some t, runout := 0, timer := .idle, givenUp := false }

/-- An ALT decision with the sequence IDLE (R102). -/
def takeLoop (t : Tag) (s : State) : State := if s.inv.seq = .idle then { s with inv := Inverter.fill t } else s

/-- A ROUTE fault into the ALT branch: the sequence takes the record, or two sheets block it (R99, R102, R108). R99
sends the record to R108 when another ALT record is present, R102 has the sequence take it while IDLE, and R108 blocks
in any state but IDLE: where the sequence is IDLE though another ALT record is in the queue, the model goes by IDLE
alone and the sequence takes the record. DESIGN CHOICE (log entry 55). -/
def takeMisroute (t : Tag) (s : State) : State :=
  if s.inv.seq = .idle then { s with inv := Inverter.fill t }
  else { s with inv := { s.inv with seq := .blocked } }

/-- A ROUTE fault out of the ALT branch: a loop record is released (R99). -/
def releaseMisroute (t : Tag) (s : State) : State :=
  if s.inv.loop = some t then { s with inv := { s.inv with seq := .idle, loop := none, timer := .idle } } else s

/-! ### The route rule of the EXIT station (R124, R125) -/

/-- The record carries GHOST, BROKEN, SPOILED or MISROUTED (R124 case 1, R128). -/
def Marks.any (m : Marks) : Bool := m.broken || m.spoiled || m.ghost || m.misrouted

/-- A MAIN route commits the record to its bill (R124). -/
def commitMain (r : Record) (s : State) : State :=
  { s with comp := { s.comp with
      routedSet := if r.last then none else some r.tag.set
      routedNext := if r.last then 1 else r.tag.seq + 1 } }

/-- Cases 3 and 5: SEQUENCE against the record, and its set broken (R125). -/
def refuseOrder (r : Record) (s : State) : State :=
  breakSet r.tag.set .sequence (raise (requestFor .sequence r (some r.pos) s.gateSensor) s)

/-- Case 6, and a misrouted sheet bound for another bill's tray: SEQUENCE for set c, c broken, the routed set absent
(R125, R127). The tag's last flag is no, for the sequence due belongs to no sheet: DESIGN CHOICE (log entry 42). -/
def interruptBill (c seq : Nat) (s : State) : State :=
  let s1 := breakSet c .sequence (raise (requestBare .sequence (some ⟨c, seq⟩) false s.gateSensor) s)
  { s1 with comp := { s1.comp with routedSet := none, routedNext := 1 } }

/-- Cases 2 and 3: no bill is committed (R124). -/
def routeFresh (r : Record) (s : State) : Route × State :=
  if r.tag.seq = 1 then (.main, commitMain r s) else (.alt, refuseOrder r s)

/-- The route rule (R124). R128 says besides that no sheet is routed to the tray while a misrouted one is due (R127), and no
case of R124 looks for another sheet that is: the model follows the cases alone, so the first sheet of a new set is
routed MAIN then too. DESIGN CHOICE (log entry 53). -/
def routeAtExit (r : Record) (s : State) : Route × State :=
  if r.marks.any then (.alt, s)
  else match s.comp.routedSet with
    | none => routeFresh r s
    | some c =>
      if c = r.tag.set then
        (if r.tag.seq = s.comp.routedNext then (.main, commitMain r s) else (.alt, refuseOrder r s))
      else routeFresh r (interruptBill c s.comp.routedNext s)

/-! ### The decision point (R95) -/

/-- The record joins the tail of the gate list. -/
def listAtGate (t : Tag) (s : State) : State := { s with gate := { s.gate with list := s.gate.list ++ [t] } }

/-- The Gate Unit decides a record's route (R95). -/
def decideRoute (r : Record) (s : State) : State :=
  match s.role with
  | .invert =>
    let s1 := listAtGate r.tag (setRoute r.tag r.invertRoute s)
    serveGate (if r.invertRoute = .alt then takeLoop r.tag s1 else s1)
  | .exit =>
    let (route, s1) := routeAtExit r s
    serveGate (listAtGate r.tag (setRoute r.tag route s1))
  | _ => s

/-! ### The gate position (R98, R99, R127, R137, R175) -/

/-- The record leaves the gate list and becomes the gate occupant (R98, R99). -/
def occupyGate (t : Tag) (s : State) : State :=
  { s with gate := { s.gate with list := s.gate.list.filter (fun x => x != t), occupant := some t } }

/-- The Compile Unit's answer to a sheet of set `set` misrouted toward the tray (R127). -/
def misrouteToTray (set : Nat) (s : State) : State :=
  match s.comp.routedSet, s.comp.traySet with
  | some c, tray =>
    if c ≠ set then interruptBill c s.comp.routedNext s
    else match tray with
      | some d => if d ≠ set ∧ 1 ≤ s.comp.count then interruptBill d s.comp.routedNext s else s
      | none => s
  | none, some d => if d ≠ set ∧ 1 ≤ s.comp.count then interruptBill d s.comp.nextSeq s else s
  | none, none => s

/-- MISROUTED and SPOILED are set on the record (R99). -/
def Record.misroute (r : Record) : Record := { r with marks := { r.marks with misrouted := true, spoiled := true } }

/-- The marking and the break of a ROUTE fault, ghosts breaking no set (R99, R4, R22). -/
def spoilMisrouted (r : Record) (s : State) : State :=
  let s1 := mapRec r.tag Record.misroute s
  if r.marks.ghost then s1 else breakSet r.tag.set .broken s1

/-- What the new branch means to the inverter or to the tray (R99, R127). -/
def answerMisroute (r : Record) (branch : Route) (s : State) : State :=
  match s.role, branch with
  | .invert, .alt => takeMisroute r.tag s
  | .invert, .main => releaseMisroute r.tag s
  | .exit, .main => misrouteToTray r.tag.set s
  | _, _ => s

/-- The ROUTE fault (R99): raised, the move abandoned, the route that of the gate, the record marked and its set
broken, the record the gate occupant. -/
def routeFault (r : Record) (s : State) : State :=
  let s1 := raise (requestFor .route r (some r.pos) s.gateSensor) s
  let s2 := setRoute r.tag s.gate.position { s1 with gate := s1.gate.abandon }
  answerMisroute r s.gate.position (occupyGate r.tag (spoilMisrouted r s2))

/-- The sequence checker takes a ghost at the gate position (R175). -/
def SweepResults.check (q : SweepResults) (number : Nat) : SweepResults :=
  let q1 := { q with received := incSat q.received }
  if q.synced = false then
    if number = 0 then { q1 with synced := true, expectedNext := 1 }
    else { q1 with synced := true, expectedNext := number + 1, mismatches := incSat q.mismatches,
                   firstExpected := some 0, firstActual := some number }
  else if number = q.expectedNext then { q1 with expectedNext := number + 1 }
  else
    { q1 with
      expectedNext := number + 1
      mismatches := incSat q.mismatches
      firstExpected := if q.firstExpected.isNone then some q.expectedNext else q.firstExpected
      firstActual := if q.firstExpected.isNone then some number else q.firstActual }

/-- The checker runs at the EXIT station while the sweep is active (R175). -/
def checkGhost (r : Record) (s : State) : State :=
  if s.role = .exit ∧ r.marks.ghost = true ∧ s.sweep.active = true then
    { s with sweep := { s.sweep with results := s.sweep.results.check r.tag.set } }
  else s

/-- An ALT record at the gate position while a BIN_FULL line is active raises BIN (R137). Where ROUTE changes the route in
this event (R99), the route after it decides: DESIGN CHOICE (log entry 51). -/
def purgeBinFull (t : Tag) (s : State) : State :=
  onRec t (fun r s =>
    if s.role = .exit ∧ r.route = some .alt ∧ s.functionActive .binFull = true then
      raise (requestFor .bin r (some r.pos) s.gateSensor) s
    else s) s

/-- A record reaches the gate position (R98): it passes on its route, or ROUTE is raised (R99). -/
def atGate (r : Record) (s : State) : State :=
  match r.route with
  | none => s
  | some route =>
    let s1 := if route = s.gate.position then occupyGate r.tag s else routeFault r s
    serveGate (purgeBinFull r.tag (checkGhost r s1))

end Sys2Proof.Machine
end

