-- ==== Sys2Proof/Machine/Registration.lean ====
section
/-! DEFINITION. The Registration Unit (spec 06): the decision at the REG sensor (R114), the image wait (R115 to R118),
the sync point (R119 to R121), and the image ready list (R111, R112). -/

namespace Sys2Proof.Machine

/-! ### The image ready list (R110 to R112) -/

/-- An entry belongs to a record (R110). -/
def ImageEntry.belongs (e : ImageEntry) (r : Record) : Bool := e.tag == r.tag && e.side == r.imageSide

/-- An entry joins the list; a full list first loses its oldest (R112). -/
def pushImage (e : ImageEntry) (l : List ImageEntry) : List ImageEntry :=
  (if 8 ≤ l.length then l.drop 1 else l) ++ [e]

/-- An entry joins the image ready list; one pushed out is counted stale (R112). -/
def joinImages (e : ImageEntry) (s : State) : State :=
  let s1 := if 8 ≤ s.reg.images.length then countStale s else s
  { s1 with reg := { s1.reg with images := pushImage e s1.reg.images } }

/-- The entries belonging to a record leave the list (R114). -/
def dropImages (r : Record) (s : State) : State :=
  { s with reg := { s.reg with images := s.reg.images.filter fun e => !e.belongs r } }

/-! ### The sync point (R119 to R121) -/

/-- Some line has the function PAGE_SYNC (R121). -/
def State.hasPageSync (s : State) : Bool := (List.range 4).any fun n => decide (s.lineFunction n = .pageSync)

/-- SYNC is queued to ENGADDR and PAGE_SYNC pulsed (R119, R121). -/
def giveSync (r : Record) (s : State) : State :=
  { s with
    port := s.port.post s.engAddr (.sync r.tag r.last r.imageSide)
    reg := { s.reg with pulse := s.reg.pulse || s.hasPageSync } }

def setImage (t : Tag) (i : ImageState) (s : State) : State := mapRec t (fun r => { r with image := some i }) s

/-- IMAGE is raised against a record at the REG sensor (R117, R120). -/
def raiseImage (r : Record) (s : State) : State := raise (requestFor .image r (some r.pos) s.regSensor) s

/-- What the sync point does, by the record's image state (R119, R120). -/
def syncAction (r : Record) (s : State) : State :=
  match r.image with
  | some .ready =>
    if r.marks.broken = true ∨ r.marks.spoiled = true then setImage r.tag .skipped s
    else giveSync r (setImage r.tag .printed s)
  | some .waiting => reviewImageWait (raiseImage r (setImage r.tag .skipped s))
  | _ => s

/-! ### The decision at the REG sensor (R114, R115) -/

/-- A record becomes WAITING: the first one adds IMAGE_WAIT and arms the timer (R115, R116). -/
def beginImageWait (t : Tag) (s : State) : State :=
  if s.someWaiting then setImage t .waiting s
  else
    { addReason .imageWait (setImage t .waiting s) with
      reg := { s.reg with timer := .armed } }

/-- The decision (R114). -/
def decideImage (r : Record) (s : State) : State :=
  if r.marks.ghost = true ∨ r.marks.broken = true ∨ r.marks.spoiled = true then
    setImage r.tag .skipped (dropImages r s)
  else if s.reg.images.any (fun e => e.belongs r) then setImage r.tag .ready (dropImages r s)
  else beginImageWait r.tag s

/-- A FORWARD record confirmed at the REG sensor, with `before` its position before the correction: decided once, and
then acted on at the sync point if it is already there (R114, R119). -/
def atRegSensor (t : Tag) (before : Nat) (s : State) : State :=
  onRec t (fun r s =>
    if r.image ≠ none then s
    else
      let s1 := decideImage r s
      if r.reached.sync = true ∨ s.spos (s.regSensor.getD 0) + s.syncD ≤ before then
        onRec t syncAction (mapRec t (fun x => { x with reached := { x.reached with sync := true } }) s1)
      else s1) s

/-- A record missed the REG sensor: SKIPPED, and IMAGE raised against it (R120). -/
def missedReg (r : Record) (s : State) : State := raiseImage r (setImage r.tag .skipped s)

/-! ### The end of a wait (R117) -/

/-- The wait of one record ends: SKIPPED, and IMAGE raised (R117). -/
def expireImage (r : Record) (s : State) : State := raiseImage r (setImage r.tag .skipped s)

/-- The wait of every WAITING record ends, oldest first (R117). -/
def expireImages (rs : List Record) (s : State) : State :=
  rs.foldl (fun s r => if r.image = some .waiting then expireImage r s else s) s

/-! ### IMAGE frames (R111) -/

/-- The first case of R111 that applies. -/
def takeImage (e : ImageEntry) (s : State) : State :=
  if s.track.broken.contains e.tag.set then s
  else match s.track.queue.find? (fun r => r.image.isSome && e.belongs r) with
    | some r =>
      if r.image = some .waiting then reviewImageWait (setImage r.tag .ready s) else countStale s
    | none => if s.reg.images.contains e then s else joinImages e s

end Sys2Proof.Machine
end

