-- ==== Sys2Proof/Machine/Handoff.lean ====
section
/-! DEFINITION. The Handoff Unit (spec 04) and the merge arbiter (spec 05, section 5.1): records joining and leaving the
queue (R11 to R14), offers sent (R69), PASS sent (R73), offers examined, deferred and taken (R77 to R82, R91 to R93). -/

namespace Sys2Proof.Machine

/-! ### A record leaves the queue (R14, R46) -/

/-- The gate state without a record: the move that serves it abandoned, the list and the occupant without it (R94). -/
def Gate.without (g : Gate) (t : Tag) : Gate :=
  let g1 := if g.list.head? = some t ∧ g.move ≠ .none then g.abandon else g
  { g1 with list := g1.list.filter (fun x => x != t), occupant := if g1.occupant = some t then none else g1.occupant }

/-- The inverter sequence without a record: the loop record's leaving makes it IDLE (R101, R106). -/
def Inverter.without (i : Inverter) (t : Tag) : Inverter :=
  if i.loop = some t then { i with seq := .idle, loop := none, timer := .idle, givenUp := false } else i

/-- No sensor is owned by the record (R14, R18). -/
def SensorUnit.without (u : SensorUnit) (t : Tag) : SensorUnit :=
  { u with sensors := u.sensors.map fun q => if q.owner = some t then q.disown else q }

/-- A record leaves the queue whole, and every block forgets it (R14, R46, R75, R88, R94, R106, R145, R176). The gate then
serves the new head of its list at once (R96), in JAMMED too, where R94 keeps the gate state as it stands and a record can
leave by ARRIVED: DESIGN CHOICE (log entry 50). The slots are examined when the event settles (R106). -/
def leaveQueue (r : Record) (s : State) : State :=
  serveGate (reviewImageWait
    { s with
      track := { s.track with queue := s.track.queue.filter fun x => x.tag != r.tag }
      sens := s.sens.without r.tag
      gate := s.gate.without r.tag
      flt := s.flt.without r.tag
      inv := s.inv.without r.tag
      drive := if s.inv.loop = some r.tag then { s.drive with chB := s.drive.chB.request .forward } else s.drive
      hand := if s.hand.givenUp = some r.tag then { s.hand with givenUp := none } else s.hand
      feed := if s.feed.pick = some r.tag then { s.feed with pick := none } else s.feed
      sweep := if r.marks.ghost = true ∧ r.last = true then { s.sweep with lastSeen := true } else s.sweep })

/-! ### A record joins the queue (R12, R13, R21, R48, R49, R174) -/

/-- A record as it joins, before the broken set list is consulted (R12, R13). -/
def freshRecord (o : Offer) (place : Place) (source : Source) (next : Option Nat) (retries : Nat) : Record :=
  { tag := o.tag, last := o.last, side := o.side, length := o.length, speed := o.speed, marks := o.marks,
    place := place, source := source, route := none, stage := .notOffered, arrival := false, dir := .forward, lead := 0,
    odo := 0, ref := 0, next := next, worst := 0, image := none, retries := retries, window := none,
    reached := Reached.none, offerOwed := false }

/-- The broken set list marks a joining record, or learns of its set from its BROKEN mark (R21). -/
def joinBroken (r : Record) (s : State) : State :=
  if r.marks.ghost then s
  else if s.track.broken.contains r.tag.set then mapRec r.tag (Record.breakIn r.tag.set) s
  else if r.marks.broken then addBroken r.tag.set .broken s
  else s

/-- The speed index in use follows a record that joins an empty queue; another index raises SPEED (R48, R49). R49 and
R172 speak of ghosts only while index 0 is in use; that a ghost raises no SPEED under another index either is DEDUCED
(log entry 37). -/
def joinSpeed (r : Record) (s : State) : State :=
  if s.track.queue.isEmpty then { s with drive := { s.drive with speed := r.speed } }
  else if r.speed ≠ s.drive.speed ∧ r.marks.ghost = false then raise (requestFor .speed r none none) s
  else s

/-- Ghosts received are counted at every role but EXIT while the sweep is active (R174). -/
def countGhost (r : Record) (s : State) : State :=
  if r.marks.ghost = true ∧ s.sweep.active = true ∧ s.role ≠ .exit then
    { s with sweep := { s.sweep with
        results := { s.sweep.results with received := incSat s.sweep.results.received } } }
  else s

/-- The record joins at the tail, with the window of its next sensor. -/
def appendRecord (r : Record) (s : State) : State :=
  { s with track := { s.track with queue := s.track.queue ++ [{ r with window := s.windowOf r }] } }

/-- A record joins the queue, with every effect of joining. -/
def joinQueue (r : Record) (s : State) : State :=
  joinBroken r (appendRecord r (countGhost r (joinSpeed r s)))

/-- The set in progress after a TAKE or a pick start (R79). -/
def noteSet (side : Side) (ghost : Bool) (set : Nat) (last : Bool) (s : State) : State :=
  if side = .second ∨ ghost = true then s
  else { s with hand := { s.hand with setInProgress := if last then none else some set } }

/-! ### OFFER and PASS sent (R69, R73) -/

/-- An OFFER carries the record's fields as they stand (R69). -/
def Record.asOffer (r : Record) : Offer :=
  { tag := r.tag, last := r.last, side := r.side, speed := r.speed, marks := r.marks, length := r.length }

/-- OFFER is queued and the exit stage becomes OFFERED (R69, R70). -/
def sendOffer (r : Record) (s : State) : State :=
  mapRec r.tag (fun x => { x with stage := .offered, offerOwed := false })
    (send (s.downstream r) (.offer r.asOffer) s)

/-- An older record with the same downstream is still untaken (R69). -/
def State.offerPostponed (s : State) (r : Record) : Bool :=
  (s.track.queue.takeWhile fun x => x.tag != r.tag).any fun x =>
    s.downstream x == s.downstream r && s.untaken x

/-- The OFFER owed for a record is sent unless its downstream is 0 or it is postponed (R69). What becomes of an OFFER
still owed from the forward offer point when the gate decision then makes the record's route ALT, the spec does not say:
the model keeps it owed and sends it to DN2, then the record's downstream (DESIGN CHOICE, log entry 39). -/
def offerIfDue (t : Tag) (s : State) : State :=
  onRec t (fun r s =>
    if r.offerOwed = true ∧ s.downstream r ≠ 0 ∧ s.offerPostponed r = false then sendOffer r s else s) s

/-- Every OFFER that is due, oldest record first, in the states in which offers are sent (R69). A record whose
postponement was lifted in another state keeps exit stage NONE there (R71); that its OFFER is sent when a state that
issues steps is entered again is DESIGN CHOICE (log entry 39). -/
def sendOffers (s : State) : State :=
  if s.ctl.st.steps then s.track.queue.foldl (fun s r => offerIfDue r.tag s) s else s

/-- PASS is queued and the record becomes EXITING; the neighbour beyond its boundary now shares its sheet (R73, R60,
R65). During a hold PASS and the HOLD frames of R65 go to one downstream and are of one class, and the spec gives them no
order; PASS first is DESIGN CHOICE (log entry 40). -/
def passRecord (r : Record) (s : State) : State :=
  extendHolds (s.boundaryNeighbour r)
    (mapRec r.tag (fun x => { x with place := .exiting }) (send (s.downstream r) (.pass r.tag r.last) s))

/-- A record that has come to its exit boundary is passed where its downstream has taken it (R73), in the states in which
steps are issued: no PASS leaves a jammed station (R90), though a reversal there re-bases the record (R107). -/
def passIfTaken (r : Record) (s : State) : State :=
  if s.taken r = true ∧ s.ctl.st.steps = true then passRecord r s else s

/-! ### Offers answered (R77 to R82, R92, R93) -/

/-- A lasting cause answers an offer: DEFER, the slot empty, the upstream in the deferred-upstream set; a duplicate
raises SEQUENCE (R77, R78). The last flag of that request is the offer's (R78), also where the record that holds the tag
(R139) has the other: DESIGN CHOICE (log entry 42). -/
def deferOffer (side : UpSide) (o : Offer) (reason : DeferReason) (s : State) : State :=
  let s1 : State :=
    { s with
      port := s.port.post (s.sideAddr side) (.defer o.tag o.last reason)
      hand := (s.hand.setSlot none side).setDeferral
        { reason := reason, dup := if reason = .duplicate then some o.tag else none } side }
  if reason = .duplicate then
    match s.rec? o.tag with
    | some r => raise { requestFor .sequence r none none with last := o.last } s1
    | none => raise (requestBare .sequence (some o.tag) o.last none) s1
  else s1

def UpSide.source : UpSide → Source
  | .up1 => .up1
  | .up2 => .up2

/-- An offer is taken (R81): TAKE, the slot empty, the record EXPECTED at the tail, the set in progress. -/
def takeOffer (side : UpSide) (o : Offer) (s : State) : State :=
  joinQueue (freshRecord o .expected side.source none 0)
    (noteSet o.side o.marks.ghost o.tag.set o.last
      { s with
        port := s.port.post (s.sideAddr side) (.take o.tag o.last)
        hand := s.hand.setSlot none side })

/-- The side the arbiter prefers (R92). -/
def State.preferred (s : State) : UpSide := if s.mergeSecondary then .up2 else .up1

/-- The winner of a contested examination (R92). -/
def State.winner (s : State) : UpSide :=
  if s.hand.streak < s.streakLimit then s.preferred
  else match s.hand.lastSide with
    | some side => side.other
    | none => s.preferred

/-- The arbiter's state after a take (R93). -/
def Handoff.afterTake (h : Handoff) (side : UpSide) (contested : Bool) : Handoff :=
  if contested then
    (if h.lastSide = some side then { h with streak := min (h.streak + 1) 15 }
     else { h with lastSide := some side, streak := 1 })
  else { h with lastSide := some side, streak := 0 }

/-- The offer of a side is taken and the arbiter updated (R81, R93). -/
def takeSide (side : UpSide) (contested : Bool) (s : State) : State :=
  match s.slot side with
  | some o => takeOffer side o { s with hand := s.hand.afterTake side contested }
  | none => s

/-- The offers that no cause stops: the arbiter's choice of two, or the only one (R91 to R93). -/
def takeFree (s : State) : State :=
  if s.slotFree .up1 = true ∧ s.slotFree .up2 = true then takeSide s.winner true s
  else if s.slotFree .up1 then takeSide .up1 false s
  else if s.slotFree .up2 then takeSide .up2 false s
  else s

/-- A waiting offer that meets a lasting cause is answered DEFER (R78, R80). -/
def examineSlot (side : UpSide) (s : State) : State :=
  match s.slot side with
  | none => s
  | some o =>
    match s.judge side o with
    | .lasting reason => deferOffer side o reason s
    | _ => s

/-- Both slots are examined, and what can be taken is taken (R80). Where both offers are deferred the spec gives their
DEFER frames no order; UP1's before UP2's is DESIGN CHOICE, and so is, where one offer is deferred and the other taken,
the DEFER before the TAKE (log entry 40). -/
def examineSlots (s : State) : State := takeFree (examineSlot .up2 (examineSlot .up1 s))

/-- The slot an OFFER from this sender fills (R77). -/
def State.slotOf (s : State) (src : Nat) : UpSide := if src = s.up1 then .up1 else .up2

/-- An OFFER fills its sender's slot and is examined (R77). -/
def takeOfferFrame (src : Nat) (o : Offer) (s : State) : State :=
  let s1 := examineSlot (s.slotOf src) { s with hand := s.hand.setSlot (some o) (s.slotOf src) }
  if s1.slotFree (s.slotOf src) then takeFree s1 else s1

/-! ### PASS received (R83) -/

/-- An EXPECTED record enters (R5, R83). -/
def enterRecord (r : Record) (s : State) : State :=
  extendHolds ((s.upstreamOf r.source).getD 0)
    (mapRec r.tag (fun x =>
      let y := { x with place := .entering, lead := 0, odo := 0, ref := 0, next := some 0 }
      { y with window := s.windowOf y }) s)

/-! ### Own reasons of the Handoff Unit (R71, R72) -/

/-- The waiting record's wait ends with its TAKE (R71, R74). -/
def endHoldWait (t : Tag) (s : State) : State :=
  if s.hand.waiting = some t then
    removeReason .handoffWait { s with hand := { s.hand with waiting := none, holdTimer := .idle } }
  else s

/-- A record becomes the waiting record at the stop point (R72). -/
def beginHoldWait (t : Tag) (s : State) : State :=
  addReason .handoffWait { s with hand := { s.hand with waiting := some t, holdTimer := .armed } }

end Sys2Proof.Machine
end

