-- ==== Sys2Proof/Machine/Thresholds.lean ====
section
/-! DEFINITION. The position thresholds of R26 with what their owning blocks do at them, and the confirmation of a record
at a sensor (R31, R35) with the confirmations handed to other blocks (R42). Each test looks the record up afresh, so a
record that an earlier test removed is tested no more. -/

namespace Sys2Proof.Machine

/-! ### Forward thresholds -/

/-- A FORWARD record that does not test the forward exit thresholds: route ALT at an INVERT station (R26). -/
def State.looping (s : State) (r : Record) : Bool :=
  decide (s.role = .invert) && decide (r.route = some .alt)

/-- The forward exit thresholds are tested for this record (R26). -/
def State.testsExit (s : State) (r : Record) : Bool :=
  decide (s.role ≠ .exit) && decide (r.dir = .forward) && !s.looping r

/-- The reverse thresholds are tested for this record (R26). -/
def State.testsReverse (s : State) (r : Record) : Bool :=
  decide (s.role = .invert) && decide (r.dir = .reverse)

/-- Entry crossing: the trail has crossed the entry boundary (R5). -/
def testEntry (t : Tag) (s : State) : State :=
  onRec t (fun r s =>
    if r.dir = .forward ∧ r.reached.entry = false ∧ r.length ≤ r.pos then
      mapRec t (fun x =>
        { x with
          place := if x.place = .entering then .inside else x.place
          reached := { x.reached with entry := true } }) s
    else s) s

/-- Offer point (R69): an OFFER is owed. -/
def testOffer (t : Tag) (s : State) : State :=
  onRec t (fun r s =>
    if s.testsExit r = true ∧ r.reached.offer = false ∧ s.exitX ≤ r.pos + s.offerD then
      mapRec t (fun x => { x with offerOwed := true, reached := { x.reached with offer := true } }) s
    else if s.testsReverse r = true ∧ r.reached.revOffer = false ∧ r.pos ≤ s.aExit + s.offerD then
      mapRec t (fun x => { x with offerOwed := true, reached := { x.reached with revOffer := true } }) s
    else s) s

/-- Stop point (R58, R72). -/
def testStop (t : Tag) (s : State) : State :=
  onRec t (fun r s =>
    if s.testsExit r = true ∧ r.reached.stop = false ∧ s.cfg.stopPoint ≤ r.pos then
      mapRec t (fun x => { x with reached := { x.reached with stop := true } }) s
    else s) s

/-- Return stop point (R104): an untaken loop record in RETURNING waits. -/
def testReturnStop (t : Tag) (s : State) : State :=
  onRec t (fun r s =>
    if s.testsReverse r = true ∧ r.reached.revStop = false ∧ r.pos ≤ s.cfg.returnStop then
      let s1 := mapRec t (fun x => { x with reached := { x.reached with revStop := true } }) s
      if s.inv.loop = some t ∧ s.inv.seq = .returning ∧ s.untaken r = true then
        { s1 with inv := { s1.inv with seq := .returnWait, timer := .armed } }
      else s1
    else s) s

/-- Exit boundary (R73, R90): a record that its downstream has taken is passed. -/
def testExit (t : Tag) (s : State) : State :=
  onRec t (fun r s =>
    if s.testsExit r = true ∧ r.reached.exit = false ∧ s.exitX ≤ r.pos then
      passIfTaken r (mapRec t (fun x => { x with reached := { x.reached with exit := true } }) s)
    else if s.testsReverse r = true ∧ r.reached.revExit = false ∧ r.pos ≤ s.aExit then
      passIfTaken r (mapRec t (fun x => { x with reached := { x.reached with revExit := true } }) s)
    else s) s

/-- Exit crossing (R76): an EXITING record whose arrival has been seen leaves. -/
def testExitTrail (t : Tag) (s : State) : State :=
  onRec t (fun r s =>
    if r.place = .exiting ∧ r.arrival = true ∧ s.trailOut r = true then leaveQueue r s else s) s

/-- Arrival deadline (R76): HANDOFF, once, with arrival not seen. -/
def testDeadline (t : Tag) (s : State) : State :=
  onRec t (fun r s =>
    if s.testsExit r = true ∧ r.reached.deadline = false ∧ s.exitX + s.arrD ≤ r.pos then
      let s1 := mapRec t (fun x => { x with reached := { x.reached with deadline := true } }) s
      if r.arrival = false then raise (requestFor .handoff r (some r.pos) none) s1 else s1
    else if s.testsReverse r = true ∧ r.reached.revDeadline = false ∧ r.pos ≤ s.aExit - s.arrD then
      let s1 := mapRec t (fun x => { x with reached := { x.reached with revDeadline := true } }) s
      if r.arrival = false then raise (requestFor .handoff r (some r.pos) none) s1 else s1
    else s) s

/-- Gate decision point (R95). -/
def testDecision (t : Tag) (s : State) : State :=
  onRec t (fun r s =>
    match s.gateSensor with
    | none => s
    | some k =>
      if (s.role = .invert ∨ s.role = .exit) ∧ r.dir = .forward ∧ r.route = none ∧ r.reached.decision = false ∧
          s.spos k ≤ r.pos + s.gateSw then
        decideRoute r (mapRec t (fun x => { x with reached := { x.reached with decision := true } }) s)
      else s) s

/-- Gate position (R98). -/
def testGate (t : Tag) (s : State) : State :=
  onRec t (fun r s =>
    match s.gateSensor with
    | none => s
    | some k =>
      if (s.role = .invert ∨ s.role = .exit) ∧ r.dir = .forward ∧ r.reached.gate = false ∧ s.spos k ≤ r.pos then
        atGate r (mapRec t (fun x => { x with reached := { x.reached with gate := true } }) s)
      else s) s

/-- A ghost's trail at the gate position ends its occupancy (R98). -/
def testGhostGate (t : Tag) (s : State) : State :=
  onRec t (fun r s =>
    match s.gateSensor with
    | none => s
    | some k =>
      if r.marks.ghost = true ∧ s.gate.occupant = some t ∧ s.spos k + r.length ≤ r.pos then freeOccupant s else s) s

/-- In SWEEPING no sync is given (R122): a record that is READY with neither mark stays READY there, the spec giving it no
other image state (DEDUCED, log entry 36). -/
def syncHere (r : Record) (s : State) : State :=
  if s.ctl.st = .sweeping ∧ r.image = some .ready ∧ r.marks.broken = false ∧ r.marks.spoiled = false then s
  else syncAction r s

/-- Sync point (R119): no action while the image state is absent. -/
def testSync (t : Tag) (s : State) : State :=
  onRec t (fun r s =>
    match s.regSensor with
    | none => s
    | some k =>
      if s.role = .register ∧ r.dir = .forward ∧ r.reached.sync = false ∧ s.spos k + s.syncD ≤ r.pos then
        syncHere r (mapRec t (fun x => { x with reached := { x.reached with sync := true } }) s)
      else s) s

/-- Compile stop point (R58, R135). -/
def testCompileStop (t : Tag) (s : State) : State :=
  onRec t (fun r s =>
    if s.role = .exit ∧ r.route = some .main ∧ r.reached.compileStop = false ∧ s.cfg.compileStop ≤ r.pos then
      mapRec t (fun x => { x with reached := { x.reached with compileStop := true } }) s
    else s) s

/-- Purge exit (R137): the sheet is in the purge bin. -/
def testPurge (t : Tag) (s : State) : State :=
  onRec t (fun r s =>
    if s.role = .exit ∧ r.route = some .alt ∧ s.aExit + r.length ≤ r.pos then leaveQueue r s else s) s

/-- Every threshold of R26, in the order of its table. -/
def testThresholds (t : Tag) (s : State) : State :=
  s |> testEntry t |> testOffer t |> testStop t |> testReturnStop t |> testExit t |> testExitTrail t |> testDeadline t
    |> testDecision t |> testGate t |> testGhostGate t |> testSync t |> testCompileStop t |> testPurge t

/-! ### Confirmations (R31, R35, R42) -/

/-- What a confirmation of a record at sensor k means to other blocks (R42), the record's position before its correction
being `before`: ARRIVED to the source (R84), the pick complete (R89), the image decision (R114). Where sensor 0 is the REG
sensor ARRIVED is queued before the HOLD of an image wait: DESIGN CHOICE (log entry 40). -/
def handConfirmation (k : Nat) (r : Record) (before : Nat) (s : State) : State :=
  let s1 :=
    if k = 0 then
      (match s.upstreamOf r.source with
       | some a => send a (.arrived r.tag r.last) s
       | none =>
         if s.role = .feed ∧ s.feed.pick = some r.tag then { s with feed := { s.feed with pick := none } } else s)
    else s
  if s.role = .register ∧ s.regSensor = some k ∧ r.dir = .forward then atRegSensor r.tag before s1 else s1

/-- The record's next sensor advances from sensor k, with the window of the new one (R27, R32). -/
def Record.advance (s : State) (k : Nat) (r : Record) : Record :=
  let r1 := { r with next := s.nextSensor r k }
  { r1 with window := s.windowOf r1 }

/-- The record's own share of a confirmation by edge (R31, steps 1 to 3 and 5). -/
def Record.confirmAt (s : State) (k : Nat) (r : Record) : Record :=
  Record.advance s k
    { r with
      lead := s.spos k * 256
      ref := s.spos k
      worst := min (max r.worst (distance (s.spos k) r.pos)) 255 }

/-- A ghost's share of its automatic confirmation (R35). -/
def Record.ghostConfirmAt (s : State) (k : Nat) (r : Record) : Record :=
  Record.advance s k { r with ref := s.spos k }

/-- A ghost that has reached its next sensor's position is confirmed there (R35); `fuel` bounds the sensors one step can
reach. The spec does not say when a ghost is confirmed at a newly chosen next sensor that it has already reached: the
model confirms it there within the same step (DEDUCED, log entry 37). -/
def confirmGhost (fuel : Nat) (t : Tag) (s : State) : State :=
  match fuel with
  | 0 => s
  | fuel + 1 =>
    match s.rec? t with
    | none => s
    | some r =>
      match r.next with
      | none => s
      | some k =>
        if r.marks.ghost = true ∧
            (if r.dir = .forward then s.spos k ≤ r.pos else r.pos ≤ s.spos k) then
          confirmGhost fuel t
            (handConfirmation k r r.pos
              (mapRec t (Record.ghostConfirmAt s k) (setSensor k (fun q => { q with latch := r.odo }) s)))
        else s

end Sys2Proof.Machine
end

