-- ==== Sys2Proof/Machine/Settle.lean ====
section
/-! DEFINITION. What every event leaves settled: the offers and own reasons that have become due in it (R69, R72, R108,
R135), the slots where a LOOP record has gone (R100, R106), READY to upstreams whose duplicate is gone (R82), and then
the channels (R50 to R57) with the reversal that waits for channel B (R103) and the timers that wait for standing
channels (R74, R105, R116). -/

namespace Sys2Proof.Machine

/-! ### Own reasons that become due -/

/-- A record has come to the stop point, or become head beyond it, in this event (R72). -/
def settleStop (before s : State) : State :=
  match s.stopDue with
  | none => s
  | some t => if before.stopDue = some t then s else beginHoldWait t s

/-- TRAY_WAIT is added at the event that makes it due and removed at the event that ends it (R135). -/
def settleTray (before s : State) : State :=
  if s.trayDue then (if before.trayDue then s else addReason .trayWait s)
  else if before.trayDue then removeReason .trayWait s else s

/-- LOOP_WAIT is added at the event that makes it due (R108). -/
def settleLoop (before s : State) : State :=
  if s.loopDue = true ∧ before.loopDue = false then addReason .loopWait s else s

/-- The offer slots are examined in the event in which a record stops being a LOOP record (R100, R106), with the hold set
as the event has left it. DEDUCED (log entry 8). -/
def settleSlots (before s : State) : State := if s.loopEnded before then examineSlots s else s

/-- The Handoff Unit's and the Compile Unit's share of settling an event that began in state `before`. READY for a duplicate
that is gone (R82) is queued last in every event: after the frames of a step (log entry 8), and after the DEFER or TAKE
that answers an OFFER which replaced its slot's offer (R77) and so ended the other upstream's duplicate. The frames are of
one class and R82 gives them no order: DESIGN CHOICE (log entry 40). -/
def settleHolds (before s : State) : State :=
  sendDuplicateReadies (settleSlots before (settleLoop before (settleTray before (settleStop before (sendOffers s)))))

/-! ### The reversal (R103) -/

/-- Re-basing: lead and reference at the former trail, REVERSE, SECOND when FIRST, next sensor V (R103). -/
def Record.rebase (s : State) (v : Nat) (r : Record) : Record :=
  let r1 :=
    { r with
      ref := r.pos - r.length
      lead := (r.pos - r.length) * 256
      dir := .reverse
      next := some v
      side := if r.side = Side.first then Side.second else r.side }
  { r1 with window := s.windowOf r1 }

/-- Channel B stands in STOPPING: REVERSE for channel B, the loop record re-based and tested against the reverse
thresholds, the sequence RETURNING (R103). -/
def reverseLoop (s : State) : State :=
  match s.inv.loop with
  | none => s
  | some t =>
    testThresholds t
      (mapRec t (Record.rebase s (s.invertSensor.getD 0))
        { s with
          drive := { s.drive with chB := s.drive.chB.request .reverse }
          inv := { s.inv with seq := .returning } })

/-- The reversal, where the Gate Unit waits for it and channel B stands (R103, R107). Where channel B stood already when
STOPPING was entered the spec is silent; the model reverses in that same event (DEDUCED, log entry 38). -/
def settleReversal (s : State) : State :=
  if s.role = .invert ∧ s.inv.seq = .stopping ∧ s.drive.chB.run = .stopped then sendOffers (reverseLoop s) else s

/-! ### Channels and timers -/

/-- Channels that have lost demand ramp down; channels that stand apply a direction wanted (R54, R55). -/
def settleStops (s : State) : State :=
  let a := if s.demandA then s.drive.chA else s.drive.chA.loseDemand
  let b := if s.demandB then s.drive.chB else s.drive.chB.loseDemand
  { s with drive := { s.drive with chA := a.applyWant, chB := b.applyWant } }

/-- The timers that wait for standing channels start: the hold wait and the image wait for both, the return wait for
channel B (R74, R105, R116). A return wait timer still ARMED when the sequence becomes BLOCKED, of which R108 does not
speak, starts like any other when channel B stands (DEDUCED, log entry 38). -/
def settleTimers (s : State) : State :=
  { s with
    hand := if s.bothStopped = true ∧ s.hand.holdTimer = .armed then { s.hand with holdTimer := .running } else s.hand
    reg := if s.bothStopped = true ∧ s.reg.timer = .armed then { s.reg with timer := .running } else s.reg
    inv := if s.drive.chB.run = .stopped ∧ s.inv.timer = .armed then { s.inv with timer := .running } else s.inv }

/-- Standing channels with demand begin a ramp-up (R53, R55). -/
def settleStarts (s : State) : State :=
  { s with drive := { s.drive with
      chA := if s.demandA then s.drive.chA.beginRamp (s.rampLen .a) else s.drive.chA
      chB := if s.demandB then s.drive.chB.beginRamp (s.rampLen .b) else s.drive.chB } }

/-- The periods of the steps to come, from the parameters and the speed index in force (R48, R52). -/
def settlePeriods (s : State) : State :=
  { s with drive := { s.drive with
      chA := { s.drive.chA with period := s.nextPeriod .a }
      chB := { s.drive.chB with period := s.nextPeriod .b } } }

/-- The Drive Unit's share of settling an event. An own reason that joined an empty hold set has removed demand already
(R61, addReason); every other coming and going of demand within one event is judged once, at the end of the event: a
channel whose demand is back by then runs on. DESIGN CHOICE (log entry 41). -/
def settleDrive (s : State) : State :=
  s |> settleStops |> settleReversal |> settleTimers |> settleStarts |> settlePeriods

/-- The whole of settling an event that began in state `before`. -/
def settle (before s : State) : State := settleDrive (settleHolds before s)

end Sys2Proof.Machine
end

