-- ==== Sys2Proof/Machine/Compile.lean ====
section
/-! DEFINITION. The entry of sheets into the compile tray (R128, R129, R136), the completion of its operations (R131 to
R133), and the commands EJECT_COMPLETE and DUMP_COMPLETE. -/

namespace Sys2Proof.Machine

/-! ### Entry (R128, R129, R136) -/

/-- The entry of a record into the tray; a suspect one, by reckoning or with a failed trail check, is SPOILED (R128). -/
def trayEntryOf (r : Record) (suspect : Bool) : TrayEntry :=
  { tag := r.tag, last := r.last, marks := { r.marks with spoiled := r.marks.spoiled || suspect }, suspect := suspect }

/-- An entry is marked (R128). -/
def State.entryMarked (s : State) (e : TrayEntry) : Bool :=
  e.marks.any || s.track.broken.contains e.tag.set || e.suspect

/-- The compile record with an entry counted (R128). -/
def Compile.counted (c : Compile) (e : TrayEntry) : Compile :=
  { c with
    traySet := match c.traySet with
      | some d => some d
      | none => some e.tag.set
    count := c.count + 1
    nextSeq := e.tag.seq + 1 }

/-- An entry is applied to the compile record and the tray's next operation ordered by the first case of R129. -/
def applyEntry (e : TrayEntry) (s : State) : State :=
  let s1 := { s with comp := s.comp.counted e }
  if s1.entryMarked e then orderDump .marked s1
  else if e.last then orderEject false s1
  else if s1.comp.count = s1.ccap then orderEject true s1
  else s1

/-- The set of a suspect entry is broken, ghosts excepted (R128, R22). -/
def breakSuspect (e : TrayEntry) (s : State) : State :=
  if e.suspect = true ∧ e.marks.ghost = false then breakSet e.tag.set .broken s else s

/-- An entry joins the late entries (R136). R123 and R136 say that the list holds up to 8 and give a ninth no action; that
it is kept like the others is DESIGN CHOICE (log entry 47). -/
def addLate (e : TrayEntry) (s : State) : State := { s with comp := { s.comp with late := s.comp.late ++ [e] } }

/-- A MAIN record enters the tray: it leaves the queue, its entry is applied or kept as a late one, and then a suspect
entry's set is broken (R128, R136). -/
def enterTray (r : Record) (suspect : Bool) (s : State) : State :=
  let e := trayEntryOf r suspect
  let s1 := leaveQueue r s
  breakSuspect e (if s1.comp.op = .none then applyEntry e s1 else addLate e s1)

/-! ### Completion (R131 to R133, R136) -/

/-- The late entries are applied in order until one orders an operation (R136). -/
def applyLate (late : List TrayEntry) (s : State) : State :=
  match late with
  | [] => { s with comp := { s.comp with late := [] } }
  | e :: rest =>
    let s1 := applyEntry e s
    if s1.comp.op = .none then applyLate rest s1 else { s1 with comp := { s1.comp with late := rest } }

/-- The operation is over: its lines inactive, its timer IDLE (R131, R133), and no dump reason is left, of which R133
says nothing: DESIGN CHOICE (log entry 43). -/
def Compile.idle (c : Compile) : Compile :=
  { c with op := .none, timer := .idle, dumpReason := none, ejectLine := false, dumpLine := false }

/-- A split eject leaves the set open unless a break or a CLEARPATH has taken that back, or its set is listed (R131,
R132). -/
def State.staysOpen (s : State) : Bool :=
  s.comp.keepOpen &&
  match s.comp.traySet with
  | some d => !s.track.broken.contains d
  | none => false

/-- The compile record of a set left open by a split eject (R132). -/
def Compile.opened (c : Compile) : Compile := { c with count := 0, keepOpen := false }

/-- An eject completes (R131, R132). -/
def completeEject (s : State) : State :=
  applyLate s.comp.late
    { s with comp := if s.staysOpen then s.comp.opened.idle else s.comp.cleared.idle }

/-- A dump completes (R133). -/
def completeDump (s : State) : State := applyLate s.comp.late { s with comp := s.comp.cleared.idle }

/-! ### Commands -/

/-- EJECT_COMPLETE (R131): the operation timer of an eject runs out. No such timer runs, no such event. -/
def execEjectComplete (s : State) : Host.Outcome State Fault Refusal :=
  if s.ctl.resetLow = false ∧ s.comp.timer = .running ∧ s.comp.op = .ejecting .active then
    .next (settle s (completeEject s))
  else .next s

/-- DUMP_COMPLETE (R133): the operation timer of a dump runs out. -/
def execDumpComplete (s : State) : Host.Outcome State Fault Refusal :=
  if s.ctl.resetLow = false ∧ s.comp.timer = .running ∧ s.comp.op = .dumping .active then
    .next (settle s (completeDump s))
  else .next s

end Sys2Proof.Machine
end

