-- ==== Sys2Proof/Machine/Tracking.lean ====
section
/-! DEFINITION. The Track Unit's three events (spec 02): STEP, LEAD_EDGE and TRAIL_EDGE. -/

namespace Sys2Proof.Machine

/-! ### The step (R25) -/

/-- One step length applied to a driven record (R25). -/
def Record.travel (len : Nat) (r : Record) : Record :=
  { r with
    lead := match r.dir with
      | .forward => min (r.lead + len) fineMax
      | .reverse => r.lead - len
    odo := min (r.odo + len) fineMax }

/-- Every record that the channel drives is advanced (R25). -/
def moveRecords (ch : Channel) (s : State) : State :=
  { s with track := { s.track with
      queue := s.track.queue.map fun r =>
        if s.drivenBy r = some ch then r.travel (s.stepLen ch) else r } }

/-- The uncovered distance of an uncovered sensor grows by a step of its zone channel (R19). -/
def Sensor.open (len : Nat) (q : Sensor) : Sensor :=
  if q.covered then q else { q with uncovered := min (q.uncovered + len) fineMax }

/-- The uncovered distances of the channel's zone advance (R19, R25). -/
def moveSensors (ch : Channel) (s : State) : State :=
  { s with sens := { s.sens with
      sensors := s.sens.sensors.mapIdx fun k q =>
        if s.inUse k = true ∧ s.zoneOf k = ch then q.open (s.stepLen ch) else q } }

/-- The run-out travel grows by a step of channel B; at REVD the sequence is STOPPING (R102). -/
def moveRunout (ch : Channel) (s : State) : State :=
  if ch = .b ∧ s.role = .invert ∧ s.inv.seq = .runout then
    (if s.revD * 256 ≤ s.inv.runout + s.stepLen .b then
      { s with inv := { s.inv with seq := .stopping, runout := s.revD * 256 } }
     else { s with inv := { s.inv with runout := s.inv.runout + s.stepLen .b } })
  else s

/-! ### The late limit (R36, R37) -/

/-- A pick is re-armed (R36, R88): retries falls, lead and reference 0, the window afresh, the odometer kept. -/
def Record.rearm (s : State) (r : Record) : Record :=
  let r1 := { r with retries := r.retries - 1, lead := 0, ref := 0 }
  { r1 with window := s.windowOf r1 }

/-- MISS at sensor k (R36, R37): raised, the next sensor moved on; the Registration Unit learns of it at the REG sensor
(R120), and an occupant that never came lies across no diverter (R98). -/
def missAt (k : Nat) (r : Record) (s : State) : State :=
  let s1 := mapRec r.tag (Record.advance s k) (raise (requestFor .miss r (some r.pos) (some k)) s)
  let s2 :=
    if s.role = .register ∧ s.regSensor = some k ∧ r.dir = .forward then onRec r.tag missedReg s1 else s1
  if s.gateSensor = some k ∧ s2.gate.occupant = some r.tag then freeOccupant s2 else s2

/-- The record's position is beyond its late limit (R36). -/
def Record.late (r : Record) (w : Window) : Bool :=
  match r.dir with
  | .forward => decide (w.late < r.pos)
  | .reverse => decide (r.pos < w.late)

/-- A late record expecting sensor k is a pick with retries left, which is re-armed (R36). -/
def State.repicks (s : State) (r : Record) (k : Nat) : Bool :=
  decide (s.role = .feed ∧ r.source = .pick ∧ k = 0 ∧ 0 < r.retries)

/-- The late-limit test of a step (R36): MISS, but for a pick that is re-armed. -/
def testLate (t : Tag) (s : State) : State :=
  onRec t (fun r s =>
    match r.window, r.next with
    | some w, some k => if r.late w = true ∧ s.repicks r k = false then missAt k r s else s
    | _, _ => s) s

/-- The pick that the step carried beyond its late limit is re-armed (R36, R88). The step's other tests come before it,
since all of them use the position the step has given the record (R25). -/
def testRearm (t : Tag) (s : State) : State :=
  onRec t (fun r s =>
    match r.window, r.next with
    | some w, some k => if r.late w = true ∧ s.repicks r k = true then mapRec t (Record.rearm s) s else s
    | _, _ => s) s

/-! ### The covering distance (R40) -/

/-- The covering-distance test of sensor k (R40). -/
def testStall (t : Tag) (s : State) (k : Nat) : State :=
  onRec t (fun r s =>
    if (s.sensor k).owner = some t ∧ (s.sensor k).confirmed = true ∧ (s.sensor k).stalled = false ∧
        s.stallLimit r < covering r (s.sensor k) then
      raise (requestFor .stall r (some r.pos) (some k)) (setSensor k (fun q => { q with stalled := true }) s)
    else s) s

/-- The covering-distance tests of a record, at every sensor in use (R40). Where one step passes the limit at two sensors
the spec does not say which STALL is raised first, the one that stays pending (R141); that it is the lower sensor's is
DESIGN CHOICE (log entry 8). -/
def testStalls (t : Tag) (s : State) : State := (List.range s.scount).foldl (testStall t) s

/-! ### Reckoned trails (R102, R128) -/

/-- The run-out begins (R102). With REVD 0 it is over at once: the spec says so of the trail edge, and the model does the
same at the step of the reckoned trail (DEDUCED, log entry 38). -/
def startRunout (s : State) : State :=
  { s with inv := { s.inv with seq := if s.revD = 0 then .stopping else .runout, runout := 0 } }

/-- The loop record's reckoned trail is beyond the STALL point of V (R102). -/
def testRunout (t : Tag) (s : State) : State :=
  onRec t (fun r s =>
    match s.invertSensor with
    | none => s
    | some v =>
      if s.role = .invert ∧ s.inv.seq = .filling ∧ s.inv.loop = some t ∧ r.dir = .forward ∧
          s.spos v + s.tLen + slipTerm s.slip r.length + r.length < r.pos then startRunout s
      else s) s

/-- A MAIN record's reckoned trail has come to the tray (R128). -/
def testTray (t : Tag) (s : State) : State :=
  onRec t (fun r s =>
    match s.compileSensor with
    | none => s
    | some k =>
      if s.role = .exit ∧ r.route = some .main ∧
          s.spos k + s.tLen + slipTerm s.slip r.length + r.length ≤ r.pos then enterTray r true s
      else s) s

/-- Every test a step makes on a record it has driven, each on the position the step has given it (R25). Their order is
DEDUCED (log entry 8). A ghost whose next sensor the thresholds choose afresh, at or behind its position, is confirmed
there at its next step: R35 does not say (DESIGN CHOICE, log entry 37). -/
def testRecord (t : Tag) (s : State) : State :=
  s |> testEntry t |> testLate t |> testStalls t |> confirmGhost 6 t |> testThresholds t |> testRunout t |> testTray t
    |> testRearm t

/-- The tags of the records a channel drives, oldest first (R24). -/
def State.driven (s : State) (ch : Channel) : List Tag :=
  (s.track.queue.filter fun r => decide (s.drivenBy r = some ch)).map Record.tag

/-- The travel of a step: the generator, the records, the sensors, the gate move and the run-out (R25, R53, R54, R97,
R102). -/
def moveStep (ch : Channel) (s : State) : State :=
  moveRunout ch (gateStep ch (moveSensors ch (moveRecords ch (setChan ch (fun c => c.issue (s.rampLen ch)) s))))

/-- A step of a channel: the travel, then the tests of each record it drives, oldest first (R25). -/
def stepChannel (ch : Channel) (s : State) : State := (s.driven ch).foldl (fun x t => testRecord t x) (moveStep ch s)

/-- STEP (R25): a generator that stands, or a station outside the stepping states, issues none (R54). -/
def execStep (ch : Channel) (s : State) : Host.Outcome State Fault Refusal :=
  if s.ctl.resetLow = false ∧ s.ctl.st.steps = true ∧ (s.chan ch).run ≠ .stopped then
    .next (settle s (stepChannel ch s))
  else .next s

/-! ### Lead edges (R30 to R34, R41, R43, R173) -/

/-- The record a lead edge at sensor k is attributed to (R30). -/
def State.attributed (s : State) (k : Nat) : Option Record :=
  s.track.queue.find? fun r =>
    decide (r.next = some k) &&
      (decide (r.place = .entering) || decide (r.place = .inside) ||
        (decide (s.role = .invert) && decide (r.dir = .reverse)))

/-- The record's position lies within the window (R31). -/
def Record.within (r : Record) (w : Window) : Bool :=
  match r.dir with
  | .forward => decide (w.early ≤ r.pos ∧ r.pos ≤ w.late)
  | .reverse => decide (r.pos ≤ w.early ∧ w.late ≤ r.pos)

/-- The record's own window admits its position. -/
def Record.inWindow (r : Record) : Bool :=
  match r.window with
  | some w => r.within w
  | none => false

/-- A cover recorded as unconfirmed, the latch as it stood (R33). -/
def Sensor.coverUnconfirmed (t : Tag) (q : Sensor) : Sensor :=
  { q with owner := some t, confirmed := false, stalled := false }

/-- A cover recorded as confirmed, the latch at the owner's odometer (R31). -/
def Sensor.coverConfirmed (r : Record) (q : Sensor) : Sensor :=
  { q with owner := some r.tag, confirmed := true, stalled := false, latch := r.odo }

/-- The gap check (R41): `p` is the position at which the edge was taken. -/
def checkGap (k p : Nat) (t : Tag) (s : State) : State :=
  onRec t (fun r s =>
    if r.marks.ghost = false ∧ r.dir = .forward ∧ s.gapAt k < s.gapMin then
      raise (requestFor .gap r (some p) (some k)) s
    else s) s

/-- Confirmation by a lead edge: the seven steps of R31, and only then what it means to other blocks, who see the record
as this chapter's rules have left it (R42). -/
def confirmEdge (k : Nat) (r : Record) (s : State) : State :=
  s |> setSensor k (Sensor.coverConfirmed r)
    |> mapRec r.tag (Record.confirmAt s k)
    |> checkGap k r.pos r.tag
    |> testThresholds r.tag
    |> handConfirmation k r r.pos

/-- An early lead edge (R33). -/
def earlyEdge (k : Nat) (r : Record) (s : State) : State :=
  s |> setSensor k (Sensor.coverUnconfirmed r.tag)
    |> raise (requestFor .early r (some r.pos) (some k))
    |> checkGap k r.pos r.tag

/-- A lead edge in RUNNING, DRAINING or PAUSING (R30 to R34); a ghost is neither confirmed nor faulted by one (R35). -/
def checkLead (k : Nat) (s : State) : State :=
  match s.attributed k with
  | none => raise (requestBare .early none false (some k)) (setSensor k Sensor.disown s)
  | some r =>
    if r.marks.ghost then setSensor k (Sensor.coverUnconfirmed r.tag) s
    else if r.inWindow then confirmEdge k r s
    else earlyEdge k r s

/-- The residual watch counts a lead edge (R173). -/
def SweepResults.residual (q : SweepResults) (k : Nat) : SweepResults :=
  { q with residuals := incSat q.residuals, firstResidual := if q.firstResidual.isNone then some k else q.firstResidual }

/-- A lead edge in SWEEPING (R43, R173): a residual, and the record it is attributed to an unconfirmed owner. -/
def sweepLead (k : Nat) (s : State) : State :=
  let s1 := { s with sweep := { s.sweep with results := s.sweep.results.residual k } }
  match s.attributed k with
  | none => setSensor k Sensor.disown s1
  | some r => setSensor k (Sensor.coverUnconfirmed r.tag) s1

/-- The level of sensor input k (1 covered) as the outside world now drives it. -/
def pinSensor (k : Nat) (on : Bool) (s : State) : State :=
  { s with pins := { s.pins with sensors := withBit s.pins.sensors k on } }

/-- Sensor k's filter takes a level in this state: in use, and not in SELFTEST (R16, R17, R156). -/
def State.filters (s : State) (k : Nat) : Bool :=
  !s.ctl.resetLow && decide (s.ctl.st ≠ .selftest) && s.inUse k

/-- A lead edge at sensor k, by the row of the station state (R43). -/
def takeLead (k : Nat) (s : State) : State :=
  let s1 := setSensor k (fun q => { q with covered := true }) s
  if s.ctl.st.checks then checkLead k s1
  else if s.ctl.st = .sweeping then sweepLead k s1
  else setSensor k Sensor.disown s1

/-- LEAD_EDGE (R30): a sensor already covered has no lead edge. -/
def execLeadEdge (k : Fin 6) (s : State) : Host.Outcome State Fault Refusal :=
  let s1 := pinSensor k true s
  if s.filters k = true ∧ (s.sensor k).covered = false then .next (settle s (takeLead k s1)) else .next s1

/-! ### Trail edges (R38, R39, R42, R43) -/

/-- SHORT is due at the trail edge of this cover by this owner (R38, R39). -/
def State.shortDue (s : State) (q : Sensor) (r : Record) : Bool :=
  s.ctl.st.checks && q.confirmed && !r.marks.ghost && decide (covering r q < r.length - s.tLen)

/-- The trail edge at the gate sensor frees the diverter, whatever its owner (R42, R98). -/
def handGate (k : Nat) (s : State) : State :=
  if (s.role = .invert ∨ s.role = .exit) ∧ s.gateSensor = some k then freeOccupant s else s

/-- The trail edge of the FORWARD loop record at V begins the run-out (R42, R102). -/
def handInvert (k : Nat) (r : Record) (s : State) : State :=
  if s.role = .invert ∧ s.invertSensor = some k ∧ s.inv.seq = .filling ∧ s.inv.loop = some r.tag ∧
      r.dir = .forward ∧ r.route = some .alt then startRunout s
  else s

/-- The trail edge of a confirmed MAIN owner at the compile sensor is its entry into the tray (R42, R128). -/
def handCompile (k : Nat) (r : Record) (q : Sensor) (short : Bool) (s : State) : State :=
  if s.role = .exit ∧ s.compileSensor = some k ∧ r.route = some .main ∧ q.confirmed = true then
    enterTray r (short || q.stalled) s
  else s

/-- What the trail edge of an owned cover does beyond the sensor (R39, R42). -/
def takeOwned (k : Nat) (q : Sensor) (r : Record) (s : State) : State :=
  let short := s.shortDue q r
  let s1 := if short then raise (requestFor .short r (some r.pos) (some k)) s else s
  if s.ctl.st.steps then handCompile k r q short (handInvert k r (handGate k s1)) else s1

/-- A trail edge at sensor k (R38). -/
def takeTrail (k : Nat) (s : State) : State :=
  let s1 := setSensor k (fun x => { x.disown with covered := false, uncovered := 0 }) s
  match (s.sensor k).owner.bind s.rec? with
  | some r => takeOwned k (s.sensor k) r s1
  | none => if s.ctl.st.steps then handGate k s1 else s1

/-- TRAIL_EDGE (R38): a sensor already uncovered has no trail edge. -/
def execTrailEdge (k : Fin 6) (s : State) : Host.Outcome State Fault Refusal :=
  let s1 := pinSensor k false s
  if s.filters k = true ∧ (s.sensor k).covered = true then .next (settle s (takeTrail k s1)) else .next s1

end Sys2Proof.Machine
end

