-- ==== Sys2Proof/Machine/Port.lean ====
section
/-! DEFINITION. The Path Bus Port (spec 11): the tests every received frame passes (R180 to R182, R150, R160), and the
commands of the sending side, FRAME_SEND_START, ARBITRATION_LOST, FRAME_SENT and LINK (R179, R184, R185). -/

namespace Sys2Proof.Machine

/-! ### Receiving (R180 to R182) -/

/-- Who may send a kind (R182). -/
inductive Senders where
  | engine
  | upstream
  | downstream
  | neighbours
  | anyone
deriving DecidableEq, Repr

/-- How a kind is judged by the station state at the port (R182, R150, R160). -/
inductive Admission where
  /-- Counted foreign in UNCONFIGURED. -/
  | handoff
  /-- Counted foreign outside UNCONFIGURED and READY. -/
  | configuration
  /-- Handed on in LOCKDOWN as well. -/
  | always
  /-- Handed on in every state but SELFTEST and LOCKDOWN. -/
  | plain
deriving DecidableEq, Repr

/-- What R182 says of one kind of frame: who may send it, and how the state judges it. -/
structure Rules where
  who : Senders
  admission : Admission
deriving DecidableEq, Repr

/-- A sender is the one a neighbour parameter names; 0 names no station (R182). -/
def named (param src : Nat) : Bool := decide (param ≠ 0 ∧ src = param)

/-- The sender may send this kind (R182). -/
def State.admits (s : State) (who : Senders) (src : Nat) : Bool :=
  match who with
  | .engine => decide (src = s.engAddr)
  | .upstream => named s.up1 src || named s.up2 src
  | .downstream => named s.dn1 src || named s.dn2 src
  | .neighbours => named s.up1 src || named s.up2 src || named s.dn1 src || named s.dn2 src
  | .anyone => true

/-- The port takes no frame: the RESET pin is held low, or the station is in SELFTEST (R155, R156, R180). -/
def State.portClosed (s : State) : Bool := s.ctl.resetLow || decide (s.ctl.st = .selftest)

/-- The destination names this station (R180 test 3). -/
def State.addressed (s : State) (dst : Address) : Bool := decide (dst.toNat = s.ctl.address) || decide (dst.toNat = 63)

/-- The state counts a frame of this kind as foreign (R182, R160). -/
def State.refusesKind (s : State) (a : Admission) : Bool :=
  match a with
  | .handoff => decide (s.ctl.st = .unconfigured)
  | .configuration => decide (s.ctl.st ≠ .unconfigured ∧ s.ctl.st ≠ .ready)
  | .always => false
  | .plain => false

/-- The port is open, and the frame is another station's and is addressed here (R180 tests 2 and 3). -/
def State.hears (s : State) (h : Header) : Bool :=
  !s.portClosed && decide (h.src.toNat ≠ s.ctl.address) && s.addressed h.dst

/-- Both halves of the receive buffer are occupied (R180 test 4). -/
def State.bufferFull (s : State) : Bool := decide (2 ≤ s.port.rx.length)

/-- The values of an OFFER or a FEED are defined: a sequence that is not 0 and a side code below 3 (R1, R181). -/
def soundFields (o : SheetFields) : Bool := decide (o.tag.seq.toNat ≠ 0) && decide (o.side.toNat ≠ 3)

/-- The payload's length and values are ones its kind allows (R181): CONFIGURE carries at most three values, DEFER a
reason code up to 3, IMAGE side 1 or 2 (R110), QUERY a selector up to 4. R181's list does not name a HALT whose fault code
is above 15, which section 11.3 does not define; that it is taken like any HALT is DESIGN CHOICE (log entry 21). Origins
outside 1 to 62 and sequence 0 in other frames than OFFER and FEED are not named there either, and pass (DEDUCED, log
entry 21). -/
def sound (c : Instr) : Bool :=
  match c with
  | .offer _ o => soundFields o
  | .feed _ o => soundFields o
  | .defer _ _ reason => decide (reason.toNat ≤ 3)
  | .configure _ _ _ values => decide (values.length ≤ 3)
  | .image _ _ side => decide (side.toNat = 1 ∨ side.toNat = 2)
  | .query _ selector _ => decide (selector.toNat ≤ 4)
  | _ => true

/-- A frame in its half of the receive buffer, its contents defined, comes to the test of its sender and of the state
(R182, R150, R160), and where it passes both is handed to its owning block. -/
def admitFrame (h : Header) (k : Rules) (body : State → State) (s : State) : State :=
  if s.admits k.who h.src.toNat = false ∨ s.refusesKind k.admission = true then countForeign s
  else if s.ctl.st = .lockdown ∧ k.admission ≠ .always then s
  else body s

/-- A frame occupies the free half of the receive buffer behind the frames already there (R180). -/
def bufferFrame (c : Instr) (s : State) : State := { s with port := { s.port with rx := s.port.rx ++ [c] } }

/-- A frame with a right check has completed (R180, R181): the first test it fails decides, and one that passes occupies
a half of the receive buffer. With no earlier frame there it is taken in the same event and its half is free again;
behind an earlier one it waits (DESIGN CHOICE, log entry 10). -/
def receive (c : Instr) (h : Header) (take : State → State) (s : State) : State :=
  if s.hears h = false then s
  else if s.bufferFull then countOverrun s
  else if sound c = false then countCheckError s
  else if s.port.rx = [] then take s
  else bufferFrame c s

/-! ### Sending (R179, R184, R185) -/

/-- Some frame is being sent. -/
def Port.isSending (p : Port) : Bool := p.tx.any TxEntry.sending

/-- The frame at the head begins to be sent (R184). -/
def Port.startHead (p : Port) : Port :=
  match p.tx with
  | [] => p
  | e :: rest => { p with tx := { e with sending := true } :: rest }

/-- FRAME_SEND_START (R184): the line is idle and a frame waits. -/
def execFrameSendStart (s : State) : Host.Outcome State Fault Refusal :=
  if s.ctl.resetLow = false ∧ s.port.isSending = false then .next { s with port := s.port.startHead } else .next s

/-- ARBITRATION_LOST (R179): the frame keeps its place and is no longer being sent. -/
def execArbitrationLost (s : State) : Host.Outcome State Fault Refusal :=
  if s.ctl.resetLow then .next s
  else .next { s with port := { s.port with tx := s.port.tx.map fun e => { e with sending := false } } }

/-- The frame being sent is finished and leaves the queue; an empty queue ends a spell of congestion (R179, R185). -/
def Port.finish (p : Port) : Port :=
  { p with
    tx := p.tx.filter fun e => !e.sending
    linkReported := p.linkReported && p.tx.any fun e => !e.sending }

/-- FRAME_SENT (R179). -/
def execFrameSent (s : State) : Host.Outcome State Fault Refusal :=
  if s.ctl.resetLow = false ∧ s.port.isSending = true then .next { s with port := s.port.finish } else .next s

/-- LINK (R185): a frame of the queue has waited longer than LINKTO ms; reported once per spell. In SELFTEST,
where R156 says no fault can arise, a frame of class 5 kept by a restart (R158) can wait as well, and LINK is raised and
counted there: DEDUCED (log entry 44). -/
def execLink (s : State) : Host.Outcome State Fault Refusal :=
  if s.ctl.resetLow = false ∧ s.port.tx ≠ [] ∧ s.port.linkReported = false then
    .next { raise (requestBare .link none false none) s with port := { s.port with linkReported := true } }
  else .next s

end Sys2Proof.Machine
end

