-- ==== Sys2Proof/Machine/Feed.lean ====
section
/-! DEFINITION. The Feed Unit (spec 04, section 4.5): FEED (R86) and PICK_START (R87, R13). -/

namespace Sys2Proof.Machine

/-! ### FEED (R86) -/

/-- The states in which a FEED order is taken (R86). -/
def StationState.takesOrders : StationState → Bool
  | .ready | .running | .draining => true
  | _ => false

/-- The order is taken (R86). -/
def State.acceptsOrder (s : State) (o : FeedOrder) : Bool :=
  decide (s.role = .feed) && s.ctl.st.takesOrders && decide (s.feed.orders.length < 4) &&
    !s.feed.orders.any fun x => x.tag == o.tag

/-- What FEED does (R86). -/
def feedHeard (o : FeedOrder) (s : State) : State :=
  if s.acceptsOrder o then settle s { s with feed := { s.feed with orders := s.feed.orders ++ [o] } } else countStale s

/-- A FEED in the receive buffer comes to its turn. -/
def admitFeed (h : Header) (o : SheetFields) (s : State) : State :=
  admitFrame h ⟨.engine, .plain⟩ (feedHeard (orderOf o)) s

/-- FEED (R86). -/
def execFeed (h : Header) (o : SheetFields) (s : State) : Host.Outcome State Fault Refusal :=
  .next (receive (.feed h o) h (admitFeed h o) s)

/-! ### PICK_START (R87) -/

/-- An order is inside the drain boundary, or the state is RUNNING (R87). -/
def State.mayPick (s : State) (o : FeedOrder) : Bool :=
  decide (s.ctl.st = .running) || (decide (s.ctl.st = .draining) && s.insideDrain o.side o.tag)

/-- The conditions of a pick, the supply apart (R87). -/
def State.pickReady (s : State) (o : FeedOrder) : Bool :=
  decide (s.role = .feed) && s.mayPick o && s.feed.pick.isNone && s.drive.hold.isEmpty &&
    decide (s.track.queue.length < 8) && !(s.sensor 0).covered && decide (s.pickSpacing ≤ s.gapAt 0)

/-- A SUPPLY_EMPTY line stops the pick: BIN once (R87). -/
def supplyOut (s : State) : State :=
  if s.feed.supplyReported then s
  else { raise (requestBare .bin none false none) s with feed := { s.feed with supplyReported := true } }

/-- The record a pick builds from its order (R13). -/
def pickedRecord (o : FeedOrder) (retries : Nat) : Record :=
  freshRecord { tag := o.tag, last := o.last, side := o.side, speed := o.speed, marks := Marks.none, length := o.length }
    .entering .pick (some 0) retries

/-- The head order becomes a record (R87, R13). -/
def startPick (o : FeedOrder) (s : State) : State :=
  joinQueue (pickedRecord o s.pickRt)
    (noteSet o.side false o.tag.set o.last { s with feed := { s.feed with pick := some o.tag } })

/-- The head order's sheet is already held: the order is removed and SEQUENCE raised (R87, R11). -/
def refusePick (o : FeedOrder) (s : State) : State := raise (requestBare .sequence (some o.tag) o.last none) s

/-- The orders are examined from the head; an order removed as a duplicate lets the next be examined (R87). -/
def pickFrom (orders : List FeedOrder) (s : State) : State :=
  match orders with
  | [] => s
  | o :: rest =>
    if s.pickReady o = false then s
    else if s.functionActive .supplyEmpty then supplyOut s
    else
      let s1 := { s with feed := { s.feed with orders := rest } }
      if s1.held o.tag then pickFrom rest (refusePick o s1) else startPick o s1

/-- PICK_START (R87). -/
def execPickStart (s : State) : Host.Outcome State Fault Refusal :=
  if s.ctl.resetLow then .next s else .next (settle s (pickFrom s.feed.orders s))

end Sys2Proof.Machine
end

