-- ==== Sys2Proof/Machine/Control.lean ====
section
/-! DEFINITION. Station Control (spec 09): entering a state with what the other blocks do at it (R67, R82, R90, R138,
R169) and the examinations a change of state brings (R80, R87), the commands START and DRAIN (R161, R162), the
assignable lines (R164 to R166), the ends of a drain, a pause and a sweep (R162, R146, R176), slot examination (R80), the
timers' expiries (R74, R105, R117, R121), and the pin events FULL_RESET and RESET_PIN_HELD_LOW (R155). -/

namespace Sys2Proof.Machine

/-! ### Entering a state -/

def setState (n : StationState) (s : State) : State := { s with ctl := { s.ctl with st := n } }

/-- What the blocks do when the station has entered a state (R48, R67, R80, R82, R90, R141, R169). Entering SWEEPING
touches no image wait: a record that was decided WAITING in PAUSING of an active sweep keeps IMAGE_WAIT and the timer by
R115 and R116, though R122 has no record wait in SWEEPING. DEDUCED (log entry 36). -/
def onEntry (n : StationState) (s : State) : State :=
  match n with
  | .running => sendReadies Deferral.isStateOrDrain s
  | .sweeping => sendReadies Deferral.isStateOrDrain { s with drive := { s.drive with speed := 0 } }
  | .draining => sendReadies Deferral.isState s
  | .ready => clearHold s
  | .jammed => clearHold { s with sweep := { s.sweep with active := false } }
  | .lockdown =>
    clearHold
      { s with
        sweep := { s.sweep with active := false }
        flt := { s.flt with pending := [] }
        hand := { s.hand with slot1 := none, slot2 := none } }
  | _ => s

/-- The station enters a state; being in it already, it enters nothing. -/
def enterState (n : StationState) (s : State) : State := if s.ctl.st = n then s else onEntry n (setState n s)

/-- The conditions of a pick are examined on entering RUNNING and DRAINING (R87, R90, R161). -/
def examinePick (s : State) : State :=
  if s.ctl.st = .running ∨ s.ctl.st = .draining then pickFrom s.feed.orders s else s

/-- The station's state changes: the state is entered, then the offer slots are examined (R80, R90), then the conditions
of a pick (R87). The spec gives the three no order within the event; this one is DESIGN CHOICE (log entry 40). The
entries of LOCKDOWN, which empties the slots, and of UNCONFIGURED and READY at a commit check, where no offer can wait,
are `enterState` alone. -/
def changeState (n : StationState) (s : State) : State :=
  if s.ctl.st = n then s else examinePick (examineSlots (enterState n s))

/-! ### The sweep's end and its drain (R176, R177) -/

/-- The sweep ends at the first event that finds all of these true (R176). -/
def State.sweepDue (s : State) : Bool :=
  s.sweep.active && decide (s.ctl.st = .sweeping) && (s.sweep.lastSeen || s.sweep.drainAsked) &&
    s.track.queue.isEmpty && s.feed.pick.isNone && s.bothStopped

/-- The sweep ends: SWEEPREPORT, sweep active no, READY (R176). -/
def endSweep (s : State) : State :=
  changeState .ready
    { s with
      port := s.port.post s.engAddr (.sweepReport s.sweep.results)
      sweep := { s.sweep with active := false } }

/-- The sweep ends in this event where it finds the conditions true (R176). -/
def endSweepIfDue (s : State) : State := if s.sweepDue then endSweep s else s

/-- DRAIN in SWEEPING (R177): drain asked, launching stops, and the sweep may end in this event. -/
def drainSweep (s : State) : State :=
  endSweepIfDue { s with sweep := { s.sweep with drainAsked := true, launching := false } }

/-- The drain of a RUNNING or SWEEPING station, by DRAIN or by the PAUSE function (R162, R177). -/
def drainStation (s : State) : State :=
  match s.ctl.st with
  | .running => changeState .draining s
  | .sweeping => drainSweep s
  | _ => s

/-! ### START and DRAIN (R161, R162) -/

/-- The common refusals of START and SWEEP in READY (R161, R168). -/
def State.startRefusal (s : State) : StatusReason :=
  if s.someFailed then .sensorFailed
  else if s.someCovered = true ∨ s.functionActive .interlock = true ∨ s.functionActive .pause = true then .notClear
  else .none

/-- The reason of the reply to START (R161). -/
def State.startReason (s : State) : StatusReason :=
  match s.ctl.st with
  | .ready => s.startRefusal
  | .draining => if s.functionActive .pause then .notClear else .none
  | _ => .state

/-- What START does (R161). -/
def startStation (s : State) : State :=
  if s.startReason = .none then settle s (reply .none (changeState .running s)) else reply s.startReason s

/-- START comes to its turn in the receive buffer. -/
def admitStart (h : Header) (s : State) : State :=
  admitFrame h ⟨.engine, .plain⟩ startStation s

/-- START (R161), from ENGADDR (R182). -/
def execStart (h : Header) (s : State) : Host.Outcome State Fault Refusal :=
  .next (receive (.start h) h (admitStart h) s)

/-- What the command DRAIN does (R162, R177). -/
def drainCommand (s : State) : State :=
  if s.ctl.st = .running ∨ s.ctl.st = .sweeping then settle s (reply .none (drainStation s)) else reply .state s

/-- DRAIN comes to its turn in the receive buffer. -/
def admitDrain (h : Header) (s : State) : State :=
  admitFrame h ⟨.engine, .plain⟩ drainCommand s

/-- DRAIN (R162). -/
def execDrain (h : Header) (s : State) : Host.Outcome State Fault Refusal :=
  .next (receive (.drain h) h (admitDrain h) s)

/-! ### Assignable lines (R164, R165) -/

/-- A function that was active has become inactive: an operation in BIN WAIT may begin (R130), the supply report is CLEAR
(R87). -/
def linesFallen (before s : State) : State :=
  let s1 := if before.functionActive .binFull = true ∧ s.functionActive .binFull = false then binFreed s else s
  if before.functionActive .supplyEmpty = true ∧ s.functionActive .supplyEmpty = false then
    { s1 with feed := { s1.feed with supplyReported := false } }
  else s1

/-- INTERLOCK's becoming active raises INTERLOCK in these states (R165). -/
def StationState.interlocks : StationState → Bool
  | .running | .draining | .pausing | .paused | .sweeping => true
  | _ => false

/-- A function has become active (R162, R165). -/
def linesRisen (before s : State) : State :=
  let s1 :=
    if before.functionActive .interlock = false ∧ s.functionActive .interlock = true ∧ s.ctl.st.interlocks = true then
      raise (requestBare .interlock none false none) s
    else s
  if before.functionActive .pause = false ∧ s.functionActive .pause = true then drainStation s1 else s1

/-- The level of assignable line n (high or not) as the outside world now drives it. -/
def pinLine (n : Nat) (high : Bool) (s : State) : State :=
  { s with pins := { s.pins with lines := withBit s.pins.lines n high } }

/-- LINE_ACTIVE (R164). -/
def execLineActive (n : Fin 4) (s : State) : Host.Outcome State Fault Refusal :=
  let s1 := pinLine n (s.lineActiveHigh n) s
  if s.ctl.resetLow then .next s1 else .next (settle s (linesRisen s s1))

/-- LINE_INACTIVE (R164). -/
def execLineInactive (n : Fin 4) (s : State) : Host.Outcome State Fault Refusal :=
  let s1 := pinLine n (!s.lineActiveHigh n) s
  if s.ctl.resetLow then .next s1 else .next (settle s (linesFallen s s1))

/-! ### Events of the station's own work -/

/-- SLOT_EXAMINATION (R80). -/
def execSlotExamination (s : State) : Host.Outcome State Fault Refusal :=
  if s.portClosed then .next s else .next (settle s (examineSlots s))

/-- The queue is empty and both channels stand (R146, R162). -/
def State.runOut (s : State) : Bool := s.track.queue.isEmpty && s.bothStopped

/-- DRAIN_END (R162). -/
def execDrainEnd (s : State) : Host.Outcome State Fault Refusal :=
  if s.ctl.resetLow = false ∧ s.ctl.st = .draining ∧ s.runOut = true ∧ s.feed.pick = none then
    .next (settle s (changeState .ready s))
  else .next s

/-- PAUSE_END (R146). -/
def execPauseEnd (s : State) : Host.Outcome State Fault Refusal :=
  if s.ctl.resetLow = false ∧ s.ctl.st = .pausing ∧ s.runOut = true then
    .next (settle s (changeState .paused s))
  else .next s

/-- SWEEP_END (R176). -/
def execSweepEnd (s : State) : Host.Outcome State Fault Refusal :=
  if s.ctl.resetLow = false ∧ s.sweepDue = true then .next (settle s (endSweep s)) else .next s

/-! ### Expiries (R74, R105, R117, R121) -/

/-- HANDOFF against the record of a tag, if the queue holds it (R74, R105). -/
def raiseHandoff (t : Option Tag) (s : State) : State :=
  match t with
  | none => s
  | some t => onRec t (fun r s => raise (requestFor .handoff r (some r.pos) none) s) s

/-- HOLD_WAIT_EXPIRY (R74): the waiting record is given up; HANDOFF_WAIT stays. -/
def execHoldWaitExpiry (s : State) : Host.Outcome State Fault Refusal :=
  if s.ctl.resetLow = false ∧ s.hand.holdTimer = .running then
    .next (raiseHandoff s.hand.waiting
      { s with hand := { s.hand with holdTimer := .idle, givenUp := s.hand.waiting, waiting := none } })
  else .next s

/-- RETURN_WAIT_EXPIRY (R105): the return is given up; the sequence stays. -/
def execReturnWaitExpiry (s : State) : Host.Outcome State Fault Refusal :=
  if s.ctl.resetLow = false ∧ s.inv.timer = .running then
    .next (raiseHandoff s.inv.loop { s with inv := { s.inv with timer := .idle, givenUp := true } })
  else .next s

/-- The end of an image wait (R117). -/
def endImageWait (s : State) : State :=
  reviewImageWait (expireImages s.track.queue { s with reg := { s.reg with timer := .idle } })

/-- IMAGE_WAIT_EXPIRY (R117). -/
def execImageWaitExpiry (s : State) : Host.Outcome State Fault Refusal :=
  if s.ctl.resetLow = false ∧ s.reg.timer = .running then .next (settle s (endImageWait s)) else .next s

/-- PAGE_SYNC_PULSE_END (R121): 100 µs after the latest sync the lines are inactive again. -/
def execPageSyncPulseEnd (s : State) : Host.Outcome State Fault Refusal :=
  if s.ctl.resetLow then .next s else .next { s with reg := { s.reg with pulse := false } }

/-! ### The RESET pin (R155) -/

/-- FULL_RESET (R155): the pin is released, or power-on completes, with these readings of the straps. -/
def execFullReset (addrStraps : BitVec 6) (roleStraps : BitVec 3) (s : State) : Host.Outcome State Fault Refusal :=
  .next (State.fullReset addrStraps.toNat roleStraps.toNat s.pins s.pending)

/-- RESET_PIN_HELD_LOW (R155): no step, no frame, every output line inactive, until the pin is released. -/
def execResetPinHeldLow (s : State) : Host.Outcome State Fault Refusal :=
  let s1 := emergencyStop s
  .next { s1 with ctl := { s1.ctl with resetLow := true } }

end Sys2Proof.Machine
end

