-- ==== Sys2Proof/Machine/Faults.lean ====
section
/-! DEFINITION. The Fault Unit (spec 08): dispatch (R142 to R147), lockdown (R150), and the commands HALT (R149), RESUME
(R151, R152) and CLEARPATH (R153, R138). -/

namespace Sys2Proof.Machine

/-! ### The order of dispatch (R142) -/

/-- The rank a code takes its place by: 15 at or beyond DLIMIT (R142). -/
def State.rankOf (s : State) (c : FaultCode) : Nat := if s.dLimit ≤ c.code then 15 else s.dispRank c.code

/-- The first request is dispatched before the second (R142 case 2). -/
def State.before (s : State) (a b : Request) : Bool :=
  decide (s.rankOf a.code < s.rankOf b.code) ||
    (decide (s.rankOf a.code = s.rankOf b.code) && decide (a.code.code < b.code.code))

/-- The request of least rank, the lower code first (R142 case 2). -/
def State.leastRank (s : State) : List Request → Option Request
  | [] => none
  | q :: rest =>
    match s.leastRank rest with
    | none => some q
    | some b => if s.before b q then some b else some q

/-- A code is the PROMOTED code (R142, R143). -/
def State.isPromoted (s : State) (c : FaultCode) : Bool := decide (c.code = s.promoted)

/-- The request a dispatch takes (R142). -/
def State.nextRequest (s : State) : Option Request :=
  match s.flt.pending.find? fun q => s.isPromoted q.code with
  | some q => some q
  | none => s.leastRank s.flt.pending

/-! ### The lookup (R143) -/

/-- The lookup of a code succeeds (R143). -/
def State.found (s : State) (c : FaultCode) : Bool := decide (c.code < s.dLimit) && s.dispPresent c.code

/-- What a dispatch is to do with a request (R143). -/
inductive Disposal where
  | act (q : Request) (action : Action) (report : Bool)
  | lock (q : Request)
deriving DecidableEq, Repr

/-- The request with TABLE substituted (R143). -/
def Request.asTable (q : Request) : Request := { q with code := .table, original := some q.code }

/-- The lookup, with TABLE substituted where it fails (R143). -/
def State.lookup (s : State) (q : Request) : Disposal :=
  if s.isPromoted q.code then .act q .stop true
  else if s.found q.code then .act q (s.dispAction q.code.code) (s.dispReport q.code.code)
  else if s.found .table then .act q.asTable (s.dispAction 15) (s.dispReport 15)
  else .lock q.asTable

/-- TABLE is substituted for the request (R143). -/
def State.substitutes (s : State) (q : Request) : Bool := !s.isPromoted q.code && !s.found q.code

/-! ### The actions (R144 to R150) -/

/-- FAULT is queued to ENGADDR (R144). -/
def reportFault (q : Request) (s : State) : State := send s.engAddr (.fault q) s

/-- A record marked SPOILED (R145). -/
def Record.spoil (r : Record) : Record := { r with marks := { r.marks with spoiled := true } }

/-- The involved record is marked SPOILED while it is in the queue; a later record of its tag is not it (R145). -/
def spoilInvolved (q : Request) (t : Tag) (s : State) : State := if q.gone then s else mapRec t Record.spoil s

/-- SPOIL (R145): the involved record marked, and its set broken unless it is a ghost, whether or not it has left. -/
def spoil (q : Request) (s : State) : State :=
  match q.involved with
  | none => s
  | some t =>
    let s1 := spoilInvolved q t s
    if q.ghost then s1 else breakSet t.set .broken s1

/-- LOCKDOWN (R150): the request that causes it is not pushed. -/
def lockdown (q : Request) (s : State) : State :=
  send everyone (.halt q.code) (reportFault q (enterState .lockdown (emergencyStop s)))

/-- A context record (R148). -/
def contextOf (q : Request) (isStop : Bool) (s : State) : Context :=
  { code := q.code, original := q.original, isStop := isStop, saved := s.ctl.st }

/-- A push adds the context record on top (R148). -/
def pushContext (c : Context) (s : State) : State := { s with flt := { s.flt with stack := c :: s.flt.stack } }

/-- A PAUSING station with nothing to run out is PAUSED in the same event (R146). -/
def pauseAtOnce (s : State) : State :=
  if s.ctl.st = .pausing ∧ s.runOut = true then changeState .paused s else s

/-- HOLD (R146). -/
def holdAction (q : Request) (s : State) : State :=
  let s1 := pushContext (contextOf q false s) s
  if s.ctl.st = .jammed ∨ s.ctl.st = .paused then s1 else pauseAtOnce (changeState .pausing s1)

/-- HALT is queued on entering JAMMED, unless the code is HALTED (R147). -/
def tellHalt (q : Request) (s : State) : State :=
  if s.ctl.st = .jammed ∨ q.code = .halted then s else send everyone (.halt q.code) s

/-- STOP (R147). -/
def stopAction (q : Request) (s : State) : State :=
  let s1 := emergencyStop (pushContext (contextOf q true s) s)
  changeState .jammed (tellHalt q { s1 with flt := { s1.flt with restartNeeded := true } })

/-- A push finds the stack full (R148). -/
def State.stackFull (s : State) : Bool := decide (3 ≤ s.flt.stack.length)

/-- The action, and the report after it (R144 to R148). -/
def applyAction (q : Request) (action : Action) (report : Bool) (s : State) : State :=
  let tell (s : State) : State := if report then reportFault q s else s
  match action with
  | .count => tell s
  | .spoil => tell (spoil q s)
  | .hold => if s.stackFull then lockdown q s else tell (holdAction q s)
  | .stop => if s.stackFull then lockdown q s else tell (stopAction q s)

/-- The chosen request leaves the pending set, and TABLE is counted where it is substituted (R142, R143). -/
def takeRequest (q : Request) (s : State) : State :=
  let f := { s.flt with pending := s.flt.pending.filter fun x => x.code != q.code }
  { s with flt := if s.substitutes q then f.count .table else f }

/-- One dispatch (R142). -/
def dispatch (q : Request) (s : State) : State :=
  match s.lookup q with
  | .act q1 action report => applyAction q1 action report (takeRequest q s)
  | .lock q1 => lockdown q1 (takeRequest q s)

/-- FAULT_DISPATCH (R142). -/
def execFaultDispatch (s : State) : Host.Outcome State Fault Refusal :=
  match s.nextRequest with
  | none => .next s
  | some q => if s.ctl.resetLow = false ∧ s.ctl.st.faultsPend = true then .next (settle s (dispatch q s)) else .next s

/-! ### HALT (R149) -/

/-- What HALT does (R149). -/
def haltHeard (s : State) : State := if s.ctl.st.steps then raise (requestBare .halted none false none) s else s

/-- HALT comes to its turn in the receive buffer. -/
def admitHalt (h : Header) (_code : Byte) (s : State) : State :=
  admitFrame h ⟨.anyone, .plain⟩ haltHeard s

/-- HALT (R149): its code is not kept. -/
def execHalt (h : Header) (code : Byte) (s : State) : Host.Outcome State Fault Refusal :=
  .next (receive (.halt h code) h (admitHalt h code) s)

/-! ### RESUME (R151, R152) -/

/-- The entry's cause is a bin or supply line (R151). -/
def Context.isBin (c : Context) : Bool := decide (c.code = .bin) || decide (c.code = .table ∧ c.original = some .bin)

/-- The top entry's cause is clear (R151). -/
def State.causeClear (s : State) (c : Context) : Bool :=
  if c.isStop then s.track.queue.isEmpty && !s.someCovered && !s.functionActive .interlock
  else if c.isBin then !s.functionActive .binFull && !s.functionActive .supplyEmpty
  else true

/-- The state after the top entry is popped (R152), from the state with the stack already popped. -/
def State.afterPop (s : State) (popped : Context) : StationState :=
  if s.flt.stack = [] then (if s.flt.restartNeeded then .ready else popped.saved)
  else if s.flt.stack.any Context.isStop then .jammed
  else if s.runOut then .paused
  else .pausing

/-- The top entry is popped (R152). -/
def popEntry (c : Context) (rest : List Context) (s : State) : State :=
  let s1 := { s with flt := { s.flt with stack := rest } }
  changeState (s1.afterPop c)
    { s1 with flt := { s1.flt with restartNeeded := s1.flt.restartNeeded && !rest.isEmpty } }

/-- The states in which RESUME is accepted (R151). -/
def StationState.resumes : StationState → Bool
  | .pausing | .paused | .jammed => true
  | _ => false

/-- What RESUME does (R151). Where it enters SWEEPING, the conditions of the sweep's end are examined in the event
(R176), before the STATUS that answers, as with DRAIN (R177): DEDUCED for RESUME (log entry 40). -/
def resumeStation (s : State) : State :=
  if s.ctl.st.resumes then
    match s.flt.stack with
    | [] => reply .notClear s
    | c :: rest => if s.causeClear c then settle s (reply .none (endSweepIfDue (popEntry c rest s))) else reply .notClear s
  else reply .state s

/-- RESUME comes to its turn in the receive buffer. -/
def admitResume (h : Header) (s : State) : State :=
  admitFrame h ⟨.engine, .plain⟩ resumeStation s

/-- RESUME (R151). -/
def execResume (h : Header) (s : State) : Host.Outcome State Fault Refusal :=
  .next (receive (.resume h) h (admitResume h) s)

/-! ### CLEARPATH (R153, R138) -/

/-- PURGED reason CLEARED for the sheets counted in a tray whose operation is not ACTIVE (R138). -/
def purgeTray (s : State) : State :=
  if (s.comp.op = .none ∨ s.comp.op = .ejecting .binWait ∨ s.comp.op = .dumping .binWait) ∧ 1 ≤ s.comp.count then
    send s.engAddr (.purged (s.comp.traySet.getD 0) s.comp.count .cleared) s
  else s

/-- PURGED reason CLEARED for each late entry (R138). -/
def purgeLate (s : State) : State :=
  { s with port := s.comp.late.foldl (fun p e => p.post s.engAddr (.purged e.tag.set 1 .cleared)) s.port }

/-- The Compile Unit's state after CLEARPATH (R138, R123). -/
def Compile.clearPath (c : Compile) : Compile :=
  let c1 := { c with late := [], routedSet := none, routedNext := 1, dumpReason := none }
  match c.op with
  | .ejecting .active => { c1 with keepOpen := false }
  | .dumping .active => c1
  | _ => { c1.cleared with op := .none, binReported := false }

/-- The Compile Unit at CLEARPATH (R138). -/
def clearTray (s : State) : State :=
  let s1 := purgeLate (purgeTray s)
  { s1 with comp := s1.comp.clearPath }

/-- A sensor at CLEARPATH: the covered state is kept (R23). -/
def Sensor.clear (q : Sensor) : Sensor := { q.disown with latch := 0, uncovered := farUncovered }

/-- A channel at CLEARPATH (R47). -/
def Chan.clear (c : Chan) : Chan := { c with dir := .forward, want := none }

/-- The pending requests at CLEARPATH: kept, their involved records gone from the queue (R153, R145). -/
def FaultUnit.clearPath (f : FaultUnit) : FaultUnit :=
  { f with pending := f.pending.map fun q => { q with gone := q.involved.isSome } }

/-- Everything the sheets had set in motion, the tray and the hold set apart (R153). -/
def clearSheets (s : State) : State :=
  { s with
    track := { s.track with queue := [] }
    flt := s.flt.clearPath
    sens := { s.sens with sensors := s.sens.sensors.map Sensor.clear }
    drive := { s.drive with chA := s.drive.chA.clear, chB := s.drive.chB.clear }
    hand := Handoff.reset
    gate := { s.gate with output := s.gate.position, move := .none, list := [], occupant := none }
    inv := Inverter.reset
    reg := { s.reg with images := [], timer := .idle }
    feed := FeedUnit.reset }

/-- CLEARPATH in JAMMED or READY (R153). -/
def clearPath (s : State) : State := clearTray (clearSheets (clearHold s))

/-- What the command CLEARPATH does (R153). The PURGED reports are queued before the STATUS that answers: DESIGN CHOICE
(log entry 40). -/
def clearCommand (s : State) : State :=
  if s.ctl.st = .jammed ∨ s.ctl.st = .ready then reply .none (clearPath s) else reply .state s

/-- CLEARPATH comes to its turn in the receive buffer. -/
def admitClearpath (h : Header) (s : State) : State :=
  admitFrame h ⟨.engine, .plain⟩ clearCommand s

/-- CLEARPATH (R153). -/
def execClearpath (h : Header) (s : State) : Host.Outcome State Fault Refusal :=
  .next (receive (.clearpath h) h (admitClearpath h) s)

end Sys2Proof.Machine
end

