-- ==== Sys2Proof/Machine/Configure.lean ====
section
/-! DEFINITION. The Configuration Store (spec 11, R187 to R190): the writes of CONFIGURE, the commit check, and the
commands CONFIGURE, QUERY, RESTART (R158) and SELFTEST_COMPLETE (R156, R159). -/

namespace Sys2Proof.Machine

/-! ### Writes (R187, R189) -/

/-- The value that is written for a value sent, and whether it is counted as clamped (R187, R189). -/
def State.admitted (s : State) (i v : Nat) : Nat × Bool :=
  if isDispParam i then (dispBits v, false)
  else if isLineParam i then (lineBits v, false)
  else
    let w := max (paramRange i).1 (min v (paramRange i).2)
    if i = 64 ∧ s.role = .exit ∧ s.comp.op = .none ∧ w ≤ s.comp.count then (s.comp.count + 1, true)
    else (w, decide (w ≠ v))

/-- A sensor that comes into use takes its input level as its covered state (R16). -/
def Sensor.fresh (level : Bool) : Sensor := { Sensor.reset with covered := level }

/-- Sensors that a raised SCOUNT brings into use are set up afresh (R16). -/
def freshSensors (old : Nat) (s : State) : State :=
  { s with sens := { s.sens with
      sensors := s.sens.sensors.mapIdx fun k q =>
        if old ≤ k ∧ k < s.scount then Sensor.fresh (s.pins.sensors.getLsbD k) else q } }

def countClamp (s : State) : State := { s with cfg := { s.cfg with clamps := incSat s.cfg.clamps } }

/-- A PAGE_SYNC pulse ends when no line has the function any more (R121). -/
def endPulse (s : State) : State := { s with reg := { s.reg with pulse := s.reg.pulse && s.hasPageSync } }

/-- A parameter is written, with what its taking effect brings at once: sensors coming into use (R16), and a line taken
from an input function (R164) or from PAGE_SYNC (R121). R164 speaks of a line given or taken; that a line whose polarity
alone is changed is treated alike, so that a function whose last line stops reading active has become inactive, is DESIGN
CHOICE (log entry 52). -/
def putParam (i v : Nat) (s : State) : State :=
  let s1 := { s with cfg := { s.cfg with params := s.cfg.params.set i v, index := i + 1 } }
  if i = 5 then freshSensors s.scount s1
  else if isLineParam i then endPulse (linesFallen s s1)
  else s1

/-- One value for one index (R187). -/
def writeParam (i v : Nat) (s : State) : State :=
  if 92 ≤ i then countClamp s
  else
    let s1 := if (s.admitted i v).2 then countClamp s else s
    putParam i (s.admitted i v).1 s1

/-- The values of a frame go to consecutive indexes (R187). -/
def writeParams (i : Nat) (values : List Half) (s : State) : State :=
  match values with
  | [] => s
  | v :: rest => writeParams (i + 1) rest (writeParam i v.toNat s)

/-! ### The commit check (R188) -/

/-- The branch code of sensor k does not decrease in position up to it (R188 test 2). -/
def State.belowEarlier (s : State) (k : Nat) : Bool :=
  (List.range k).any fun j => s.sbranch j == s.sbranch k && decide (s.spos k < s.spos j)

/-- The first sensor found below an earlier sensor of its branch (R188 test 2). -/
def State.outOfOrder (s : State) : Option Nat := (List.range s.scount).find? s.belowEarlier

/-- The stop distance (R58). -/
def State.stopLength (s : State) : Nat := ceilPu (s.par 49 * s.par 35)

/-- The first parameter index failing the commit check, none when it passes (R188). -/
def State.commitCheck (s : State) : Option Nat :=
  if s.sbranch 0 ≠ 0 then some 12
  else match s.outOfOrder with
    | some k => some (6 + k)
    | none =>
      if (List.range s.scount).any (fun k => decide (s.sbranch k ≠ 2) && decide (s.exitX < s.spos k)) then some 30
      else if 65535 < s.exitX + 4500 ∨ 65535 < s.exitX + s.arrD then some 34
      else if s.exitX < s.holdM + s.stopLength then some 30
      else if s.role = .register ∧ s.regSensor = none then some 18
      else if s.role = .invert ∧ (s.gateSensor = none ∨ s.invertSensor = none) then some 18
      else if s.role = .invert ∧ s.dn2 = 0 then some 4
      else if s.role = .invert ∧ s.aExit < 4600 then some 31
      else if s.role = .exit ∧ (s.gateSensor = none ∨ s.compileSensor = none) then some 18
      else none

/-- The derived points computed when every test passes (R58, R188); a point of another role keeps its value. -/
def State.derived (s : State) : ConfigStore :=
  { s.cfg with
    stopDistance := s.stopLength
    stopPoint := s.exitX - s.holdM - s.stopLength
    compileStop :=
      if s.role = .exit then s.spos (s.compileSensor.getD 0) - s.holdM - s.stopLength else s.cfg.compileStop
    returnStop :=
      if s.role = .invert then min (s.aExit + s.holdM + ceilPu (s.par 50 * s.par 36)) 65535 else s.cfg.returnStop }

/-- The commit check is run, the state set and STATUS queued (R159, R160, R188). -/
def commit (s : State) : State :=
  match s.commitCheck with
  | none => replyConfig none (enterState .ready { s with cfg := s.derived })
  | some i => replyConfig (some i) (enterState .unconfigured s)

/-! ### CONFIGURE (R187) -/

/-- Where the first value goes: 127 means continue (R187). -/
def State.startIndex (s : State) (start : BitVec 7) : Nat := if start.toNat = 127 then s.cfg.index else start.toNat

/-- What CONFIGURE does (R187). -/
def configureStation (start : BitVec 7) (endMark : Bool) (values : List Half) (s : State) : State :=
  let s1 := writeParams (s.startIndex start) values s
  if endMark then commit s1 else s1

/-- CONFIGURE comes to its turn in the receive buffer. -/
def admitConfigure (h : Header) (start : BitVec 7) (endMark : Bool) (values : List Half) (s : State) : State :=
  admitFrame h ⟨.engine, .configuration⟩ (configureStation start endMark values) s

/-- CONFIGURE (R187); more than three values is no length the kind allows (R181). -/
def execConfigure (h : Header) (start : BitVec 7) (endMark : Bool) (values : List Half) (s : State) :
    Host.Outcome State Fault Refusal :=
  .next (receive (.configure h start endMark values) h (admitConfigure h start endMark values) s)

/-! ### QUERY (R190) -/

/-- The STATUS a selector asks for (R190). -/
def State.answer (s : State) (selector : Nat) : FrameBody :=
  match selector with
  | 0 => .status (s.statusOf .none none)
  | 1 => .statusFaults false (s.flt.counters.take 8)
  | 2 => .statusFaults true (s.flt.counters.drop 8)
  | 3 => .statusBus [s.port.overruns, s.port.checkErrors, s.port.foreign, s.port.stale, s.port.drops, s.cfg.clamps]
  | _ => .statusSweep s.sweep.results

/-- The sweep results a clearing QUERY leaves (R168). -/
def SweepResults.clear (q : SweepResults) : SweepResults :=
  { q with received := 0, mismatches := 0, residuals := 0, firstExpected := none, firstActual := none,
           firstResidual := none }

/-- The bus counters cleared (R186, R190). -/
def Port.clearCounters (p : Port) : Port :=
  { p with overruns := 0, checkErrors := 0, foreign := 0, stale := 0, drops := 0 }

/-- What a selector's clear flag clears (R190). -/
def clearAnswered (selector : Nat) (s : State) : State :=
  match selector with
  | 0 => s
  | 1 => { s with flt := { s.flt with counters := List.replicate 8 0 ++ s.flt.counters.drop 8 } }
  | 2 => { s with flt := { s.flt with counters := s.flt.counters.take 8 ++ List.replicate 8 0 } }
  | 3 => { s with port := s.port.clearCounters, cfg := { s.cfg with clamps := 0 } }
  | _ => { s with sweep := { s.sweep with results := s.sweep.results.clear } }

/-- What QUERY does (R190): the answer first, then the clearing. -/
def answerQuery (selector : Nat) (clear : Bool) (s : State) : State :=
  let s1 := send s.engAddr (s.answer selector) s
  if clear then clearAnswered selector s1 else s1

/-- QUERY comes to its turn in the receive buffer. -/
def admitQuery (h : Header) (selector : BitVec 3) (clear : Bool) (s : State) : State :=
  admitFrame h ⟨.engine, .always⟩ (answerQuery selector.toNat clear) s

/-- QUERY (R190); a selector above 4 is not defined (R181). -/
def execQuery (h : Header) (selector : BitVec 3) (clear : Bool) (s : State) : Host.Outcome State Fault Refusal :=
  .next (receive (.query h selector clear) h (admitQuery h selector clear) s)

/-! ### RESTART (R158) -/

/-- The address is one the station can send from (R157). -/
def validAddress (a : Nat) : Bool := decide (1 ≤ a ∧ a ≤ 62)

/-- The port after a restart: class 5 frames are kept, none where the address is 0 or 63 (R158). A frame
that is being sent goes on only if it is of class 5, and then from the new address: DESIGN CHOICE (log entry 45). -/
def Port.restart (p : Port) (address : Nat) : Port :=
  { Port.reset with tx := if validAddress address then p.tx.filter fun e => e.cls == 5 else [] }

/-- Every block at its value after restart (R158, R167). The self-test failure set stays as it was until the self-test
that follows sets it (R23, R156): DEDUCED (log entry 28). -/
def restartStation (addrStraps roleStraps : Nat) (s : State) : State :=
  { State.fullReset addrStraps roleStraps s.pins s.pending with
    ctl := { Control.reset addrStraps roleStraps with restarted := true }
    port := s.port.restart addrStraps
    cfg := { s.cfg with index := 0, clamps := 0 }
    sens := { sensors := List.replicate 6 Sensor.reset, failed := s.sens.failed } }

/-- RESTART comes to its turn in the receive buffer. -/
def admitRestart (h : Header) (addrStraps : BitVec 6) (roleStraps : BitVec 3) (s : State) : State :=
  admitFrame h ⟨.engine, .always⟩ (restartStation addrStraps.toNat roleStraps.toNat) s

/-- RESTART (R158); the straps read these values. -/
def execRestart (h : Header) (addrStraps : BitVec 6) (roleStraps : BitVec 3) (s : State) :
    Host.Outcome State Fault Refusal :=
  .next (receive (.restart h addrStraps roleStraps) h (admitRestart h addrStraps roleStraps) s)

/-! ### SELFTEST_COMPLETE (R156, R157, R159) -/

/-- The self-test's readings are taken (R156, R23). -/
def takeReadings (stuck levels : BitVec 6) (s : State) : State :=
  { s with
    pins := { s.pins with sensors := levels }
    ctl := { s.ctl with selftest := false }
    sens := { sensors := s.sens.sensors.mapIdx fun k q => { q with covered := levels.getLsbD k }, failed := stuck } }

/-- JOIN is queued to ENGADDR (R156). -/
def sendJoin (s : State) : State := send s.engAddr (.join s.role s.sens.failed s.strapFault s.ctl.strap) s

/-- The station leaves SELFTEST, unless its address is not one it can send from (R156, R157, R159). -/
def leaveSelftest (s : State) : State :=
  if validAddress s.ctl.address = false then s
  else if s.ctl.restarted then commit (sendJoin s)
  else enterState .unconfigured (sendJoin s)

/-- SELFTEST_COMPLETE (R156): the 50 ms have run. -/
def execSelftestComplete (stuck levels : BitVec 6) (s : State) : Host.Outcome State Fault Refusal :=
  if s.ctl.resetLow = false ∧ s.ctl.st = .selftest ∧ s.ctl.selftest = true then
    .next (leaveSelftest (takeReadings stuck levels s))
  else .next s

end Sys2Proof.Machine
end

