-- ==== Sys2Proof/Machine/SheetFrames.lean ====
section
/-! DEFINITION. The frames of the handoff and of the hold: PASS, ARRIVED, OFFER, TAKE, DEFER, READY (spec 04), HOLD, GO
(R63, R64), BROKEN (R20) and IMAGE (R111). -/

namespace Sys2Proof.Machine

/-! ### PASS and ARRIVED (R83, R76) -/

/-- The record a PASS from this sender names is expected from it (R83). -/
def State.expectedFrom (s : State) (src : Nat) (t : Tag) : Option Record :=
  s.track.queue.find? fun r => r.tag == t && decide (r.place = .expected) && decide (s.upstreamOf r.source = some src)

/-- What PASS does (R83). -/
def passHeard (src : Nat) (t : FrameTag) (s : State) : State :=
  match s.expectedFrom src (keyOf t) with
  | some r => settle s (enterRecord r s)
  | none =>
    if s.ctl.st.steps then raise (requestBare .overrun (some (keyOf t)) t.last none) s else countStale s

/-- PASS comes to its turn in the receive buffer. -/
def admitPass (h : Header) (t : FrameTag) (s : State) : State :=
  admitFrame h ⟨.upstream, .handoff⟩ (passHeard h.src.toNat t) s

/-- PASS (R83). -/
def execPass (h : Header) (t : FrameTag) (s : State) : Host.Outcome State Fault Refusal :=
  .next (receive (.pass h t) h (admitPass h t) s)

/-- The EXITING record that an ARRIVED from this sender names (R76). -/
def State.exitingTo (s : State) (src : Nat) (t : Tag) : Option Record :=
  s.track.queue.find? fun r => r.tag == t && decide (r.place = .exiting) && decide (s.downstream r = src)

/-- What ARRIVED does (R76). -/
def arrivedHeard (src : Nat) (t : FrameTag) (s : State) : State :=
  match s.exitingTo src (keyOf t) with
  | some r => settle s (testExitTrail r.tag (mapRec r.tag (fun x => { x with arrival := true }) s))
  | none => countStale s

/-- ARRIVED comes to its turn in the receive buffer. -/
def admitArrived (h : Header) (t : FrameTag) (s : State) : State :=
  admitFrame h ⟨.downstream, .handoff⟩ (arrivedHeard h.src.toNat t) s

/-- ARRIVED (R76). -/
def execArrived (h : Header) (t : FrameTag) (s : State) : Host.Outcome State Fault Refusal :=
  .next (receive (.arrived h t) h (admitArrived h t) s)

/-! ### OFFER (R77) -/

/-- What OFFER does (R77). -/
def offerHeard (src : Nat) (o : SheetFields) (s : State) : State := settle s (takeOfferFrame src (offerOf o) s)

/-- OFFER comes to its turn in the receive buffer. -/
def admitOffer (h : Header) (o : SheetFields) (s : State) : State :=
  admitFrame h ⟨.upstream, .handoff⟩ (offerHeard h.src.toNat o) s

/-- OFFER (R77). -/
def execOffer (h : Header) (o : SheetFields) (s : State) : Host.Outcome State Fault Refusal :=
  .next (receive (.offer h o) h (admitOffer h o) s)

/-! ### TAKE (R71, R104, R105) -/

/-- A TAKE for this record is stale whatever its exit stage: the record is given up (R71, R105). -/
def State.takeBarred (s : State) (t : Tag) : Bool :=
  decide (s.hand.givenUp = some t) || (s.inv.givenUp && decide (s.inv.loop = some t))

/-- Exit stage OFFERED or DEFERRED (R71). -/
def ExitStage.offeredOrDeferred : ExitStage → Bool
  | .offered | .deferred => true
  | _ => false

/-- The record that a TAKE from this sender is accepted for (R71). -/
def State.takenBy (s : State) (src : Nat) (t : Tag) : Option Record :=
  if s.takeBarred t then none
  else s.track.queue.find? fun r => r.tag == t && decide (s.downstream r = src) && r.stage.offeredOrDeferred

/-- The TAKE of the loop record: its return wait timer is IDLE (R105), in BLOCKED too (R108), and RETURN WAIT becomes
RETURNING (R104). -/
def endReturnWait (t : Tag) (s : State) : State :=
  if s.inv.loop = some t then
    { s with inv := { s.inv with
        seq := if s.inv.seq = .returnWait then .returning else s.inv.seq
        timer := .idle } }
  else s

/-- A record already at its exit boundary is passed in the event of its TAKE, where steps are issued (R71, R73). -/
def passIfThere (r : Record) (s : State) : State :=
  if r.atBoundary = true ∧ s.ctl.st.steps = true then passRecord r s else s

/-- An accepted TAKE (R71): the record is TAKEN by its downstream, the sender, and no OFFER is owed for it any more.
Where the end of HANDOFF_WAIT empties the hold set, READY to the upstreams deferred HELD is queued here, before the
OFFER of a later record that this TAKE allows and settling sends; the two are of one class and R71 gives them no order:
DESIGN CHOICE (log entry 40). A waiting record already at its exit boundary ends its wait before it is passed, so the
GO frames of R62 are queued before PASS; these too are of one class without an order in the spec: DESIGN CHOICE (log
entry 40). -/
def takeRecord (r : Record) (s : State) : State :=
  passIfThere r
    (endReturnWait r.tag
      (endHoldWait r.tag (mapRec r.tag (fun x => { x with stage := .taken (s.downstream r), offerOwed := false }) s)))

/-- What TAKE does (R71). -/
def takeHeard (src : Nat) (t : FrameTag) (s : State) : State :=
  match s.takenBy src (keyOf t) with
  | some r => settle s (takeRecord r s)
  | none => countStale s

/-- TAKE comes to its turn in the receive buffer. -/
def admitTake (h : Header) (t : FrameTag) (s : State) : State :=
  admitFrame h ⟨.downstream, .handoff⟩ (takeHeard h.src.toNat t) s

/-- TAKE (R71). -/
def execTake (h : Header) (t : FrameTag) (s : State) : Host.Outcome State Fault Refusal :=
  .next (receive (.take h t) h (admitTake h t) s)

/-! ### DEFER and READY (R70) -/

/-- The OFFERED record that a DEFER from this sender names (R70). -/
def State.offeredTo (s : State) (src : Nat) (t : Tag) : Option Record :=
  s.track.queue.find? fun r => r.tag == t && decide (s.downstream r = src) && decide (r.stage = .offered)

/-- What DEFER does (R70): the reason does not change the upstream's conduct. -/
def deferHeard (src : Nat) (t : FrameTag) (s : State) : State :=
  match s.offeredTo src (keyOf t) with
  | some r => mapRec r.tag (fun x => { x with stage := .deferred }) s
  | none => countStale s

/-- DEFER comes to its turn in the receive buffer. -/
def admitDefer (h : Header) (t : FrameTag) (reason : Byte) (s : State) : State :=
  admitFrame h ⟨.downstream, .handoff⟩ (deferHeard h.src.toNat t) s

/-- DEFER (R70); a reason code above 3 is not defined (R181). -/
def execDefer (h : Header) (t : FrameTag) (reason : Byte) (s : State) : Host.Outcome State Fault Refusal :=
  .next (receive (.defer h t reason) h (admitDefer h t reason) s)

/-- A record is DEFERRED by this downstream (R70). -/
def State.deferredBy (s : State) (src : Nat) (r : Record) : Bool :=
  decide (s.downstream r = src) && decide (r.stage = .deferred)

/-- The later DEFERRED records of a downstream are owed an OFFER, one at a time (R70). -/
def oweOffers (src : Nat) (s : State) : State :=
  { s with track := { s.track with
      queue := s.track.queue.map fun r => if s.deferredBy src r then { r with offerOwed := true } else r } }

/-- What READY does (R70). -/
def readyHeard (src : Nat) (s : State) : State :=
  if s.ctl.st.steps then
    match s.track.queue.find? (s.deferredBy src) with
    | some r => sendOffer r (oweOffers src s)
    | none => s
  else s

/-- READY comes to its turn in the receive buffer. -/
def admitReady (h : Header) (s : State) : State :=
  admitFrame h ⟨.downstream, .handoff⟩ (readyHeard h.src.toNat) s

/-- READY (R70). -/
def execReady (h : Header) (s : State) : Host.Outcome State Fault Refusal :=
  .next (receive (.ready h) h (admitReady h) s)

/-! ### HOLD and GO (R63, R64) -/

/-- A HOLD is recorded and forwarded to the sharing neighbours other than its sender (R63). -/
def recordHold (src origin : Nat) (s : State) : State :=
  let fwd := s.sharing.filter fun a => a != src
  sendAll fwd (.hold origin)
    (s.withHold (s.drive.hold ++ [{ origin := origin, own := Reasons.none, via := some src, fwd := fwd }]))

/-- What HOLD does (R63). -/
def holdHeard (src origin : Nat) (s : State) : State :=
  if s.ctl.st.steps = false ∨ origin = s.ctl.address ∨ (s.holdEntry? origin).isSome = true then s
  else if s.holdHasPlace then settle s (recordHold src origin s)
  else countStale s

/-- HOLD comes to its turn in the receive buffer. -/
def admitHold (h : Header) (origin : Byte) (s : State) : State :=
  admitFrame h ⟨.neighbours, .handoff⟩ (holdHeard h.src.toNat origin.toNat) s

/-- HOLD (R63). -/
def execHold (h : Header) (origin : Byte) (s : State) : Host.Outcome State Fault Refusal :=
  .next (receive (.hold h origin) h (admitHold h origin) s)

/-- What GO does (R64). -/
def goHeard (origin : Nat) (s : State) : State :=
  if origin = s.ctl.address then s
  else match s.holdEntry? origin with
    | some e => settle s (releaseEntry e s)
    | none => s

/-- GO comes to its turn in the receive buffer. -/
def admitGo (h : Header) (origin : Byte) (s : State) : State :=
  admitFrame h ⟨.neighbours, .handoff⟩ (goHeard origin.toNat) s

/-- GO (R64). -/
def execGo (h : Header) (origin : Byte) (s : State) : Host.Outcome State Fault Refusal :=
  .next (receive (.go h origin) h (admitGo h origin) s)

/-! ### BROKEN (R20) -/

/-- BROKEN comes to its turn in the receive buffer. -/
def admitBroken (h : Header) (set : Half) (s : State) : State :=
  admitFrame h ⟨.anyone, .plain⟩ (fun s => settle s (addBroken set.toNat .broken s)) s

/-- BROKEN (R20). -/
def execBroken (h : Header) (set : Half) (s : State) : Host.Outcome State Fault Refusal :=
  .next (receive (.broken h set) h (admitBroken h set) s)

/-! ### IMAGE (R111) -/

/-- What IMAGE does (R111). -/
def imageHeard (t : FrameTag) (side : Nat) (s : State) : State :=
  if s.role ≠ .register then s
  else if s.ctl.st = .unconfigured then countStale s
  else settle s (takeImage { tag := keyOf t, side := side } s)

/-- IMAGE comes to its turn in the receive buffer. -/
def admitImage (h : Header) (t : FrameTag) (side : Byte) (s : State) : State :=
  admitFrame h ⟨.engine, .plain⟩ (imageHeard t side.toNat) s

/-- IMAGE (R111); a side other than 1 or 2 is not defined (R110, R181). -/
def execImage (h : Header) (t : FrameTag) (side : Byte) (s : State) : Host.Outcome State Fault Refusal :=
  .next (receive (.image h t side) h (admitImage h t side) s)

end Sys2Proof.Machine
end

