-- ==== Sys2Proof/Machine/PathSweep.lean ====
section
/-! DEFINITION. The Sweep Unit (spec 10): SWEEP (R168) and GHOST_LAUNCH (R170, R171). -/

namespace Sys2Proof.Machine

/-- The next number above n that is not skipped; the multiples of the inject period are (R170). -/
def nextGhost (inject n : Nat) : Nat := if inject ≠ 0 ∧ (n + 1) % inject = 0 then n + 2 else n + 1

/-- The number of the last ghost: the highest from 1 to G that is not skipped (R170). -/
def lastGhost (ghosts inject : Nat) : Nat := if inject ≠ 0 ∧ ghosts % inject = 0 then ghosts - 1 else ghosts

/-- The tag of a ghost (R1, R170). -/
def ghostTag (number : Nat) : Tag := { set := number, seq := 1 }

/-- A ghost as it joins (R13, R170). -/
def ghostRecord (number : Nat) (last : Bool) : Record :=
  freshRecord
    { tag := ghostTag number, last := last, side := .simplex, speed := 0,
      marks := { Marks.none with ghost := true }, length := 2000 }
    .entering .pick (some 0) 0

/-- The spacing ghost lets the next be launched (R171). -/
def State.spacingMet (s : State) : Bool :=
  match s.sweep.spacing with
  | none => true
  | some t =>
    match s.rec? t with
    | none => true
    | some r => decide ((2000 + s.gapMin) * 256 ≤ r.odo)

/-- All the conditions of a launch (R171); a tag already held makes the launch wait, as no two records carry the same
set and sequence (R11). -/
def State.launchReady (s : State) : Bool :=
  s.sweep.launching && !s.sweep.drainAsked && decide (s.ctl.st = .sweeping) && s.drive.hold.isEmpty &&
    s.feed.pick.isNone && decide (s.track.queue.length < 8) && s.spacingMet && !s.held (ghostTag s.sweep.nextNumber)

/-- A launch (R170, R171). -/
def launchGhost (s : State) : State :=
  let n := s.sweep.nextNumber
  let last := decide (n = lastGhost s.sweep.ghosts s.sweep.inject)
  joinQueue (ghostRecord n last)
    { s with
      sweep := { s.sweep with
        spacing := some (ghostTag n)
        nextNumber := nextGhost s.sweep.inject n
        launching := s.sweep.launching && !last }
      feed := { s.feed with pick := some (ghostTag n) } }

/-- A launch is examined (R170, R171). -/
def examineLaunch (s : State) : State := if s.launchReady then launchGhost s else s

/-- GHOST_LAUNCH (R171). -/
def execGhostLaunch (s : State) : Host.Outcome State Fault Refusal :=
  if s.ctl.resetLow then .next s else .next (settle s (examineLaunch s))

/-- The Sweep Unit's state when SWEEP is taken (R168, R170). -/
def State.sweepTaken (s : State) (g n origin : Nat) : Sweep :=
  { Sweep.reset with
    ghosts := sweepCount g
    inject := sweepInject n
    origin := some origin
    active := true
    launching := decide (origin = s.ctl.address ∧ s.role = .feed) }

/-- The reason of the reply to SWEEP (R168). -/
def State.sweepReason (s : State) : StatusReason := if s.ctl.st = .ready then s.startRefusal else .state

/-- SWEEP taken (R168): the state entered and the offer slots examined, then the first launch examined. -/
def beginSweep (g n origin : Nat) (s : State) : State :=
  examineLaunch (changeState .sweeping { s with sweep := s.sweepTaken g n origin })

/-- SWEEP refused (R168): the station takes no part in the sweep; the sweep results stay as they stand. -/
def refuseSweep (s : State) : State := reply s.sweepReason { s with sweep := { s.sweep with refused := true } }

/-- What SWEEP does (R168). -/
def sweepStation (g n origin : Nat) (s : State) : State :=
  if s.sweepReason = .none then settle s (reply .none (beginSweep g n origin s)) else refuseSweep s

/-- SWEEP comes to its turn in the receive buffer. -/
def admitSweep (h : Header) (g n origin : Byte) (s : State) : State :=
  admitFrame h ⟨.engine, .plain⟩ (sweepStation g.toNat n.toNat origin.toNat) s

/-- SWEEP (R168). -/
def execSweep (h : Header) (g n origin : Byte) (s : State) : Host.Outcome State Fault Refusal :=
  .next (receive (.sweep h g n origin) h (admitSweep h g n origin) s)

end Sys2Proof.Machine
end

