-- ==== Sys2Proof/Machine/Frames.lean ====
section
/-! DEFINITION. Frames as bits (spec 11): class, kind and length (R181), the payload layouts in both directions (R183),
the bits of a frame with its check and inserted bits (R178), the arbitration number (R179), the reading of a received
frame from its levels (R178), the command FRAME_ERROR, which judges a completed frame (R180, R181), and the frames that
wait in the receive buffer (R180). -/

namespace Sys2Proof.Machine

/-! ### Payload bytes of the frames a station sends (R183) -/

/-- The low byte of a number. -/
def byteOf (n : Nat) : Byte := BitVec.ofNat 8 n

/-- A two-byte number, high byte first (R183). -/
def halfBytes (n : Nat) : List Byte := [byteOf (n / 256), byteOf n]

/-- The byte of the last flag and the sequence (R183); a sequence above 63 has no six bits (log entry 5). -/
def sequenceByte (seq : Nat) (last : Bool) : Byte :=
  BitVec.ofBool last ++ (0#1 ++ (if seq < 64 then BitVec.ofNat 6 seq else Config.wideSequence seq))

/-- The three bytes of a tag (R183). -/
def tagBytes (t : Tag) (last : Bool) : List Byte := halfBytes t.set ++ [sequenceByte t.seq last]

/-- The code of an image side or of an original code, absent as 15 (R183). -/
def originalCode : Option FaultCode → Nat
  | none => 15
  | some c => c.code

/-- The set and the sequence byte of a FAULT: a sequence of 0 says that the tag is absent; the set and the last flag are
free then (R183, log entry 5). -/
def faultTag (q : Request) : List Byte :=
  match q.tag with
  | some t => tagBytes t q.last
  | none => [Config.absentByte 0, Config.absentByte 1, (Config.absentByte 8).extractLsb' 7 1 ++ 0#7]

/-- The position of a FAULT (R183, log entry 5). -/
def faultPosition (q : Request) : List Byte :=
  match q.position with
  | some p => halfBytes p
  | none => [Config.absentByte 2, Config.absentByte 3]

/-- A three-bit sensor number, free where the sensor is absent (R183, log entry 5). -/
def sensorBits (k : Option Nat) (place : Nat) : BitVec 3 :=
  match k with
  | some k => BitVec.ofNat 3 k
  | none => (Config.absentByte place).truncate 3

/-- Byte 6 of a FAULT (R183). -/
def faultSensor (q : Request) : Byte :=
  0#3 ++ (BitVec.ofBool q.position.isSome ++ (BitVec.ofBool q.sensor.isSome ++ sensorBits q.sensor 4))

/-- A number of one byte; one that does not fit is free (R183, log entry 5). -/
def narrowByte (n : Nat) : Byte := if n < 256 then byteOf n else Config.wideByte n

/-- A captured number (R183, log entry 5). -/
def captureByte (c : Option Nat) (place : Nat) : Byte :=
  match c with
  | some n => narrowByte n
  | none => Config.absentByte place

/-- The payload of STATUS kind 4 and of SWEEPREPORT (R183). -/
def sweepBytes (q : SweepResults) : List Byte :=
  [byteOf q.received, byteOf q.mismatches, captureByte q.firstExpected 5, captureByte q.firstActual 6,
   byteOf q.residuals,
   BitVec.ofBool q.firstExpected.isSome ++
     (BitVec.ofBool q.firstResidual.isSome ++ (0#3 ++ sensorBits q.firstResidual 7))]

/-- The payload of STATUS kind 0 (R183). -/
def statusBytes (st : Status) : List Byte :=
  [byteOf st.state.code, byteOf st.reason.code, byteOf (st.failing.getD 127), byteOf st.queueCount, byteOf st.depth,
   byteOf (match st.top with
     | some c => c.code
     | none => 255),
   byteOf st.holdCount]

/-- The payload of every frame a station sends (R183). -/
def FrameBody.payload : FrameBody → List Byte
  | .halt code => [byteOf code.code]
  | .pass t last => tagBytes t last
  | .arrived t last => tagBytes t last
  | .hold origin => [byteOf origin]
  | .go origin => [byteOf origin]
  | .broken set => halfBytes set
  | .offer o =>
    tagBytes o.tag o.last ++ [byteOf (o.side.code + 4 * o.speed), byteOf o.marks.code] ++ halfBytes o.length
  | .take t last => tagBytes t last
  | .defer t last reason => tagBytes t last ++ [byteOf reason.code]
  | .ready => []
  | .sync t last side => tagBytes t last ++ [byteOf side]
  | .status st => statusBytes st
  | .statusFaults _ counters => counters.map byteOf
  | .statusBus counters => counters.map byteOf
  | .statusSweep q => sweepBytes q
  | .fault q =>
    [byteOf (q.code.code + 16 * originalCode q.original)] ++ faultTag q ++ faultPosition q ++
      [faultSensor q, byteOf q.worst]
  | .delivered set count split => halfBytes set ++ [byteOf count, byteOf split.toNat]
  | .purged set count reason => halfBytes set ++ [byteOf count, byteOf reason.code]
  | .join role failed strapFault strap =>
    [byteOf role.code, 0#2 ++ failed, BitVec.ofBool strapFault ++ (0#4 ++ BitVec.ofNat 3 strap)]
  | .sweepReport q => sweepBytes q

/-- The kind of a frame within its class (R181). -/
def FrameBody.kind : FrameBody → Nat
  | .halt _ => 0
  | .pass _ _ => 0
  | .arrived _ _ => 1
  | .hold _ => 2
  | .go _ => 3
  | .broken _ => 4
  | .offer _ => 0
  | .take _ _ => 1
  | .defer _ _ _ => 2
  | .ready => 3
  | .sync _ _ _ => 0
  | .status _ => 0
  | .statusFaults upper _ => if upper then 2 else 1
  | .statusBus _ => 3
  | .statusSweep _ => 4
  | .fault _ => 5
  | .delivered _ _ _ => 6
  | .purged _ _ _ => 7
  | .join _ _ _ _ => 8
  | .sweepReport _ => 9

/-! ### Bits on the line (R178, R179) -/

/-- The bits of a field, most significant first (R178). -/
def bitsOf {w : Nat} (x : BitVec w) : List Bool := (List.range w).map fun i => x.getMsbD i

/-- One bit through the check's generator x^16 + x^12 + x^5 + 1 (R178). -/
def checkBit (r : BitVec 16) (b : Bool) : BitVec 16 :=
  if r.getMsbD 0 != b then (r <<< 1) ^^^ 0x1021#16 else r <<< 1

/-- The check over a run of bits, the register preset to all ones (R178). -/
def checkOf (bits : List Bool) : BitVec 16 := bits.foldl checkBit 0xffff#16

/-- The fields of a frame from class to the last payload bit (R178). -/
def fieldBits (cls : BitVec 3) (kind : BitVec 5) (h : Header) (payload : List Byte) : List Bool :=
  bitsOf cls ++ bitsOf kind ++ bitsOf h.src ++ bitsOf h.dst ++ bitsOf (BitVec.ofNat 4 payload.length) ++
    payload.flatMap bitsOf

/-- After five equal bits one bit of the opposite level is inserted; `run` bits of level `level` were sent last, an
inserted bit among them (R178). -/
def insertBits (level : Bool) (run : Nat) : List Bool → List Bool
  | [] => []
  | b :: rest =>
    let n := if b = level then run + 1 else 1
    if n = 5 then b :: (!b) :: insertBits (!b) 1 rest else b :: insertBits b n rest

/-- A frame of the transmit queue with the fields as sent by a station of this address (R178, R181). -/
def Frame.fields (address : Nat) (f : Frame) : List Bool :=
  fieldBits (BitVec.ofNat 3 f.body.cls) (BitVec.ofNat 5 f.body.kind) ⟨BitVec.ofNat 6 address, BitVec.ofNat 6 f.dst⟩
    f.body.payload

/-- The start bit, the fields and the check of a frame, before inserted bits (R178). -/
def Frame.plainBits (address : Nat) (f : Frame) : List Bool :=
  false :: (f.fields address ++ bitsOf (checkOf (f.fields address)))

/-- The levels of a frame on the line: bit 0 dominant; inserted bits, and eight recessive bits at the end (R178). -/
def Frame.wire (address : Nat) (f : Frame) : List Bool :=
  insertBits true 0 (f.plainBits address) ++ List.replicate 8 true

/-- The levels the station drives for the frame being sent, none when it sends nothing (R184, R155). -/
def State.wire (s : State) : Option (List Bool) :=
  if s.ctl.resetLow then none
  else (s.port.tx.find? TxEntry.sending).map fun e => e.frame.wire s.ctl.address

/-- Class, kind and source read as one number; the lower wins (R179). -/
def arbitration (cls : BitVec 3) (kind : BitVec 5) (src : Address) : BitVec 14 := cls ++ (kind ++ src)

/-! ### Received fields (R181, R183) -/

/-- The tag that three bytes hold (R183). -/
def readTag (a b c : Byte) : FrameTag :=
  { set := a ++ b, last := c.getLsbD 7, seq := c.truncate 6 }

/-- The fields of OFFER and FEED (R183). -/
def readSheet (a b c d m hi lo : Byte) : SheetFields :=
  { tag := readTag a b c, side := d.truncate 2, speed := (d >>> 2).truncate 2, marks := m.truncate 4, length := hi ++ lo }

/-- The values of a CONFIGURE, two bytes each (R183). -/
def readValues : List Byte → List Half
  | a :: b :: rest => (a ++ b) :: readValues rest
  | _ => []

/-- What R181 makes of a class, a kind and a payload. -/
inductive Reading where
  /-- No row of the table, or a length the row does not allow: counted in the check error counter (R181). -/
  | bad
  /-- SYNC with a defined side, or a class 5 frame: no station is accepted as its sender here (R182). -/
  | foreign
  /-- The command the frame is. -/
  | command (i : Instr)
deriving DecidableEq, Repr

/-- Class 1 (R181). -/
def readClass1 (h : Header) (kind : Nat) (p : List Byte) : Reading :=
  match kind, p with
  | 0, [a, b, c] => .command (.pass h (readTag a b c))
  | 1, [a, b, c] => .command (.arrived h (readTag a b c))
  | 2, [o] => .command (.hold h o)
  | 3, [o] => .command (.go h o)
  | 4, [a, b] => .command (.broken h (a ++ b))
  | _, _ => .bad

/-- Class 2 (R181). -/
def readClass2 (h : Header) (kind : Nat) (p : List Byte) : Reading :=
  match kind, p with
  | 0, [a, b, c, d, m, hi, lo] => .command (.offer h (readSheet a b c d m hi lo))
  | 1, [a, b, c] => .command (.take h (readTag a b c))
  | 2, [a, b, c, r] => .command (.defer h (readTag a b c) r)
  | 3, [] => .command (.ready h)
  | _, _ => .bad

/-- Class 3 (R181); a RESTART finds the straps as they were last read. -/
def readClass3 (s : State) (h : Header) (kind : Nat) (p : List Byte) : Reading :=
  match kind, p with
  | 0, a :: rest =>
    if rest.length % 2 = 0 ∧ rest.length ≤ 6 then
      .command (.configure h (a.truncate 7) (a.getLsbD 7) (readValues rest))
    else .bad
  | 1, [] => .command (.start h)
  | 2, [] => .command (.drain h)
  | 3, [] => .command (.resume h)
  | 4, [] => .command (.clearpath h)
  | 5, [] => .command (.restart h (BitVec.ofNat 6 s.ctl.address) (BitVec.ofNat 3 s.ctl.strap))
  | 6, [a, b, c, d, m, hi, lo] => .command (.feed h (readSheet a b c d m hi lo))
  | 7, [a, b, c, side] => .command (.image h (readTag a b c) side)
  | 8, [g, n, o] => .command (.sweep h g n o)
  | 9, [q] => .command (.query h (q.truncate 3) (q.getLsbD 7))
  | _, _ => .bad

/-- Class 4: SYNC (R181). -/
def readClass4 (kind : Nat) (p : List Byte) : Reading :=
  match kind, p with
  | 0, [_, _, _, side] => if side.toNat = 1 ∨ side.toNat = 2 then .foreign else .bad
  | _, _ => .bad

/-- The payload length of a class 5 kind (R181). -/
def reportLength (kind : Nat) : Option Nat :=
  match kind with
  | 0 => some 7
  | 1 => some 8
  | 2 => some 8
  | 3 => some 6
  | 4 => some 6
  | 5 => some 8
  | 6 => some 4
  | 7 => some 4
  | 8 => some 3
  | 9 => some 6
  | _ => none

/-- The row of R181's table that a frame is. -/
def State.read (s : State) (cls : Nat) (kind : Nat) (h : Header) (p : List Byte) : Reading :=
  match cls with
  | 0 =>
    match kind, p with
    | 0, [c] => .command (.halt h c)
    | _, _ => .bad
  | 1 => readClass1 h kind p
  | 2 => readClass2 h kind p
  | 3 => readClass3 s h kind p
  | 4 => readClass4 kind p
  | 5 => if reportLength kind = some p.length then .foreign else .bad
  | _ => .bad

/-! ### Levels received (R178) -/

/-- The bits of a frame from its levels: after five equal levels the inserted one is removed; a sixth equal level ends
the reading. `run` levels of level `level` stood last (R178). -/
def plainLevels (level : Bool) (run : Nat) : List Bool → List Bool
  | [] => []
  | b :: rest =>
    if run = 5 then (if b = level then [] else plainLevels b 1 rest)
    else b :: plainLevels b (if b = level then run + 1 else 1) rest

/-- The number that bits stand for, most significant first (R178). -/
def natOf (bits : List Bool) : Nat := bits.foldl (fun n b => 2 * n + b.toNat) 0

/-- The field of `width` bits that begins at a place of a frame's bits (R178). -/
def fieldAt (bits : List Bool) (place width : Nat) : BitVec width :=
  BitVec.ofNat width (natOf ((bits.drop place).take width))

/-- A frame read from the line, field by field (R178), before any test. -/
structure RxFrame where
  cls : BitVec 3
  kind : BitVec 5
  hdr : Header
  payload : List Byte
  check : Half
deriving DecidableEq, Repr

/-- The fields in the bits of a frame, the start bit at place 0 (R178). -/
def RxFrame.ofBits (bits : List Bool) (length : Nat) : RxFrame :=
  { cls := fieldAt bits 1 3
    kind := fieldAt bits 4 5
    hdr := { src := fieldAt bits 9 6, dst := fieldAt bits 15 6 }
    payload := (List.range length).map fun i => fieldAt bits (25 + 8 * i) 8
    check := fieldAt bits (25 + 8 * length) 16 }

/-- The frame that levels on the line are; none when six equal levels, or their end, stand before the first level of its
end field: a framing error (R178). A bit inserted after the check, where its last five levels are equal, stands before
that field. What levels the end field has is not tested (DEDUCED, log entry 29). -/
def RxFrame.ofLevels (levels : List Bool) : Option RxFrame :=
  let bits := plainLevels true 0 levels
  let length := (fieldAt bits 21 4).toNat
  if bits.length ≤ 41 + 8 * length then none else some (RxFrame.ofBits bits length)

/-- The check of a received frame is right (R178). -/
def RxFrame.checkRight (f : RxFrame) : Bool := f.check == checkOf (fieldBits f.cls f.kind f.hdr f.payload)

/-! ### FRAME_ERROR (R180, R181) -/

/-- The tests of R180 in their order, then those of R181 on kind, length and values: a frame that passes them occupies a
half of the receive buffer as the command it spells. SYNC and class 5 have no accepted sender (R182), and are counted
foreign without waiting for their turn (DESIGN CHOICE, log entry 10). -/
def judgeFrame (f : RxFrame) (s : State) : State :=
  if f.checkRight = false then countCheckError s
  else if s.hears f.hdr = false then s
  else if s.bufferFull then countOverrun s
  else
    match s.read f.cls.toNat f.kind.toNat f.hdr f.payload with
    | .bad => countCheckError s
    | .foreign => countForeign s
    | .command c => if sound c then bufferFrame c s else countCheckError s

/-- What FRAME_ERROR does: in SELFTEST and while the RESET pin is low a completed frame is discarded without count
(R180). -/
def frameHeard (levels : List Bool) (s : State) : State :=
  if s.portClosed then s
  else match RxFrame.ofLevels levels with
    | none => countCheckError s
    | some f => judgeFrame f s

/-- FRAME_ERROR (R180). -/
def execFrameError (levels : List Bool) (s : State) : Host.Outcome State Fault Refusal := .next (frameHeard levels s)

/-! ### The receive buffer (R180) -/

/-- A frame of the receive buffer comes to its turn: the tests of its sender and of the state, and its effect. -/
def takeFrame (c : Instr) (s : State) : State :=
  match c with
  | .halt h code => admitHalt h code s
  | .pass h t => admitPass h t s
  | .arrived h t => admitArrived h t s
  | .hold h origin => admitHold h origin s
  | .go h origin => admitGo h origin s
  | .broken h set => admitBroken h set s
  | .offer h o => admitOffer h o s
  | .take h t => admitTake h t s
  | .defer h t reason => admitDefer h t reason s
  | .ready h => admitReady h s
  | .configure h start endMark values => admitConfigure h start endMark values s
  | .start h => admitStart h s
  | .drain h => admitDrain h s
  | .resume h => admitResume h s
  | .clearpath h => admitClearpath h s
  | .restart h addrStraps roleStraps => admitRestart h addrStraps roleStraps s
  | .feed h o => admitFeed h o s
  | .image h t side => admitImage h t side s
  | .sweep h g n origin => admitSweep h g n origin s
  | .query h selector clear => admitQuery h selector clear s
  | _ => s

/-- The owning block takes the earliest frame of the receive buffer, and its half is free (R180). While the port is
closed none is taken. -/
def takeBuffered (s : State) : State :=
  match s.port.rx with
  | [] => s
  | c :: rest => if s.portClosed then s else takeFrame c { s with port := { s.port with rx := rest } }

end Sys2Proof.Machine
end

