-- ==== Sys2Proof/Machine/Dispatch.lean ====
section
/-! DEFINITION. One arm per command: its meaning. -/

namespace Sys2Proof.Machine

/-- The effect of a command on everything but the queue of waiting commands. -/
def exec (i : Instr) (s : State) : Host.Outcome State Fault Refusal :=
  match i with
  | .fullReset addrStraps roleStraps => Sys2Proof.Machine.execFullReset addrStraps roleStraps s
  | .selftestComplete stuck levels => Sys2Proof.Machine.execSelftestComplete stuck levels s
  | .step ch => Sys2Proof.Machine.execStep ch s
  | .leadEdge k => Sys2Proof.Machine.execLeadEdge k s
  | .trailEdge k => Sys2Proof.Machine.execTrailEdge k s
  | .lineActive n => Sys2Proof.Machine.execLineActive n s
  | .lineInactive n => Sys2Proof.Machine.execLineInactive n s
  | .pickStart => Sys2Proof.Machine.execPickStart s
  | .ghostLaunch => Sys2Proof.Machine.execGhostLaunch s
  | .slotExamination => Sys2Proof.Machine.execSlotExamination s
  | .drainEnd => Sys2Proof.Machine.execDrainEnd s
  | .pauseEnd => Sys2Proof.Machine.execPauseEnd s
  | .sweepEnd => Sys2Proof.Machine.execSweepEnd s
  | .holdWaitExpiry => Sys2Proof.Machine.execHoldWaitExpiry s
  | .returnWaitExpiry => Sys2Proof.Machine.execReturnWaitExpiry s
  | .imageWaitExpiry => Sys2Proof.Machine.execImageWaitExpiry s
  | .ejectComplete => Sys2Proof.Machine.execEjectComplete s
  | .dumpComplete => Sys2Proof.Machine.execDumpComplete s
  | .pageSyncPulseEnd => Sys2Proof.Machine.execPageSyncPulseEnd s
  | .faultDispatch => Sys2Proof.Machine.execFaultDispatch s
  | .frameError levels => Sys2Proof.Machine.execFrameError levels s
  | .halt h code => Sys2Proof.Machine.execHalt h code s
  | .pass h t => Sys2Proof.Machine.execPass h t s
  | .arrived h t => Sys2Proof.Machine.execArrived h t s
  | .hold h origin => Sys2Proof.Machine.execHold h origin s
  | .go h origin => Sys2Proof.Machine.execGo h origin s
  | .broken h set => Sys2Proof.Machine.execBroken h set s
  | .offer h o => Sys2Proof.Machine.execOffer h o s
  | .take h t => Sys2Proof.Machine.execTake h t s
  | .defer h t reason => Sys2Proof.Machine.execDefer h t reason s
  | .ready h => Sys2Proof.Machine.execReady h s
  | .configure h start endMark values => Sys2Proof.Machine.execConfigure h start endMark values s
  | .start h => Sys2Proof.Machine.execStart h s
  | .drain h => Sys2Proof.Machine.execDrain h s
  | .resume h => Sys2Proof.Machine.execResume h s
  | .clearpath h => Sys2Proof.Machine.execClearpath h s
  | .restart h addrStraps roleStraps => Sys2Proof.Machine.execRestart h addrStraps roleStraps s
  | .feed h o => Sys2Proof.Machine.execFeed h o s
  | .image h t side => Sys2Proof.Machine.execImage h t side s
  | .sweep h g n origin => Sys2Proof.Machine.execSweep h g n origin s
  | .query h selector clear => Sys2Proof.Machine.execQuery h selector clear s
  | .frameSendStart => Sys2Proof.Machine.execFrameSendStart s
  | .arbitrationLost => Sys2Proof.Machine.execArbitrationLost s
  | .frameSent => Sys2Proof.Machine.execFrameSent s
  | .link => Sys2Proof.Machine.execLink s
  | .resetPinHeldLow => Sys2Proof.Machine.execResetPinHeldLow s

end Sys2Proof.Machine
end

