-- ==== Sys2Proof/Machine/Step.lean ====
section
/-! DEFINITION. One step of the station: the command at the front of the queue of waiting commands is taken and carried
out (spec 95: each row of the table is whole and indivisible). -/

namespace Sys2Proof.Machine

/-- The state with its queue of waiting commands replaced. -/
def State.waitingFor (s : State) (waiting : List Instr) : State := { s with pending := waiting }

/-- The command at the front is taken from the queue and carried out. With no command waiting the earliest frame of the
receive buffer is taken, and with none there the station idles (DESIGN CHOICE, log entry 6). -/
def step (s : State) : Host.Outcome State Fault Refusal :=
  match s.pending with
  | [] => .next (takeBuffered s)
  | c :: rest => exec c (s.waitingFor rest)

/-- The command that a word spells put at the front of the queue; no word of any width spells one, the table giving no
row any bits, and the state is then unchanged (log entry 7). -/
def State.withFetchWord (s : State) (nbits w : Nat) : State :=
  match decodeTableWord nbits w with
  | none => s
  | some c => s.waitingFor (c :: s.pending)

end Sys2Proof.Machine
end

