-- ==== Sys2Proof/WellFormed.lean ====
section
/-! DEFINITION. Which commands a line that follows R178 and R181 can bring: addresses in range, at most three CONFIGURE
values, a completed frame that begins with its dominant start bit. A command outside these checks still has its meaning
(the port's tests answer it, and some pass them, log entry 21); the checks say what a well-behaved sender sends. -/

namespace Sys2Proof

/-- Source 1 to 62, destination 1 to 62 or 63 for all stations (R178). -/
def Header.wf (h : Header) : Bool :=
  decide (1 ≤ h.src.toNat ∧ h.src.toNat ≤ 62 ∧ 1 ≤ h.dst.toNat)

/-- A sequence number is 1 to 63 (R1). -/
def FrameTag.wf (t : FrameTag) : Bool := decide (1 ≤ t.seq.toNat)

/-- The side code of OFFER and FEED is 0 to 2 (R181). -/
def SheetFields.wf (o : SheetFields) : Bool := o.tag.wf && decide (o.side.toNat ≤ 2)

/-- The well-formedness of a command. -/
def Instr.wf : Instr → Bool
  | .fullReset _ _ => true
  | .selftestComplete _ _ => true
  | .step _ => true
  | .leadEdge _ => true
  | .trailEdge _ => true
  | .lineActive _ => true
  | .lineInactive _ => true
  | .pickStart => true
  | .ghostLaunch => true
  | .slotExamination => true
  | .drainEnd => true
  | .pauseEnd => true
  | .sweepEnd => true
  | .holdWaitExpiry => true
  | .returnWaitExpiry => true
  | .imageWaitExpiry => true
  | .ejectComplete => true
  | .dumpComplete => true
  | .pageSyncPulseEnd => true
  | .faultDispatch => true
  | .frameError levels => levels.head? == some false
  | .halt h code => h.wf && decide (code.toNat ≤ 15)
  | .pass h t => h.wf && t.wf
  | .arrived h t => h.wf && t.wf
  | .hold h origin => h.wf && decide (1 ≤ origin.toNat ∧ origin.toNat ≤ 62)
  | .go h origin => h.wf && decide (1 ≤ origin.toNat ∧ origin.toNat ≤ 62)
  | .broken h _ => h.wf
  | .offer h o => h.wf && o.wf
  | .take h t => h.wf && t.wf
  | .defer h t reason => h.wf && t.wf && decide (reason.toNat ≤ 3)
  | .ready h => h.wf
  | .configure h _ _ values => h.wf && decide (values.length ≤ 3)
  | .start h => h.wf
  | .drain h => h.wf
  | .resume h => h.wf
  | .clearpath h => h.wf
  | .restart h _ _ => h.wf
  | .feed h o => h.wf && o.wf
  | .image h t side => h.wf && t.wf && decide (side.toNat = 1 ∨ side.toNat = 2)
  | .sweep h _ _ _ => h.wf
  | .query h selector _ => h.wf && decide (selector.toNat ≤ 4)
  | .frameSendStart => true
  | .arbitrationLost => true
  | .frameSent => true
  | .link => true
  | .resetPinHeldLow => true

/-- The header of a command that names a frame on the line; none for the station's own events, for the pins, and for
FRAME_ERROR, whose header stands in its levels. -/
def Instr.header? : Instr → Option Header
  | .frameError _ => none
  | .halt h _ => some h
  | .pass h _ => some h
  | .arrived h _ => some h
  | .hold h _ => some h
  | .go h _ => some h
  | .broken h _ => some h
  | .offer h _ => some h
  | .take h _ => some h
  | .defer h _ _ => some h
  | .ready h => some h
  | .configure h _ _ _ => some h
  | .start h => some h
  | .drain h => some h
  | .resume h => some h
  | .clearpath h => some h
  | .restart h _ _ => some h
  | .feed h _ => some h
  | .image h _ _ => some h
  | .sweep h _ _ _ => some h
  | .query h _ _ => some h
  | .fullReset _ _ => none
  | .selftestComplete _ _ => none
  | .step _ => none
  | .leadEdge _ => none
  | .trailEdge _ => none
  | .lineActive _ => none
  | .lineInactive _ => none
  | .pickStart => none
  | .ghostLaunch => none
  | .slotExamination => none
  | .drainEnd => none
  | .pauseEnd => none
  | .sweepEnd => none
  | .holdWaitExpiry => none
  | .returnWaitExpiry => none
  | .imageWaitExpiry => none
  | .ejectComplete => none
  | .dumpComplete => none
  | .pageSyncPulseEnd => none
  | .faultDispatch => none
  | .frameSendStart => none
  | .arbitrationLost => none
  | .frameSent => none
  | .link => none
  | .resetPinHeldLow => none

end Sys2Proof
end

