-- ==== Sys2Proof/Safety.lean ====
section
/-! DEFINITION. What counts as a sound state: the bounds that spec 01 to 11 put on the station's lists, each with the
rule that states it, which are the invariants the statements about runs cite; and the conditions and the effects that
many statements share. -/

namespace Sys2Proof.Machine

/-- The track queue holds at most 8 records, no two of the same set and sequence (R11). -/
abbrev State.queueSound (s : State) : Prop :=
  s.track.queue.length ≤ 8 ∧ (s.track.queue.map Record.tag).Nodup

/-- The broken set list holds at most 8 entries and never the same set twice (R20). -/
abbrev State.brokenSound (s : State) : Prop := s.track.broken.length ≤ 8 ∧ s.track.broken.Nodup

/-- The hold set never holds the same origin twice, and at most 7 entries of other origins, so that with the own entry
it holds at most 8 (R59). -/
abbrev State.holdSound (s : State) : Prop :=
  (s.drive.hold.filter fun e => e.origin != s.ctl.address).length ≤ 7 ∧ (s.drive.hold.map HoldEntry.origin).Nodup

/-- The fault stack holds at most 3 entries (R148). -/
abbrev State.stackSound (s : State) : Prop := s.flt.stack.length ≤ 3

/-- At most one request of each code is pending (R141). -/
abbrev State.pendingSound (s : State) : Prop := (s.flt.pending.map Request.code).Nodup

/-- The transmit queue holds at most 12 frames (R184). -/
abbrev State.transmitSound (s : State) : Prop := s.port.tx.length ≤ 12

/-- The transmit queue stands in the order of class (R184). -/
abbrev State.classSound (s : State) : Prop := s.port.tx.Pairwise fun a b => a.cls ≤ b.cls

/-- At most two frames occupy the receive buffer (R180). -/
abbrev State.bufferSound (s : State) : Prop := s.port.rx.length ≤ 2

/-- The image ready list holds at most 8 entries and never the same tag and side twice (R112). -/
abbrev State.imagesSound (s : State) : Prop := s.reg.images.length ≤ 8 ∧ s.reg.images.Nodup

/-- The feed order queue holds at most 4 orders, no two of the same set and sequence (R85, R86). -/
abbrev State.ordersSound (s : State) : Prop :=
  s.feed.orders.length ≤ 4 ∧ (s.feed.orders.map FeedOrder.tag).Nodup

/-- There are six sensors, sixteen fault counters and ninety-two parameters (R140, R156, R189). -/
abbrev State.shapeSound (s : State) : Prop :=
  s.sens.sensors.length = 6 ∧ s.flt.counters.length = 16 ∧ s.cfg.params.length = 92

/-- A channel in RAMP-UP or AT SPEED has the common conditions of demand: a stepping state and an empty hold set (R50,
R54, R59). -/
abbrev State.drivenSound (s : State) : Prop :=
  ∀ ch ∈ [Channel.a, Channel.b], ((s.chan ch).run = .rampUp ∨ (s.chan ch).run = .atSpeed) →
    s.ctl.st.steps = true ∧ s.drive.hold = []

/-! ### When a command has its own effect -/

/-- A frame with this header comes to the tests of R181 and R182 in the event of its completion: the port is open (R155,
R156), the frame is another station's, it is addressed here, and no earlier frame waits in the receive buffer (R180). -/
abbrev State.hearsFrom (s : State) (h : Header) : Prop :=
  s.ctl.resetLow = false ∧ s.ctl.st ≠ .selftest ∧ s.port.rx = [] ∧ h.src.toNat ≠ s.ctl.address ∧
    (h.dst.toNat = s.ctl.address ∨ h.dst.toNat = 63)

/-- The same, from the engine controller (R182). -/
abbrev State.hearsEngine (s : State) (h : Header) : Prop := s.hearsFrom h ∧ h.src.toNat = s.engAddr

/-- The same, from an upstream (R182). -/
abbrev State.hearsUpstream (s : State) (h : Header) : Prop :=
  s.hearsFrom h ∧ h.src.toNat ≠ 0 ∧ (h.src.toNat = s.up1 ∨ h.src.toNat = s.up2)

/-- The same, from a downstream (R182). -/
abbrev State.hearsDownstream (s : State) (h : Header) : Prop :=
  s.hearsFrom h ∧ h.src.toNat ≠ 0 ∧ (h.src.toNat = s.dn1 ∨ h.src.toNat = s.dn2)

/-- The same, from any configured neighbour (R182). -/
abbrev State.hearsNeighbour (s : State) (h : Header) : Prop :=
  s.hearsFrom h ∧ h.src.toNat ≠ 0 ∧
    (h.src.toNat = s.up1 ∨ h.src.toNat = s.up2 ∨ h.src.toNat = s.dn1 ∨ h.src.toNat = s.dn2)

/-- Who may send each kind of frame, by the table of R182; true of a command that is no frame. -/
def State.maySend (s : State) (c : Instr) : Prop :=
  let up (h : Header) : Prop := h.src.toNat ≠ 0 ∧ (h.src.toNat = s.up1 ∨ h.src.toNat = s.up2)
  let down (h : Header) : Prop := h.src.toNat ≠ 0 ∧ (h.src.toNat = s.dn1 ∨ h.src.toNat = s.dn2)
  match c with
  | .configure h _ _ _ | .start h | .drain h | .resume h | .clearpath h | .restart h _ _ | .feed h _ | .image h _ _
  | .sweep h _ _ _ | .query h _ _ => h.src.toNat = s.engAddr
  | .offer h _ | .pass h _ => up h
  | .take h _ | .defer h _ _ | .ready h | .arrived h _ => down h
  | .hold h _ | .go h _ => up h ∨ down h
  | _ => True

/-- The kinds that UNCONFIGURED refuses (R182). -/
def handoffKind (c : Instr) : Bool :=
  match c with
  | .offer _ _ | .pass _ _ | .take _ _ | .defer _ _ _ | .ready _ | .arrived _ _ | .hold _ _ | .go _ _ => true
  | _ => false

/-- No OFFER waits in a slot. -/
abbrev State.noOffers (s : State) : Prop := s.hand.slot1 = none ∧ s.hand.slot2 = none

/-- No OFFER waits in a slot and no order waits to be picked: entering a state examines nothing (R80, R87). -/
abbrev State.nothingWaits (s : State) : Prop := s.noOffers ∧ (s.role ≠ .feed ∨ s.feed.orders = [])

/-- No earlier event has left anything waiting for the next one: no OFFER is owed (R69), no upstream is deferred for a
duplicate (R82), and no reversal waits for channel B (R103). -/
abbrev State.quiet (s : State) : Prop :=
  (∀ r ∈ s.track.queue, r.offerOwed = false) ∧
    (∀ d ∈ s.hand.deferred1, d.reason ≠ .duplicate) ∧ (∀ d ∈ s.hand.deferred2, d.reason ≠ .duplicate) ∧
    s.inv.seq ≠ .stopping

/-- A FEED or TRANSPORT station at a step of a channel that moves: nothing else is under way at it. -/
abbrev State.stepsOf (s : State) (ch : Channel) (queue : List Record) : Prop :=
  s.ctl.resetLow = false ∧ s.ctl.st.steps = true ∧ (s.chan ch).run ≠ .stopped ∧
    (s.role = .transport ∨ s.role = .feed) ∧ s.quiet ∧ s.gate.move = .none ∧ s.gate.list = [] ∧
    s.gate.occupant = none ∧ s.inv.loop = none ∧ s.track.queue = queue

/-- What a step of a channel does beside the records: the generator issues it (R53, R54), and each uncovered sensor in
use of the channel's zone is a step length further from its last sheet (R19). -/
abbrev State.stepped (s : State) (ch : Channel) : State :=
  let issued (c : Chan) : Chan :=
    match c.run with
    | .stopped => c
    | .rampUp =>
      if c.ramp + 1 < s.rampLen ch then { c with ramp := c.ramp + 1 }
      else { c with run := .atSpeed, ramp := s.rampLen ch }
    | .atSpeed => c
    | .rampDown => if c.ramp ≤ 1 then { c with run := .stopped, ramp := 0 } else { c with ramp := c.ramp - 1 }
  { s with
    drive := match ch with
      | .a => { s.drive with chA := issued s.drive.chA }
      | .b => { s.drive with chB := issued s.drive.chB }
    sens := { s.sens with
      sensors := s.sens.sensors.mapIdx fun k q =>
        if k < s.scount ∧ s.zoneOf k = ch ∧ q.covered = false then
          { q with uncovered := min (q.uncovered + s.stepLen ch) 16777215 }
        else q } }

/-- A FORWARD record a step further: lead and odometer by one step length, up to 16777215 fine pu (R25). -/
abbrev State.moved (s : State) (ch : Channel) (r : Record) : Record :=
  { r with
    lead := min (r.lead + s.stepLen ch) 16777215
    odo := min (r.odo + s.stepLen ch) 16777215 }

/-- No sensor in use is owned by the record. -/
abbrev State.ownsNone (s : State) (r : Record) : Prop := ∀ k < s.scount, (s.sensor k).owner ≠ some r.tag

/-- The record's position is not beyond its late limit (R36). -/
abbrev Record.onTime (r : Record) (p : Nat) : Prop := ∀ w ∈ r.window, p ≤ w.late

/-- At this position a FORWARD record of a FEED or TRANSPORT station reaches no threshold of R26 it has not reached
before. -/
abbrev State.noThreshold (s : State) (r : Record) (p : Nat) : Prop :=
  (r.reached.entry = true ∨ p < r.length) ∧ (r.reached.offer = true ∨ p + s.offerD < s.exitX) ∧
    (r.reached.stop = true ∨ p < s.cfg.stopPoint) ∧ p < s.exitX

/-- A step of the channel carries the station's only record, a FORWARD one, to position p. -/
abbrev State.carries (s : State) (ch : Channel) (r : Record) (p : Nat) : Prop :=
  s.stepsOf ch [r] ∧ s.drivenBy r = some ch ∧ r.dir = .forward ∧ p = (s.moved ch r).lead / 256

/-- The same for a record that is no ghost, owns no sensor and is not late: only its thresholds can matter. -/
abbrev State.carriesFreely (s : State) (ch : Channel) (r : Record) (p : Nat) : Prop :=
  s.carries ch r p ∧ r.marks.ghost = false ∧ s.ownsNone r ∧ r.onTime p

/-! ### A record that leaves, an offer that is taken -/

/-- The Fault Unit when the record of a tag has left the queue: the requests that involve it know that it is gone (R145). -/
abbrev FaultUnit.forgetting (f : FaultUnit) (t : Tag) : FaultUnit :=
  { f with pending := f.pending.map fun q => if q.involved = some t then { q with gone := true } else q }

/-- The station when the offer of the UP1 slot has been taken, the only one that waited and no ghost (R12, R79, R81,
R93). -/
abbrev State.tookUp1 (s : State) (o : Offer) : State :=
  { s with
    port := s.port.post s.up1 (.take o.tag o.last)
    hand := { s.hand with
      slot1 := none, lastSide := some .up1, streak := 0
      setInProgress := if o.side = .second then s.hand.setInProgress else if o.last then none else some o.tag.set }
    drive := { s.drive with speed := o.speed }
    track := { s.track with queue := s.track.queue ++
      [{ tag := o.tag, last := o.last, side := o.side, length := o.length, speed := o.speed, marks := o.marks,
         place := .expected, source := .up1, route := none, stage := .notOffered, arrival := false,
         dir := .forward, lead := 0, odo := 0, ref := 0, next := none, worst := 0, image := none, retries := 0,
         window := none, reached := Reached.none, offerOwed := false }] } }

/-! ### Offers that a change of state defers -/

/-- DEFER with this reason is queued for each offer that waits in a slot, UP1's first (R78, R80). -/
abbrev State.deferAll (s : State) (why : DeferReason) (p : Port) : Port :=
  let told := match s.hand.slot1 with
    | some o => p.post s.up1 (.defer o.tag o.last why)
    | none => p
  match s.hand.slot2 with
  | some o => told.post s.up2 (.defer o.tag o.last why)
  | none => told

/-- The Handoff Unit when each offer that waits in a slot has been deferred with this reason (R78). -/
abbrev Handoff.deferringAll (h : Handoff) (why : DeferReason) : Handoff :=
  { h with
    slot1 := none
    slot2 := none
    deferred1 := if h.slot1 = none then h.deferred1 else some { reason := why, dup := none }
    deferred2 := if h.slot2 = none then h.deferred2 else some { reason := why, dup := none } }

/-! ### Deferred upstreams that a change of state makes ready -/

/-- READY is queued to each upstream that is deferred for one of these reasons, UP1's first (R82). -/
abbrev State.tellReady (s : State) (why : List DeferReason) (p : Port) : Port :=
  let told := if s.hand.deferred1.any fun d => decide (d.reason ∈ why) then p.post s.up1 .ready else p
  if s.hand.deferred2.any fun d => decide (d.reason ∈ why) then told.post s.up2 .ready else told

/-- The Handoff Unit when each of these upstreams has left the deferred-upstream set (R82). -/
abbrev Handoff.readied (h : Handoff) (why : List DeferReason) : Handoff :=
  { h with
    deferred1 := if h.deferred1.any fun d => decide (d.reason ∈ why) then none else h.deferred1
    deferred2 := if h.deferred2.any fun d => decide (d.reason ∈ why) then none else h.deferred2 }

/-! ### The request a dispatch takes -/

/-- The entry of a code can be found: the code is below DLIMIT and its entry present (R143). -/
abbrev State.listed (s : State) (code : Nat) : Prop := code < s.dLimit ∧ s.dispPresent code = true

/-- The rank by which a code takes its place: its entry's, and 15 at or beyond DLIMIT (R142). -/
abbrev State.placeOf (s : State) (c : FaultCode) : Nat := if c.code < s.dLimit then s.dispRank c.code else 15

/-- A dispatch takes this one of the pending requests: that of the PROMOTED code, or, with none of that code pending, the
one of lowest rank, of equal ranks the lower code (R142). -/
abbrev State.chooses (s : State) (q : Request) : Prop :=
  s.pendingSound ∧ q ∈ s.flt.pending ∧
    (q.code.code = s.promoted ∨
      ∀ x ∈ s.flt.pending, x.code.code ≠ s.promoted ∧
        (s.placeOf q.code < s.placeOf x.code ∨
          (s.placeOf q.code = s.placeOf x.code ∧ q.code.code ≤ x.code.code)))

/-- The request is not PROMOTED and is looked up, as itself or, its own entry not found, as a TABLE request with its
original code recorded (R143); the entry it comes to is that of the code of `found`. -/
abbrev State.looksUp (s : State) (q found : Request) : Prop :=
  q.code.code ≠ s.promoted ∧
    ((s.listed q.code.code ∧ found = q) ∨
      (¬ s.listed q.code.code ∧ s.listed 15 ∧ found = { q with code := .table, original := some q.code }))

/-- The Fault Unit when the chosen request has left the pending set and TABLE, where it is substituted, is counted
(R142, R143). -/
abbrev FaultUnit.taking (f : FaultUnit) (q found : Request) : FaultUnit :=
  { (if found.code = q.code then f else f.count .table) with
    pending := f.pending.filter fun x => decide (x.code ≠ q.code) }

end Sys2Proof.Machine
end

