-- ==== Sys2Proof/Certificates/Slice0/Obligations.lean ====
section
/-! DEFINITION. The statements about the station: what the spec's numbered rules say of it, and the invariants every step
keeps. A statement about an event that ends by settling the channels names the state handed to `settleDrive`; what that
operation then does is a statement of its own (ChannelsSettleByDemand). -/

open Sys2Proof Sys2Proof.Machine

/-- A step carries out the command at the front of the queue, or else the earliest frame of the receive buffer, or
idles. For every command c and state s whose queue of waiting commands is c followed by rest, step s is exec c on s
with the queue rest. With an empty queue the earliest frame of the receive buffer is taken and its half freed (R180);
while the port is closed, or with an empty buffer, step answers s itself. A frame of defined contents that the port
hears with an empty buffer has, as a command, exactly the effect it has when it is taken from the buffer. (The taking
from the buffer on an empty queue, and the idling, are the model's choices, log entries 6 and 10, and so is which
payload values count as defined beyond those R181 lists, log entry 21.) -/
def Obligations.StepTakesTheFrontCommand : Prop :=
  (∀ (c : Instr) (rest : List Instr) (s : State), s.pending = c :: rest → step s = exec c { s with pending := rest }) ∧
  (∀ (c : Instr) (rest : List Instr) (s : State), s.pending = [] → s.port.rx = c :: rest → s.ctl.resetLow = false →
    s.ctl.st ≠ .selftest → step s = .next (takeFrame c { s with port := { s.port with rx := rest } })) ∧
  (∀ s : State, s.pending = [] → (s.port.rx = [] ∨ s.ctl.resetLow = true ∨ s.ctl.st = .selftest) → step s = .next s) ∧
  (∀ (c : Instr) (h : Header) (s : State), c.header? = some h → sound c = true → s.hearsFrom h →
    exec c s = .next (takeFrame c s))

/-- Every command has a next state in every state, and the waiting commands stay as they are. For every command c and
every state s, exec c s answers a next state, whose queue of waiting commands is that of s: no command faults, is
refused, or touches the queue. The model's choice: a command that describes an event that cannot happen changes
nothing (log entry 4). -/
def Obligations.EveryCommandCompletes : Prop :=
  ∀ (c : Instr) (s : State), ∃ t : State, exec c s = .next t ∧ t.pending = s.pending

/-- Outside UNCONFIGURED and READY no command but a full reset changes a parameter. For every command c that is not
FULL_RESET and every state s whose station state is neither UNCONFIGURED nor READY: the state exec c answers has the
parameter table of s, and so has the state step answers with no command waiting, where a frame of the receive buffer
may be taken (R160, R182, R187: CONFIGURE is refused outside these two states; R158: a restart keeps the
configuration). -/
def Obligations.ParametersStandOutsideConfiguration : Prop :=
  (∀ (c : Instr) (s t : State), exec c s = .next t → (∀ a r, c ≠ .fullReset a r) → s.ctl.st ≠ .unconfigured →
    s.ctl.st ≠ .ready → t.cfg.params = s.cfg.params) ∧
  (∀ s t : State, s.pending = [] → step s = .next t → s.ctl.st ≠ .unconfigured → s.ctl.st ≠ .ready →
    t.cfg.params = s.cfg.params)

/-- From LOCKDOWN only a full reset or a RESTART leads out, and both lead to SELFTEST. For every command c and state s
in LOCKDOWN: the state exec c answers is in LOCKDOWN, or it is in SELFTEST and c is FULL_RESET or RESTART. With no
command waiting, the state step answers is in LOCKDOWN, or it is in SELFTEST and the earliest frame of the receive
buffer was a RESTART (R150). -/
def Obligations.LockdownIsLeftOnlyByReset : Prop :=
  (∀ (c : Instr) (s t : State), s.ctl.st = .lockdown → exec c s = .next t →
    t.ctl.st = .lockdown ∨
      (t.ctl.st = .selftest ∧ ((∃ a r, c = .fullReset a r) ∨ ∃ h a r, c = .restart h a r))) ∧
  (∀ s t : State, s.ctl.st = .lockdown → s.pending = [] → step s = .next t →
    t.ctl.st = .lockdown ∨
      (t.ctl.st = .selftest ∧ ∃ h a r rest, s.port.rx = Instr.restart h a r :: rest))

/-- SELFTEST takes no frame at all; LOCKDOWN takes none but RESTART and QUERY. In SELFTEST every frame command and every
FRAME_ERROR leaves the whole state as it is (R156). In LOCKDOWN every frame command but RESTART and QUERY, and every
FRAME_ERROR, changes at most the receive overrun, check error and foreign frame counters, and the receive buffer by
joining it where it has room; and a frame of the buffer other than these two leaves it at its turn and changes at
most the foreign frame counter (R150, R180 to R182). The model's choices: a frame of a kind the state refuses is
counted foreign in LOCKDOWN too (log entry 16), and waits while an earlier one does (log entry 10). -/
def Obligations.FramesInSelftestAndLockdown : Prop :=
  (∀ (c : Instr) (s : State), s.ctl.st = .selftest → (c.header?.isSome = true ∨ ∃ l, c = .frameError l) →
    exec c s = .next s) ∧
  (∀ (c : Instr) (s : State), s.ctl.st = .lockdown → c.header?.isSome = true →
    (∀ h a r, c ≠ .restart h a r) → (∀ h q b, c ≠ .query h q b) →
    ∃ (o e f : Nat) (rx : List Instr), exec c s = .next { s with port := { s.port with
        overruns := o, checkErrors := e, foreign := f, rx := rx } } ∧
      (rx = s.port.rx ∨ (s.port.rx.length = 1 ∧ rx = s.port.rx ++ [c]))) ∧
  (∀ (l : List Bool) (s : State), s.ctl.st = .lockdown →
    ∃ (o e f : Nat) (rx : List Instr), exec (.frameError l) s = .next { s with port := { s.port with
        overruns := o, checkErrors := e, foreign := f, rx := rx } } ∧
      (rx = s.port.rx ∨ (s.port.rx.length ≤ 1 ∧ ∃ c, rx = s.port.rx ++ [c]))) ∧
  (∀ (c : Instr) (rest : List Instr) (s : State), s.ctl.st = .lockdown → s.ctl.resetLow = false →
    (∀ h a r, c ≠ .restart h a r) → (∀ h q b, c ≠ .query h q b) → s.pending = [] → s.port.rx = c :: rest →
    ∃ f : Nat, step s = .next { s with port := { s.port with foreign := f, rx := rest } })

/-- While the RESET pin is low nothing happens but its release; holding it low stops both channels and every output.
With the RESET pin held low every command but FULL_RESET and RESET_PIN_HELD_LOW leaves everything but the input
levels as it is. RESET_PIN_HELD_LOW itself notes the pin low and leaves both channels STOPPED at ramp index 0 and
period 0, a direction wanted applied; everything else is unchanged. While the pin is low, and in SELFTEST, every
output is inactive: the EJECT and DUMP lines, the gate line at MAIN, both direction lines at FORWARD, and each
assignable line that is an output at the level its polarity calls inactive. While the pin is low nothing is driven
on the path bus; then and until the self-test ends the emitters are off (R155, R156, R166). The model's choices: the
rest of the state is kept until the release, the input levels are noted (log entry 4), the emitters are off and the
direction lines FORWARD while the pin is low (log entry 35), and the period of a STOPPED channel is 0 (log entry
46). -/
def Obligations.HeldInResetNothingHappens : Prop :=
  (∀ (c : Instr) (s : State), s.ctl.resetLow = true → (∀ a r, c ≠ .fullReset a r) → c ≠ .resetPinHeldLow →
    ∃ p : Pins, exec c s = .next { s with pins := p }) ∧
  (∀ s : State, exec .resetPinHeldLow s = .next { s with
    ctl := { s.ctl with resetLow := true }
    drive := { s.drive with
      chA := { Chan.reset with dir := s.drive.chA.want.getD s.drive.chA.dir }
      chB := { Chan.reset with dir := s.drive.chB.want.getD s.drive.chB.dir } } }) ∧
  (∀ s : State, (s.ctl.resetLow = true ∨ s.ctl.st = .selftest) →
    s.ejectOut = false ∧ s.dumpOut = false ∧ s.gateOut = .main ∧ (∀ ch : Channel, s.directionOut ch = .forward) ∧
    (∀ n : Nat, s.lineOut n =
      if s.lineFunction n = .pageSync ∨ s.lineFunction n = .offset ∨ s.lineFunction n = .faultLamp then
        some (!s.lineActiveHigh n)
      else none)) ∧
  (∀ s : State, s.ctl.resetLow = true → s.wire = none ∧ s.emittersOn = false) ∧
  (∀ s : State, s.ctl.selftest = true → s.emittersOn = false)

/-- The track queue never holds more than 8 records nor two of one set and sequence. For every state s in which the
track queue holds at most 8 records, no two with the same set and sequence (R11): if step s answers a next state,
that state has the same property. s need not be reachable. -/
def Obligations.QueueBoundKept : Prop :=
  ∀ s t : State, s.queueSound → step s = .next t → t.queueSound

/-- The hold set never holds one origin twice nor more than 7 entries of other origins. For every state s in which the
hold set has at most 7 entries of other origins and no origin twice, so that with the own entry it holds at most 8
(R59): if step s answers a next state, that state has the same property. s need not be reachable. -/
def Obligations.HoldBoundKept : Prop :=
  ∀ s t : State, s.holdSound → step s = .next t → t.holdSound

/-- The broken set list never holds more than 8 sets nor one set twice. For every state s in which the broken set list
holds at most 8 entries, none twice (R20): if step s answers a next state, that state has the same property. s need
not be reachable. -/
def Obligations.BrokenBoundKept : Prop :=
  ∀ s t : State, s.brokenSound → step s = .next t → t.brokenSound

/-- The fault stack, the pending requests, the transmit queue with its order and the receive buffer keep their bounds.
For every state s: if its fault stack holds at most 3 entries (R148), so does that of the state step answers;
likewise at most one pending request of each code (R141), at most 12 frames in the transmit queue, in the order of
class (R184), and at most two frames in the receive buffer (R180). s need not be reachable. -/
def Obligations.FaultAndTransmitBoundsKept : Prop :=
  (∀ s t : State, s.stackSound → step s = .next t → t.stackSound) ∧
  (∀ s t : State, s.pendingSound → step s = .next t → t.pendingSound) ∧
  (∀ s t : State, s.transmitSound → step s = .next t → t.transmitSound) ∧
  (∀ s t : State, s.classSound → step s = .next t → t.classSound) ∧
  (∀ s t : State, s.bufferSound → step s = .next t → t.bufferSound)

/-- The image ready list, the feed orders and the tables of sensors, counters and parameters keep their bounds. For
every state s: if its image ready list holds at most 8 entries and no tag and side twice (R112), so does that of the
state step answers; likewise at most 4 feed orders, no set and sequence twice (R85, R86), and six sensors, sixteen
fault counters (R140) and ninety-two parameters (R189). -/
def Obligations.ListBoundsKept : Prop :=
  (∀ s t : State, s.imagesSound → step s = .next t → t.imagesSound) ∧
  (∀ s t : State, s.ordersSound → step s = .next t → t.ordersSound) ∧
  (∀ s t : State, s.shapeSound → step s = .next t → t.shapeSound)

/-- No channel is in RAMP-UP or AT SPEED while anything is held or outside the stepping states. For every state s in
which a channel in RAMP-UP or AT SPEED implies that the station is in RUNNING, DRAINING, PAUSING or SWEEPING and
that the hold set is empty (R50, R54, R59): if step s answers a next state, the same holds of it. -/
def Obligations.HeldChannelsNeverRun : Prop :=
  ∀ s t : State, s.drivenSound → step s = .next t → t.drivenSound

/-- The state after reset meets every invariant stated here. The queue, hold set, broken set list, fault stack, pending
requests, transmit queue, receive buffer, image ready list, feed orders, tables and channels of State.reset are
within the bounds the other statements keep. -/
def Obligations.ResetMeetsEveryBound : Prop :=
  State.reset.queueSound ∧ State.reset.holdSound ∧ State.reset.brokenSound ∧ State.reset.stackSound ∧
  State.reset.pendingSound ∧ State.reset.transmitSound ∧ State.reset.imagesSound ∧ State.reset.ordersSound ∧
  State.reset.shapeSound ∧ State.reset.drivenSound ∧ State.reset.classSound ∧ State.reset.bufferSound

/-- FULL_RESET leaves every block, the derived points apart, at its reset value, with the straps as read. From every
state FULL_RESET answers a next state in SELFTEST with the self-test timer running, the address and role straps as
read, no record, no broken set, every sensor uncovered and unowned with uncovered distance 65535 pu, both channels
STOPPED and FORWARD, an empty hold set, both slots empty, the gate at MAIN, the inverter IDLE, an empty tray with its
lines and offset state inactive, no order, all fault and bus counters 0, an empty fault stack, empty transmit queue
and receive buffer, the sweep unit at its reset values, every output inactive, and the parameter defaults of R189;
the pins and the waiting commands are unchanged. Nothing is said of the stop distance, the stop point, the compile
stop point and the return stop point, which a commit check computes. The model's choices: the pins and the waiting
commands are the outside world's (log entries 1, 6), the sensors are uncovered and the self-test failure set is empty
until the self-test ends (log entry 28), the periods are 0 (log entry 46), and no SWEEP counts as refused (log entry
49). -/
def Obligations.FullResetLeavesTheResetValues : Prop :=
  ∀ (a : BitVec 6) (r : BitVec 3) (s : State), ∃ t : State, exec (.fullReset a r) s = .next t ∧
    t.pins = s.pins ∧ t.pending = s.pending ∧
    t.ctl = { st := .selftest, selftest := true, restarted := false, resetLow := false, address := a.toNat,
              strap := r.toNat } ∧
    t.track = { queue := [], broken := [] } ∧
    t.sens.failed = 0#6 ∧
    (∀ k : Nat, t.sensor k = { covered := false, owner := none, confirmed := false, stalled := false, latch := 0,
                               uncovered := 65535 * 256 }) ∧
    (∀ ch : Channel, t.chan ch = { run := .stopped, ramp := 0, dir := .forward, want := none, period := 0 }) ∧
    t.drive.speed = 0 ∧ t.drive.hold = [] ∧
    (∀ side : UpSide, t.slot side = none ∧ t.deferral side = none) ∧
    t.hand.setInProgress = none ∧ t.hand.waiting = none ∧ t.hand.holdTimer = .idle ∧ t.hand.givenUp = none ∧
    t.hand.lastSide = none ∧ t.hand.streak = 0 ∧
    t.gate = { position := .main, output := .main, move := .none, list := [], occupant := none } ∧
    t.inv = { seq := .idle, loop := none, runout := 0, timer := .idle, givenUp := false } ∧
    t.reg = { images := [], timer := .idle, pulse := false } ∧
    t.comp = { traySet := none, count := 0, nextSeq := 1, split := false, op := .none, dumpReason := none,
               timer := .idle, binReported := false, late := [], routedSet := none, routedNext := 1, offset := false,
               ejectLine := false, dumpLine := false, keepOpen := false } ∧
    t.feed = { orders := [], pick := none, supplyReported := false } ∧
    t.flt = { counters := List.replicate 16 0, pending := [], stack := [], restartNeeded := false } ∧
    t.sweep = { ghosts := 0, inject := 0, origin := none, active := false, launching := false, nextNumber := 0,
                spacing := none, lastSeen := false, drainAsked := false, refused := false
                results := { received := 0, synced := false, expectedNext := 0, mismatches := 0, firstExpected := none,
                             firstActual := none, residuals := 0, firstResidual := none } } ∧
    t.ejectOut = false ∧ t.dumpOut = false ∧ t.gateOut = .main ∧ (∀ n < 4, t.lineOut n = none) ∧
    t.port = { rx := [], tx := [], linkReported := false, overruns := 0, checkErrors := 0, foreign := 0,
               stale := 0, drops := 0 } ∧
    t.cfg.index = 0 ∧ t.cfg.clamps = 0 ∧
    t.cfg.params =
      [1, 0, 0, 0, 0, 1, 0, 0, 0, 0, 0, 0, 0, 0, 0, 0, 0, 0, 0, 0, 0, 0, 0, 0, 0, 0, 0, 0, 0, 0] ++
      [0, 0, 300, 50, 600, 128, 128, 0, 0, 400, 400, 400, 400, 400, 400, 400, 400, 4000, 4000, 64, 64] ++
      [20, 40, 16, 40, 200, 20, 50, 30, 40, 20, 150, 100, 80, 50, 1, 4, 0, 250, 1] ++
      [33537, 33553, 33569, 33073, 32833, 32849, 33633, 33649, 33153, 33169, 33697, 33713, 33473, 33489, 33249, 33777] ++
      [16, 10, 256, 256, 256, 256]

/-- SELFTEST_COMPLETE takes the readings, reports JOIN, and goes to UNCONFIGURED or, after a restart, by the commit
check. With the self-test running: the covered states become the levels read, the failure set the readings with
emitters off, the self-test and with it the darkness of the emitters ends. After a full reset with an address 1 to
62, JOIN is queued to ENGADDR and the station is UNCONFIGURED. With address 0 or 63 it stays in SELFTEST and sends
nothing. After a restart JOIN is queued, then the commit check decides, answered by STATUS: when it finds no failing
index the station is READY with the derived points, its hold set, being empty, stays so, and the hold and image
waits end; when it finds one the station is UNCONFIGURED and STATUS carries CONFIG and that index. Nothing else
changes. -/
def Obligations.SelftestCompleteLeavesSelftest : Prop :=
  (∀ (stuck levels : BitVec 6) (s : State), s.ctl.resetLow = false → s.ctl.st = .selftest → s.ctl.selftest = true →
    s.ctl.restarted = false → 1 ≤ s.ctl.address → s.ctl.address ≤ 62 →
    exec (.selftestComplete stuck levels) s = .next { s with
      pins := { s.pins with sensors := levels }
      sens := { sensors := s.sens.sensors.mapIdx fun k q => { q with covered := levels.getLsbD k }, failed := stuck }
      ctl := { s.ctl with st := .unconfigured, selftest := false }
      port := s.port.post s.engAddr (.join s.role stuck (decide (5 ≤ s.ctl.strap)) s.ctl.strap) }) ∧
  (∀ (stuck levels : BitVec 6) (s : State), s.ctl.resetLow = false → s.ctl.st = .selftest → s.ctl.selftest = true →
    (s.ctl.address = 0 ∨ 62 < s.ctl.address) →
    exec (.selftestComplete stuck levels) s = .next { s with
      pins := { s.pins with sensors := levels }
      sens := { sensors := s.sens.sensors.mapIdx fun k q => { q with covered := levels.getLsbD k }, failed := stuck }
      ctl := { s.ctl with selftest := false } }) ∧
  (∀ (stuck levels : BitVec 6) (s : State), s.ctl.resetLow = false → s.ctl.st = .selftest → s.ctl.selftest = true →
    s.ctl.restarted = true → 1 ≤ s.ctl.address → s.ctl.address ≤ 62 → s.drive.hold = [] → s.commitCheck = none →
    exec (.selftestComplete stuck levels) s = .next { s with
      pins := { s.pins with sensors := levels }
      sens := { sensors := s.sens.sensors.mapIdx fun k q => { q with covered := levels.getLsbD k }, failed := stuck }
      ctl := { s.ctl with st := .ready, selftest := false }
      cfg := s.derived
      hand := { s.hand with waiting := none, holdTimer := .idle }
      reg := { s.reg with timer := .idle }
      port := (s.port.post s.engAddr (.join s.role stuck (decide (5 ≤ s.ctl.strap)) s.ctl.strap)).post s.engAddr
        (.status
          { state := .ready, reason := .none, failing := none, queueCount := s.track.queue.length,
            depth := s.flt.stack.length, top := s.flt.stack.head?.map Context.code,
            holdCount := 0 }) }) ∧
  (∀ (stuck levels : BitVec 6) (i : Nat) (s : State), s.ctl.resetLow = false → s.ctl.st = .selftest →
    s.ctl.selftest = true → s.ctl.restarted = true → 1 ≤ s.ctl.address → s.ctl.address ≤ 62 →
    s.commitCheck = some i →
    exec (.selftestComplete stuck levels) s = .next { s with
      pins := { s.pins with sensors := levels }
      sens := { sensors := s.sens.sensors.mapIdx fun k q => { q with covered := levels.getLsbD k }, failed := stuck }
      ctl := { s.ctl with st := .unconfigured, selftest := false }
      port := (s.port.post s.engAddr (.join s.role stuck (decide (5 ≤ s.ctl.strap)) s.ctl.strap)).post s.engAddr
        (.status
          { state := .unconfigured, reason := .config, failing := some i, queueCount := s.track.queue.length,
            depth := s.flt.stack.length, top := s.flt.stack.head?.map Context.code,
            holdCount := s.drive.hold.length }) }) ∧
  (∀ (stuck levels : BitVec 6) (s t : State), s.ctl.resetLow = false → s.ctl.st = .selftest → s.ctl.selftest = true →
    exec (.selftestComplete stuck levels) s = .next t →
    t.emittersOn = true ∧ (∀ k < s.sens.sensors.length, (t.sensor k).covered = levels.getLsbD k))

/-- RESTART resets every block but keeps the configuration, the failure set and the waiting class 5 frames. A RESTART
from ENGADDR, in every state but SELFTEST, answers a next state in SELFTEST with the straps as now read. Kept are
the parameters and derived points, the self-test failure set, the pins, the waiting commands, and, at an address 1
to 62, the frames of class 5 in the transmit queue; everything else stands at its value after a full reset (R158).
The model's choice: the self-test failure set is kept until the self-test ends (log entry 28), and a frame of class
5 that is being sent goes on being sent (log entry 45). -/
def Obligations.RestartKeepsOnlyItsOwn : Prop :=
  ∀ (h : Header) (a : BitVec 6) (r : BitVec 3) (s : State), s.hearsEngine h →
    exec (.restart h a r) s = .next
      { pins := s.pins
        ctl := { st := .selftest, selftest := true, restarted := true, resetLow := false, address := a.toNat,
                 strap := r.toNat }
        port := { Port.reset with
          tx := if 1 ≤ a.toNat ∧ a.toNat ≤ 62 then s.port.tx.filter fun e => e.frame.body.cls == 5 else [] }
        cfg := { s.cfg with index := 0, clamps := 0 }
        sens := { sensors := List.replicate 6 Sensor.reset, failed := s.sens.failed }
        drive := Drive.reset
        track := { queue := [], broken := [] }
        hand := Handoff.reset
        gate := Gate.reset
        inv := Inverter.reset
        reg := Registration.reset
        comp := Compile.reset
        feed := FeedUnit.reset
        flt := { counters := List.replicate 16 0, pending := [], stack := [], restartNeeded := false }
        sweep := Sweep.reset
        pending := s.pending }

/-- STEP issues a step of its channel and moves the record it drives, which crosses its thresholds: entry, offer
point, exit, deadline, removal. At a FEED or TRANSPORT station, a channel that moves, in a stepping state, nothing
else under way: STEP takes the ramp index one on (RAMP-UP to AT SPEED at K, RAMP-DOWN to STOPPED at 0) and adds the
step length to the uncovered distance of each uncovered sensor in use of its zone. With one FORWARD record driven by
the channel, no ghost, owner of no sensor and not late, it adds the step length to its lead and odometer too; both
stop at 16777215 fine pu. No threshold reached: nothing else. Trail past the entry: an ENTERING record is INSIDE.
Offer point: OFFER goes to DN1 and the record is OFFERED; with DN1 0 the OFFER stays owed. Exit boundary: a record
that DN1 has taken is EXITING and PASS goes to DN1 where there is no hold; any other goes on. Arrival deadline:
HANDOFF with tag and position where no arrival has been seen, and only the threshold where one has. Trail past the
exit boundary with arrival seen: the record leaves the queue, and the sensors, the pick, the given-up record and the
pending faults forget it. The channels and timers then settle; nothing else changes (R5, R14, R19, R25, R26, R53, R54,
R69, R73, R76). The model's inference: TAKEN keeps whose TAKE it was (log entry 54). The model's choice: an OFFER
without downstream stays owed (log entry 39); a request notes that its record has left (log entry 25). -/
def Obligations.StepMovesWhatItDrives : Prop :=
  (∀ (s : State) (ch : Channel), s.stepsOf ch [] → exec (.step ch) s = .next (settleDrive (s.stepped ch))) ∧
  (∀ (s : State) (ch : Channel) (r : Record) (p : Nat), s.carriesFreely ch r p → s.noThreshold r p →
    exec (.step ch) s = .next (settleDrive { s.stepped ch with
      track := { s.track with queue := [s.moved ch r] } })) ∧
  (∀ (s : State) (ch : Channel) (r : Record) (p : Nat), s.carriesFreely ch r p → r.reached.entry = false →
    r.length ≤ p → s.noThreshold { r with reached := { r.reached with entry := true } } p →
    exec (.step ch) s = .next (settleDrive { s.stepped ch with
      track := { s.track with queue := [{ s.moved ch r with
        place := if r.place = .entering then .inside else r.place
        reached := { r.reached with entry := true } }] } })) ∧
  (∀ (s : State) (ch : Channel) (r : Record) (p : Nat), s.carriesFreely ch r p → r.reached.offer = false →
    s.exitX ≤ p + s.offerD → s.noThreshold { r with reached := { r.reached with offer := true } } p →
    r.stage = .notOffered →
    exec (.step ch) s = .next (settleDrive { s.stepped ch with
      port := if s.dn1 = 0 then s.port
        else s.port.post s.dn1 (.offer
          { tag := r.tag, last := r.last, side := r.side, speed := r.speed, marks := r.marks, length := r.length })
      track := { s.track with queue := [{ s.moved ch r with
        stage := if s.dn1 = 0 then .notOffered else .offered
        offerOwed := decide (s.dn1 = 0)
        reached := { r.reached with offer := true } }] } })) ∧
  (∀ (s : State) (ch : Channel) (r : Record) (p : Nat), s.carriesFreely ch r p → r.reached.entry = true →
    r.reached.offer = true → r.reached.stop = true → r.reached.exit = false → s.exitX ≤ p → p < s.exitX + r.length →
    (r.reached.deadline = true ∨ p < s.exitX + s.arrD) → (r.stage = .taken s.dn1 → s.drive.hold = []) →
    exec (.step ch) s = .next (settleDrive { s.stepped ch with
      port := if r.stage = .taken s.dn1 then s.port.post s.dn1 (.pass r.tag r.last) else s.port
      track := { s.track with queue := [{ s.moved ch r with
        place := if r.stage = .taken s.dn1 then .exiting else r.place
        reached := { r.reached with exit := true } }] } })) ∧
  (∀ (s : State) (ch : Channel) (r : Record) (p : Nat), s.carriesFreely ch r p → r.reached.entry = true →
    r.reached.offer = true → r.reached.stop = true → r.reached.exit = true → r.reached.deadline = false →
    s.exitX + s.arrD ≤ p → (r.arrival = true → p < s.exitX + r.length) →
    exec (.step ch) s = .next (settleDrive { s.stepped ch with
      flt := if r.arrival = true then s.flt
        else (s.flt.count .handoff).pend
          { code := .handoff, original := none, involved := some r.tag, tag := some r.tag, last := r.last,
            position := some p, sensor := none, worst := r.worst, ghost := false }
      track := { s.track with queue := [{ s.moved ch r with reached := { r.reached with deadline := true } }] } })) ∧
  (∀ (s : State) (ch : Channel) (r : Record) (p : Nat), s.carriesFreely ch r p → r.reached.entry = true →
    r.reached.offer = true → r.reached.stop = true → r.reached.exit = true → r.place = .exiting → r.arrival = true →
    s.exitX + r.length ≤ p → s.ownHolds .imageWait = false →
    exec (.step ch) s = .next (settleDrive { s.stepped ch with
      track := { s.track with queue := [] }
      flt := s.flt.forgetting r.tag
      sens := { (s.stepped ch).sens with
        sensors := (s.stepped ch).sens.sensors.map fun q =>
          if q.owner = some r.tag then { q with owner := none, confirmed := false, stalled := false } else q }
      feed := { s.feed with pick := if s.feed.pick = some r.tag then none else s.feed.pick }
      hand := { s.hand with givenUp := if s.hand.givenUp = some r.tag then none else s.hand.givenUp } }))

/-- A standing channel issues no step, and outside the stepping states an edge changes only its sensor. STEP of a
STOPPED channel, or outside RUNNING, DRAINING, PAUSING and SWEEPING, changes nothing (R54). In a state after the
self-test that is none of these, a lead edge at a sensor in use leaves it covered without owner, and a trail edge
leaves it uncovered without owner at uncovered distance 0; no fault is raised and no record changes (R43). The
model's choices: a STEP that cannot be issued changes nothing (log entry 4), and a trail edge is handed to no other
block there (log entry 15). -/
def Obligations.NothingMovesOutsideTheSteppingStates : Prop :=
  (∀ (s : State) (ch : Channel), (s.ctl.st.steps = false ∨ (s.chan ch).run = .stopped) →
    exec (.step ch) s = .next s) ∧
  (∀ (s : State) (k : Fin 6), s.ctl.resetLow = false → s.ctl.st ≠ .selftest → s.ctl.st.steps = false →
    k.val < s.scount → s.quiet → (s.sensor k).covered = false →
    exec (.leadEdge k) s = .next (settleDrive { s with
      pins := { s.pins with sensors := withBit s.pins.sensors k true }
      sens := { s.sens with sensors := s.sens.sensors.modify k fun q =>
        { q with covered := true, owner := none, confirmed := false, stalled := false } } })) ∧
  (∀ (s : State) (k : Fin 6), s.ctl.resetLow = false → s.ctl.st ≠ .selftest → s.ctl.st.steps = false →
    k.val < s.scount → s.quiet → (s.sensor k).covered = true →
    exec (.trailEdge k) s = .next (settleDrive { s with
      pins := { s.pins with sensors := withBit s.pins.sensors k false }
      sens := { s.sens with sensors := s.sens.sensors.modify k fun q =>
        { q with covered := false, owner := none, confirmed := false, stalled := false, uncovered := 0 } } }))

/-- A lead edge that is attributed to no record raises EARLY without tag and leaves the sensor without owner. At a
sensor in use that no record in the queue has as its next sensor while ENTERING or INSIDE, or at an INVERT station
while REVERSE (R30). In RUNNING, DRAINING or PAUSING LEAD_EDGE leaves the sensor covered without owner and raises
EARLY with no record, no tag and no position, naming the sensor. No record changes and no gap check is made; the
channels and timers settle, and nothing else changes. In every state after the self-test the sensor is left without
owner and no record changes, and a trail edge at a sensor without owner changes no record and raises nothing (R34,
R38). -/
def Obligations.LeadEdgeWithoutOwnerRaisesEarly : Prop :=
  (∀ (s : State) (k : Fin 6), s.ctl.resetLow = false → s.ctl.st.checks = true → k.val < s.scount → s.quiet →
    (s.sensor k).covered = false →
    (∀ r ∈ s.track.queue, r.next = some k.val →
      r.place ≠ .entering ∧ r.place ≠ .inside ∧ (s.role ≠ .invert ∨ r.dir ≠ .reverse)) →
    exec (.leadEdge k) s = .next (settleDrive { s with
      pins := { s.pins with sensors := withBit s.pins.sensors k true }
      sens := { s.sens with sensors := s.sens.sensors.modify k fun q =>
        { q with covered := true, owner := none, confirmed := false, stalled := false } }
      flt := (s.flt.count .early).pend
        { code := .early, original := none, involved := none, tag := none, last := false, position := none,
          sensor := some k, worst := 0, ghost := false } })) ∧
  (∀ (s : State) (k : Fin 6), s.ctl.resetLow = false → s.ctl.st ≠ .selftest → k.val < s.scount → s.quiet →
    (s.sensor k).covered = false →
    (∀ r ∈ s.track.queue, r.next = some k.val →
      r.place ≠ .entering ∧ r.place ≠ .inside ∧ (s.role ≠ .invert ∨ r.dir ≠ .reverse)) →
    ∃ t : State, exec (.leadEdge k) s = .next t ∧
      (t.sensor k).owner = none ∧ t.track.queue = s.track.queue) ∧
  (∀ (s : State) (k : Fin 6), s.ctl.resetLow = false → s.ctl.st ≠ .selftest → k.val < s.scount → s.quiet →
    (s.sensor k).covered = true → (s.sensor k).owner = none →
    ∃ t : State, exec (.trailEdge k) s = .next t ∧
      (t.sensor k).owner = none ∧ t.track.queue = s.track.queue ∧ t.flt = s.flt)

/-- A lead edge within the window corrects the record and moves its next sensor on, a ghost is confirmed by its
position; sensor 0 reports ARRIVED. At a TRANSPORT station in RUNNING, DRAINING or PAUSING, a lead edge attributed
to a FORWARD record that is no ghost, at a position within its window, with a gap of at least GAPMIN, and a sensor
position that reaches no threshold: the lead becomes the sensor position, the reference too, the worst correction
the larger of itself and |s - p| up to 255, the next sensor and window advance, the sensor is covered, owned and
confirmed with its latch at the odometer, and at sensor 0 ARRIVED is queued to the record's source (R31, R84). At a
FEED or TRANSPORT station a STEP that carries a ghost to or beyond its next sensor, short of the one after, confirms
it there: its reference becomes the sensor position, its lead stays, the next sensor advances, the latch takes its
odometer, no sensor is covered or owned; at sensor 0 ARRIVED is queued to its upstream, or its pick is complete
(R35, R84, R89). Nothing else changes but the channels and timers. -/
def Obligations.LeadEdgeInTheWindowConfirms : Prop :=
  (∀ (s : State) (k : Fin 6) (r : Record) (w : Window), s.ctl.resetLow = false → s.ctl.st.checks = true →
    k.val < s.scount → s.role = .transport → s.quiet → s.queueSound → (s.sensor k).covered = false →
    s.attributed k = some r → r.marks.ghost = false → r.dir = .forward → r.window = some w →
    w.early ≤ r.lead / 256 → r.lead / 256 ≤ w.late → s.gapMin ≤ (s.sensor k).uncovered / 256 →
    s.noThreshold r (s.spos k) →
    exec (.leadEdge k) s = .next (settleDrive { s with
      pins := { s.pins with sensors := withBit s.pins.sensors k true }
      sens := { s.sens with sensors := s.sens.sensors.modify k fun q =>
        { q with covered := true, owner := some r.tag, confirmed := true, stalled := false, latch := r.odo } }
      track := { s.track with queue := s.track.queue.map fun x =>
        if x.tag = r.tag then
          { r with
            lead := s.spos k * 256
            ref := s.spos k
            worst := min (max r.worst ((s.spos k - r.lead / 256) + (r.lead / 256 - s.spos k))) 255
            next := s.nextAbove r.route k
            window := s.windowOf { r with ref := s.spos k, next := s.nextAbove r.route k } }
        else x }
      port := if k.val = 0 then
          (match s.upstreamOf r.source with
           | some a => s.port.post a (.arrived r.tag r.last)
           | none => s.port)
        else s.port })) ∧
  (∀ (s : State) (ch : Channel) (r : Record) (p k : Nat), s.carries ch r p → r.marks.ghost = true → s.ownsNone r →
    r.window = none → s.noThreshold r p → r.next = some k → s.spos k ≤ p →
    (∀ j ∈ s.nextAbove r.route k, p < s.spos j) →
    exec (.step ch) s = .next (settleDrive { s.stepped ch with
      sens := { (s.stepped ch).sens with
        sensors := (s.stepped ch).sens.sensors.modify k fun q => { q with latch := (s.moved ch r).odo } }
      track := { s.track with
        queue := [{ s.moved ch r with ref := s.spos k, next := s.nextAbove r.route k }] }
      port := if k = 0 then
          (match s.upstreamOf r.source with
           | some a => s.port.post a (.arrived r.tag r.last)
           | none => s.port)
        else s.port
      feed := { s.feed with
        pick := if k = 0 ∧ s.role = .feed ∧ r.source = .pick ∧ s.feed.pick = some r.tag then none else s.feed.pick } }))

/-- A lead edge outside the window raises EARLY, and GAP when the gap is short; a position beyond the late limit raises
MISS or re-arms a pick. In RUNNING, DRAINING or PAUSING, a lead edge attributed to a FORWARD record that is no ghost
and whose position is outside its window: EARLY is raised with tag, position and sensor, then GAP if the uncovered
distance is below GAPMIN (R33, R41). The sensor is covered and owned, the cover unconfirmed, its latch as it was. No
record changes. At a FEED or TRANSPORT station a STEP that carries a record that is no ghost beyond its late limit,
no threshold being reached, raises MISS with tag, position and sensor, and the next sensor and window advance; but a
pick at sensor 0 with retries left loses one retry and stands again at lead and reference 0, its odometer kept, with
the window of these values, and where the position of that step is at its offer point OFFER goes to DN1 all the same
(R25, R36, R37, R69, R88). Nothing else changes but the channels and timers. The model's inference: EARLY beyond the
late limit too (log entry 13). -/
def Obligations.LeadEdgeOutsideTheWindowIsEarly : Prop :=
  (∀ (s : State) (k : Fin 6) (r : Record), s.ctl.resetLow = false → s.ctl.st.checks = true →
    k.val < s.scount → s.quiet → s.queueSound → (s.sensor k).covered = false →
    s.attributed k = some r → r.marks.ghost = false → r.dir = .forward →
    (∀ w ∈ r.window, r.lead / 256 < w.early ∨ w.late < r.lead / 256) →
    exec (.leadEdge k) s = .next (settleDrive { s with
      pins := { s.pins with sensors := withBit s.pins.sensors k true }
      sens := { s.sens with sensors := s.sens.sensors.modify k fun q =>
        { q with covered := true, owner := some r.tag, confirmed := false, stalled := false } }
      flt :=
        let early := (s.flt.count .early).pend
          { code := .early, original := none, involved := some r.tag, tag := some r.tag, last := r.last,
            position := some (r.lead / 256), sensor := some k, worst := r.worst, ghost := false }
        if (s.sensor k).uncovered / 256 < s.gapMin then
          (early.count .gap).pend
            { code := .gap, original := none, involved := some r.tag, tag := some r.tag, last := r.last,
              position := some (r.lead / 256), sensor := some k, worst := r.worst, ghost := false }
        else early })) ∧
  (∀ (s : State) (ch : Channel) (r : Record) (w : Window) (p k : Nat), s.carries ch r p → r.marks.ghost = false →
    s.ownsNone r → r.window = some w → r.next = some k → w.late < p → s.noThreshold r p →
    ¬ (s.role = .feed ∧ r.source = .pick ∧ k = 0 ∧ 0 < r.retries) →
    exec (.step ch) s = .next (settleDrive { s.stepped ch with
      flt := (s.flt.count .miss).pend
        { code := .miss, original := none, involved := some r.tag, tag := some r.tag, last := r.last,
          position := some p, sensor := some k, worst := r.worst, ghost := false }
      track := { s.track with queue := [{ s.moved ch r with
        next := s.nextAbove r.route k
        window := (s.nextAbove r.route k).map fun j => s.windowAt .forward r.ref j }] } })) ∧
  (∀ (s : State) (ch : Channel) (r : Record) (w : Window) (p : Nat), s.carries ch r p → r.marks.ghost = false →
    s.ownsNone r → r.window = some w → r.next = some 0 → w.late < p → s.noThreshold r p →
    s.role = .feed → r.source = .pick → 0 < r.retries →
    exec (.step ch) s = .next (settleDrive { s.stepped ch with
      track := { s.track with queue := [{ s.moved ch r with
        lead := 0, ref := 0, retries := r.retries - 1, window := some (s.windowAt .forward 0 0) }] } })) ∧
  (∀ (s : State) (ch : Channel) (r : Record) (w : Window) (p : Nat), s.carries ch r p → r.marks.ghost = false →
    s.ownsNone r → r.window = some w → r.next = some 0 → w.late < p → r.reached.offer = false →
    s.exitX ≤ p + s.offerD → s.noThreshold { r with reached := { r.reached with offer := true } } p →
    r.stage = .notOffered → s.role = .feed → r.source = .pick → 0 < r.retries → s.dn1 ≠ 0 →
    exec (.step ch) s = .next (settleDrive { s.stepped ch with
      port := s.port.post s.dn1 (.offer
        { tag := r.tag, last := r.last, side := r.side, speed := r.speed, marks := r.marks, length := r.length })
      track := { s.track with queue := [{ s.moved ch r with
        lead := 0, ref := 0, retries := r.retries - 1, window := some (s.windowAt .forward 0 0)
        stage := .offered, reached := { r.reached with offer := true } }] } }))

/-- A trail edge raises SHORT when the covering distance is below the length less TLEN, a step STALL when it is beyond
the length with its tolerances. At a FEED, TRANSPORT or REGISTER station in RUNNING, DRAINING or PAUSING, TRAIL_EDGE
at a covered sensor in use leaves it uncovered, without owner, at uncovered distance 0. When the cover was confirmed
and its owner, a record of the queue that is no ghost, has a covering distance below its length less TLEN (0 when
negative), SHORT is raised with tag, position and sensor; when the distance is not below it, or the sensor has no
owner, nothing is raised (R38, R39). At a FEED or TRANSPORT station a STEP that carries a record that is no ghost
and not late, no threshold being reached, raises STALL with tag, position and sensor when its covering distance at
the one sensor it owns, confirmed and not stalled yet, is more than its length + TLEN + the slip term of its length,
and the sensor is stalled; where each sensor it owns is unconfirmed, stalled already or within that distance nothing
is raised (R40). Nothing else changes but the channels and timers. -/
def Obligations.TrailEdgeJudgesTheLength : Prop :=
  (∀ (s : State) (k : Fin 6) (r : Record), s.ctl.resetLow = false → s.ctl.st.checks = true → k.val < s.scount →
    s.role ≠ .invert → s.role ≠ .exit → s.quiet → s.queueSound → (s.sensor k).covered = true →
    r ∈ s.track.queue → (s.sensor k).owner = some r.tag → (s.sensor k).confirmed = true → r.marks.ghost = false →
    exec (.trailEdge k) s = .next (settleDrive { s with
      pins := { s.pins with sensors := withBit s.pins.sensors k false }
      sens := { s.sens with sensors := s.sens.sensors.modify k fun q =>
        { q with covered := false, owner := none, confirmed := false, stalled := false, uncovered := 0 } }
      flt := if (r.odo - (s.sensor k).latch) / 256 < r.length - s.tLen then
          (s.flt.count .short).pend
            { code := .short, original := none, involved := some r.tag, tag := some r.tag, last := r.last,
              position := some (r.lead / 256), sensor := some k, worst := r.worst, ghost := false }
        else s.flt })) ∧
  (∀ (s : State) (k : Fin 6), s.ctl.resetLow = false → s.ctl.st.checks = true → k.val < s.scount →
    s.role ≠ .invert → s.role ≠ .exit → s.quiet → (s.sensor k).covered = true → (s.sensor k).owner = none →
    exec (.trailEdge k) s = .next (settleDrive { s with
      pins := { s.pins with sensors := withBit s.pins.sensors k false }
      sens := { s.sens with sensors := s.sens.sensors.modify k fun q =>
        { q with covered := false, owner := none, confirmed := false, stalled := false, uncovered := 0 } } })) ∧
  (∀ (s : State) (ch : Channel) (r : Record) (p k : Nat), s.carries ch r p → r.marks.ghost = false → r.onTime p →
    s.noThreshold r p → k < s.scount → (s.sensor k).owner = some r.tag → (s.sensor k).confirmed = true →
    (s.sensor k).stalled = false → (∀ j < s.scount, j ≠ k → (s.sensor j).owner ≠ some r.tag) →
    r.length + s.tLen + (s.slip * r.length + 1023) / 1024 < ((s.moved ch r).odo - (s.sensor k).latch) / 256 →
    exec (.step ch) s = .next (settleDrive { s.stepped ch with
      flt := (s.flt.count .stall).pend
        { code := .stall, original := none, involved := some r.tag, tag := some r.tag, last := r.last,
          position := some p, sensor := some k, worst := r.worst, ghost := false }
      sens := { (s.stepped ch).sens with
        sensors := (s.stepped ch).sens.sensors.modify k fun q => { q with stalled := true } }
      track := { s.track with queue := [s.moved ch r] } })) ∧
  (∀ (s : State) (ch : Channel) (r : Record) (p : Nat), s.carries ch r p → r.marks.ghost = false → r.onTime p →
    s.noThreshold r p →
    (∀ k < s.scount, (s.sensor k).owner = some r.tag → (s.sensor k).confirmed = false ∨ (s.sensor k).stalled = true ∨
      ((s.moved ch r).odo - (s.sensor k).latch) / 256 ≤ r.length + s.tLen + (s.slip * r.length + 1023) / 1024) →
    exec (.step ch) s = .next (settleDrive { s.stepped ch with track := { s.track with queue := [s.moved ch r] } }))

/-- The forward and the reverse lead window. For every sensor k with s = SPOS[k] and every reference r. FORWARD, d = s -
r when s > r, else 0: the early limit is s - TEARLY or 0, the late limit s + TLATE + the slip term or 65535 if that
is greater; the slip term is SLIP x d / 1024 rounded up, 0 for d = 0; a record whose late limit is 65535 and whose
lead is within the clamp of R25 is not late. REVERSE is the mirror: d = r - s when r > s, early limit s + TEARLY or
65535, late limit s - TLATE - slip term or 0, within the window while E >= p >= L, late once p < L, never below a
late limit of 0. -/
def Obligations.WindowLimits : Prop :=
  ∀ (s : State) (ref k : Nat) (r : Record),
    let f := s.windowAt .forward ref k
    let b := s.windowAt .reverse ref k
    (∃ d slip : Nat, d = s.spos k - ref ∧ (d = 0 → slip = 0) ∧ s.slip * d ≤ 1024 * slip ∧
      1024 * slip < s.slip * d + 1024 ∧
      f.early = s.spos k - s.tEarly ∧ f.late = min (s.spos k + s.tLate + slip) 65535) ∧
    (∃ d slip : Nat, d = ref - s.spos k ∧ (d = 0 → slip = 0) ∧ s.slip * d ≤ 1024 * slip ∧
      1024 * slip < s.slip * d + 1024 ∧
      b.early = min (s.spos k + s.tEarly) 65535 ∧ b.late = s.spos k - (s.tLate + slip)) ∧
    (r.dir = .forward → f.late = 65535 → r.lead ≤ 16777215 → r.late f = false) ∧
    (r.dir = .reverse → (r.within b = true ↔ r.lead / 256 ≤ b.early ∧ b.late ≤ r.lead / 256) ∧
      (r.late b = true ↔ r.lead / 256 < b.late) ∧ (b.late = 0 → r.late b = false))

/-- The periods of the ramp table. For a target period T, ramp start period RST and K ramp steps, S being RST or T when
RST is smaller: period(i) = S - floor((S - T) x i / K) for K of 1 or more and i up to K; then period(0) is S and
period(K) is T, the periods do not rise with i, and with RST not above T they are all T. With K = 0 the table holds
T (R52). -/
def Obligations.RampTable : Prop :=
  ∀ rst t k i : Nat,
    (1 ≤ k → i ≤ k →
      ∃ q : Nat, q * k ≤ (max rst t - t) * i ∧ (max rst t - t) * i < q * k + k ∧
        rampPeriod rst t k i + q = max rst t) ∧
    (1 ≤ k → rampPeriod rst t k 0 = max rst t ∧ rampPeriod rst t k k = t) ∧
    (1 ≤ k → rampPeriod rst t k (i + 1) ≤ rampPeriod rst t k i) ∧
    (rst ≤ t → rampPeriod rst t k i = t) ∧
    rampPeriod rst t 0 i = t

/-- After an event a channel without demand ramps down or stands, one with demand that stands ramps up; the timers that
wait for them start. Settling the Drive Unit, with no reversal waiting, changes only the channels and three timers.
A channel stands when it was STOPPED, or has lost demand in RAMP-UP or AT SPEED at ramp index 0. The hold wait and
the image wait timer turn from armed to running exactly when both channels stand, the return wait timer exactly when
channel B stands; an idle or running timer stays. For channel A (and B alike, by its own demand): without demand a
channel in RAMP-UP or AT SPEED goes to RAMP-DOWN at its index, or stands at index 0, and a standing one stays; with
demand a standing one begins a ramp-up at index 0 (AT SPEED at once with K = 0), one in RAMP-UP or AT SPEED stays;
one in RAMP-DOWN goes on. A standing channel takes the direction wanted, and none is wanted then; one that moves
keeps both. The period of the step to come is 0 when STOPPED, period(i + 1) in RAMP-UP, the target period AT SPEED,
and period(i - 1) in RAMP-DOWN, with the target of the speed index in use (R48, R52 to R55, R57, R74, R105, R116).
The model's inference: an armed return wait timer starts in BLOCKED too (log entry 38); its choice: the period of a
STOPPED channel is 0 (log entry 46). -/
def Obligations.ChannelsSettleByDemand : Prop :=
  ∀ s : State, s.inv.seq ≠ .stopping →
    let still (c : Chan) (demand : Bool) : Prop := c.run = .stopped ∨ (demand = false ∧ c.run ≠ .rampDown ∧ c.ramp = 0)
    ∃ t : State, settleDrive s = t ∧
    t = { s with
      drive := { s.drive with chA := t.drive.chA, chB := t.drive.chB }
      hand := { s.hand with holdTimer := t.hand.holdTimer }
      inv := { s.inv with timer := t.inv.timer }
      reg := { s.reg with timer := t.reg.timer } } ∧
    (t.hand.holdTimer = .running ↔ s.hand.holdTimer = .running ∨
      (s.hand.holdTimer = .armed ∧ still s.drive.chA s.demandA ∧ still s.drive.chB s.demandB)) ∧
    (t.hand.holdTimer = .idle ↔ s.hand.holdTimer = .idle) ∧
    (t.reg.timer = .running ↔ s.reg.timer = .running ∨
      (s.reg.timer = .armed ∧ still s.drive.chA s.demandA ∧ still s.drive.chB s.demandB)) ∧
    (t.reg.timer = .idle ↔ s.reg.timer = .idle) ∧
    (t.inv.timer = .running ↔ s.inv.timer = .running ∨ (s.inv.timer = .armed ∧ still s.drive.chB s.demandB)) ∧
    (t.inv.timer = .idle ↔ s.inv.timer = .idle) ∧
    ∀ (c c' : Chan) (demand : Bool) (k start target : Nat),
      ((c, c', demand, k, start, target) =
          (s.drive.chA, t.drive.chA, s.demandA, s.rampLen .a, s.rampStart .a, s.target .a) ∨
       (c, c', demand, k, start, target) =
          (s.drive.chB, t.drive.chB, s.demandB, s.rampLen .b, s.rampStart .b, s.target .b)) →
      (demand = false → c.run = .rampUp ∨ c.run = .atSpeed → c.ramp ≠ 0 → c'.run = .rampDown ∧ c'.ramp = c.ramp) ∧
      (demand = false → c.run = .rampUp ∨ c.run = .atSpeed → c.ramp = 0 → c'.run = .stopped ∧ c'.ramp = 0) ∧
      (demand = false → c.run = .stopped → c'.run = .stopped ∧ c'.ramp = c.ramp) ∧
      (demand = true → c.run = .stopped → c'.ramp = 0 ∧ c'.run = if k = 0 then .atSpeed else .rampUp) ∧
      (demand = true → c.run = .rampUp ∨ c.run = .atSpeed → c'.run = c.run ∧ c'.ramp = c.ramp) ∧
      (c.run = .rampDown → c'.run = .rampDown ∧ c'.ramp = c.ramp) ∧
      (c.run ≠ .stopped → (demand = true ∨ c.ramp ≠ 0 ∨ c.run = .rampDown) → c'.dir = c.dir ∧ c'.want = c.want) ∧
      (still c demand → c'.dir = c.want.getD c.dir ∧ c'.want = none) ∧
      (c'.run = .stopped → c'.period = 0) ∧
      (c'.run = .rampUp → c'.period = rampPeriod start target k (c'.ramp + 1)) ∧
      (c'.run = .atSpeed → c'.period = target) ∧
      (c'.run = .rampDown → c'.period = rampPeriod start target k (c'.ramp - 1))

/-- An INTERLOCK line becoming active raises INTERLOCK; a PAUSE line becoming active drains a running or sweeping
station. LINE_ACTIVE on the first active line of the INTERLOCK function, in RUNNING, DRAINING, PAUSING, PAUSED or
SWEEPING, raises INTERLOCK with no record, tag, position or sensor (R165). On the first active line of PAUSE, in
RUNNING with no offer and no order waiting, the station is in DRAINING, and READY goes to each upstream deferred for
STATE, UP1 first, whose deferral ends (R82, R162, R164). In SWEEPING drain asked is yes and launching stops, and no
STATUS is sent; where the sweep is active, the queue empty, no pick in progress and both channels stand, the sweep
ends in that event: SWEEPREPORT goes to ENGADDR, the station is in READY with its hold set cleared, and each waiting
offer is answered DEFER with STATE (R67, R80, R176, R177). The line reads its active level; nothing else changes but
the channels and timers. The model's choices: READY to UP1 before UP2 and SWEEPREPORT, GO, DEFER in this order (log
entry 40), and no READY where the hold set is cleared (log entry 11). -/
def Obligations.LinesActBecomingActive : Prop :=
  (∀ (s : State) (n : Fin 4), s.ctl.resetLow = false → s.lineFunction n = .interlock →
    s.functionActive .interlock = false → s.ctl.st.interlocks = true → s.quiet →
    exec (.lineActive n) s = .next (settleDrive { s with
      pins := { s.pins with lines := withBit s.pins.lines n (s.lineActiveHigh n) }
      flt := (s.flt.count .interlock).pend
        { code := .interlock, original := none, involved := none, tag := none, last := false, position := none,
          sensor := none, worst := 0, ghost := false } })) ∧
  (∀ (s : State) (n : Fin 4), s.ctl.resetLow = false → s.lineFunction n = .pause →
    s.functionActive .pause = false → s.ctl.st = .running → s.quiet → s.nothingWaits →
    exec (.lineActive n) s = .next (settleDrive { s with
      pins := { s.pins with lines := withBit s.pins.lines n (s.lineActiveHigh n) }
      ctl := { s.ctl with st := .draining }
      port := s.tellReady [.state] s.port
      hand := s.hand.readied [.state] })) ∧
  (∀ (s : State) (n : Fin 4), s.ctl.resetLow = false → s.lineFunction n = .pause →
    s.functionActive .pause = false → s.ctl.st = .sweeping → s.quiet →
    ¬ (s.sweep.active = true ∧ s.track.queue = [] ∧ s.feed.pick = none ∧ s.drive.chA.run = .stopped ∧
      s.drive.chB.run = .stopped) →
    exec (.lineActive n) s = .next (settleDrive { s with
      pins := { s.pins with lines := withBit s.pins.lines n (s.lineActiveHigh n) }
      sweep := { s.sweep with drainAsked := true, launching := false } })) ∧
  (∀ (s : State) (n : Fin 4), s.ctl.resetLow = false → s.lineFunction n = .pause →
    s.functionActive .pause = false → s.ctl.st = .sweeping → s.quiet → s.sweep.active = true → s.track.queue = [] →
    s.feed.pick = none → s.drive.chA.run = .stopped → s.drive.chB.run = .stopped →
    exec (.lineActive n) s = .next (settleDrive { s with
      pins := { s.pins with lines := withBit s.pins.lines n (s.lineActiveHigh n) }
      ctl := { s.ctl with st := .ready }
      port := s.deferAll .state (s.drive.hold.foldl (fun p e => p.postAll e.fwd (.go e.origin))
        (s.port.post s.engAddr (.sweepReport s.sweep.results)))
      drive := { s.drive with hold := [] }
      hand := { s.hand.deferringAll .state with waiting := none, holdTimer := .idle }
      reg := { s.reg with timer := .idle }
      sweep := { s.sweep with active := false, drainAsked := true, launching := false } }))

/-- The last BIN_FULL line becoming inactive begins the eject or dump that waited for it. LINE_INACTIVE on the only
active BIN_FULL line, in any state but LOCKDOWN: an eject in BIN WAIT becomes ACTIVE, its timer runs, the EJECT line
is active, the offset alternates and DELIVERED is queued to ENGADDR with tray set, count and split; a dump in BIN
WAIT becomes ACTIVE, its timer runs, the DUMP line is active and PURGED is queued with its reason. The bin report is
cleared; nothing else changes but the channels and timers (R130, R131, R133). -/
def Obligations.BinFreedBeginsTheOperation : Prop :=
  (∀ (s : State) (n : Fin 4), s.ctl.resetLow = false → s.lineFunction n = .binFull →
    s.lineReads .binFull n = true → (∀ m < 4, m ≠ n.val → s.lineReads .binFull m = false) →
    s.ctl.st ≠ .lockdown → s.quiet → s.comp.op = .ejecting .binWait →
    exec (.lineInactive n) s = .next (settleDrive { s with
      pins := { s.pins with lines := withBit s.pins.lines n (!s.lineActiveHigh n) }
      comp := { s.comp with
        op := .ejecting .active, timer := .running, ejectLine := true, offset := !s.comp.offset, binReported := false }
      port := s.port.post s.engAddr (.delivered (s.comp.traySet.getD 0) s.comp.count s.comp.split) })) ∧
  (∀ (s : State) (n : Fin 4) (why : DumpReason), s.ctl.resetLow = false → s.lineFunction n = .binFull →
    s.lineReads .binFull n = true → (∀ m < 4, m ≠ n.val → s.lineReads .binFull m = false) →
    s.ctl.st ≠ .lockdown → s.quiet → s.comp.op = .dumping .binWait → s.comp.dumpReason = some why →
    exec (.lineInactive n) s = .next (settleDrive { s with
      pins := { s.pins with lines := withBit s.pins.lines n (!s.lineActiveHigh n) }
      comp := { s.comp with op := .dumping .active, timer := .running, dumpLine := true, binReported := false }
      port := s.port.post s.engAddr (.purged (s.comp.traySet.getD 0) s.comp.count why) }))

/-- PICK_START turns the head order into an ENTERING record with source PICK. At a FEED station in RUNNING with no pick
in progress, an empty hold set, room in the queue, sensor 0 uncovered for at least GAPMIN - PICKD, supply present,
and a head order whose tag is not held, whose set is not broken and whose speed is the one in use or the queue is
empty: the order leaves the orders, its sheet is the last record of the queue (ENTERING, PICK, position 0, next
sensor 0, PICKRT retries, its window computed), the pick and the set in progress are noted, and the speed index is
the order's (R13, R48, R79, R87). Nothing else changes but the channels and timers. -/
def Obligations.PickStartMakesARecord : Prop :=
  ∀ (s : State) (o : FeedOrder) (rest : List FeedOrder), s.ctl.resetLow = false → s.role = .feed →
    s.ctl.st = .running → s.feed.orders = o :: rest → s.feed.pick = none → s.drive.hold = [] →
    s.track.queue.length < 8 → (∀ r ∈ s.track.queue, r.tag ≠ o.tag) → (s.sensor 0).covered = false →
    s.gapMin - s.pickD ≤ (s.sensor 0).uncovered / 256 → s.functionActive .supplyEmpty = false →
    o.tag.set ∉ s.track.broken → (s.track.queue = [] ∨ o.speed = s.drive.speed) → s.quiet →
    exec .pickStart s = .next (settleDrive { s with
      feed := { s.feed with orders := rest, pick := some o.tag }
      hand := { s.hand with
        setInProgress :=
          if o.side = .second then s.hand.setInProgress else if o.last then none else some o.tag.set }
      drive := { s.drive with speed := o.speed }
      track := { s.track with queue := s.track.queue ++
        [{ tag := o.tag, last := o.last, side := o.side, length := o.length, speed := o.speed,
           marks := { broken := false, spoiled := false, ghost := false, misrouted := false },
           place := .entering, source := .pick, route := none, stage := .notOffered, arrival := false,
           dir := .forward, lead := 0, odo := 0, ref := 0, next := some 0, worst := 0, image := none,
           retries := s.pickRt, window := some (s.windowAt .forward 0 0), reached := Reached.none,
           offerOwed := false }] } })

/-- GHOST_LAUNCH puts the next ghost on the path and steps over the skipped numbers. In SWEEPING at the origin while
launching, with an empty hold set, no pick, room in the queue, the spacing ghost gone or 2000 pu + GAPMIN on, and
the next number's tag not held: a ghost record of that number (sequence 1, SIMPLEX, 2000 pu, mark GHOST alone,
ENTERING, PICK, no window) joins the queue. It is the pick and the spacing ghost, the next number is the next above
it that is no multiple of the inject period, and launching ends with the last ghost of the sweep (R170, R171). The
ghost is counted received (R174). Nothing else changes but the channels and timers. The model's inference: a tag
still held makes the launch wait (log entry 24). -/
def Obligations.GhostLaunchMakesAGhost : Prop :=
  ∀ s : State, s.ctl.resetLow = false → s.role = .feed → s.ctl.st = .sweeping → s.sweep.active = true →
    s.sweep.launching = true → s.sweep.drainAsked = false → s.drive.hold = [] → s.feed.pick = none →
    s.track.queue.length < 8 → (∀ r ∈ s.track.queue, r.tag ≠ ⟨s.sweep.nextNumber, 1⟩) →
    (∀ t ∈ s.sweep.spacing, ∀ r ∈ s.track.queue, r.tag = t → (2000 + s.gapMin) * 256 ≤ r.odo) → s.quiet →
    let n := s.sweep.nextNumber
    let top := if s.sweep.inject ≠ 0 ∧ s.sweep.ghosts % s.sweep.inject = 0 then s.sweep.ghosts - 1 else s.sweep.ghosts
    exec .ghostLaunch s = .next (settleDrive { s with
      sweep := { s.sweep with
        spacing := some ⟨n, 1⟩
        nextNumber := if s.sweep.inject ≠ 0 ∧ (n + 1) % s.sweep.inject = 0 then n + 2 else n + 1
        launching := decide (n ≠ top)
        results := { s.sweep.results with received := min (s.sweep.results.received + 1) 255 } }
      feed := { s.feed with pick := some ⟨n, 1⟩ }
      drive := { s.drive with speed := if s.track.queue = [] then 0 else s.drive.speed }
      track := { s.track with queue := s.track.queue ++
        [{ tag := ⟨n, 1⟩, last := decide (n = top), side := .simplex, length := 2000, speed := 0,
           marks := { broken := false, spoiled := false, ghost := true, misrouted := false },
           place := .entering, source := .pick, route := none, stage := .notOffered, arrival := false,
           dir := .forward, lead := 0, odo := 0, ref := 0, next := some 0, worst := 0, image := none,
           retries := 0, window := none, reached := Reached.none, offerOwed := false }] } })

/-- SLOT_EXAMINATION takes a waiting offer that no cause stops. In RUNNING, at a station that is not INVERT, with an
empty hold set, room in the queue, the entry free, the offer of the UP1 slot not held, not a ghost and of a set that
is not broken, at the speed in use or into an empty queue, and the UP2 slot empty: TAKE is queued to UP1, the slot
is empty, the sheet is the last record of the queue as EXPECTED, the set in progress is noted, and the arbiter's
last side is UP1 with streak 0 (R12, R79, R81, R93). Nothing else changes but the channels and timers. -/
def Obligations.SlotExaminationTakesTheOnlyOffer : Prop :=
  ∀ (s : State) (o : Offer), s.ctl.resetLow = false → s.ctl.st = .running → s.role ≠ .invert →
    s.hand.slot1 = some o → s.hand.slot2 = none → s.drive.hold = [] → s.track.queue.length < 8 →
    (∀ r ∈ s.track.queue, r.tag ≠ o.tag ∧ r.occupiesEntry = false) → o.marks.ghost = false →
    o.marks.broken = false → o.tag.set ∉ s.track.broken → (s.track.queue = [] ∨ o.speed = s.drive.speed) → s.quiet →
    exec .slotExamination s = .next (settleDrive (s.tookUp1 o))

/-- Of two offers that no cause stops, the streak and the merge preference choose the winner. When both slots hold
offers that no cause stops, SLOT_EXAMINATION takes the preferred side (UP2 under SECONDARY, UP1 under PRIMARY) while
the streak is below STREAK, and the side other than the last side otherwise. The winner's slot is empty and its
sheet EXPECTED in the queue, the loser's slot keeps its offer; a win of the last side raises the streak by one, up
to 15, and a win of the other side makes it the last side with streak 1 (R92, R93). The model's inference: contested
is when no cause stops either offer (log entry 17), the refused SWEEP of a ghost among the causes (log entry 49). -/
def Obligations.ContestedExaminationFollowsTheStreak : Prop :=
  ∀ (s : State) (o1 o2 : Offer) (w : UpSide), s.ctl.resetLow = false → s.ctl.st ≠ .selftest →
    s.hand.slot1 = some o1 → s.hand.slot2 = some o2 → s.judge .up1 o1 = .free → s.judge .up2 o2 = .free →
    ((s.hand.streak < s.streakLimit ∧ w = if s.mergeSecondary then .up2 else .up1) ∨
      (s.streakLimit ≤ s.hand.streak ∧ s.hand.lastSide = some w.other)) →
    ∃ t : State, exec .slotExamination s = .next t ∧
      t.slot w = none ∧ t.slot w.other = s.slot w.other ∧ t.hand.lastSide = some w ∧
      t.hand.streak = (if s.hand.lastSide = some w then min (s.hand.streak + 1) 15 else 1) ∧
      ∃ r ∈ t.track.queue, r.tag = (match w with | .up1 => o1.tag | .up2 => o2.tag) ∧ r.place = .expected

/-- With an empty queue and both channels standing a drain ends in READY, a pause in PAUSED, a sweep in READY. With the
queue empty and both channels STOPPED: DRAIN_END in DRAINING with no pick enters READY; PAUSE_END in PAUSING enters
PAUSED; SWEEP_END in an active sweep that has seen its last ghost or been asked to drain, with no pick, queues
SWEEPREPORT to ENGADDR, ends the sweep and enters READY. Entering READY clears the hold set with GO to every
forwarded list and ends the hold and image waits. Each offer that waits in a slot is then answered DEFER, its slot
empty and its upstream deferred: with STATE, or with HELD in PAUSED under a hold (R67, R78, R80, R146, R162, R176).
Nothing else changes but the channels and timers. The model's choices: clearing the hold set sends no READY (log
entry 11), and the order of the frames (log entry 40). -/
def Obligations.DrainPauseAndSweepEnd : Prop :=
  (∀ s : State, s.ctl.resetLow = false → s.ctl.st = .draining → s.track.queue = [] → s.drive.chA.run = .stopped →
    s.drive.chB.run = .stopped → s.feed.pick = none → s.quiet →
    exec .drainEnd s = .next (settleDrive { s with
      ctl := { s.ctl with st := .ready }
      port := s.deferAll .state (s.drive.hold.foldl (fun p e => p.postAll e.fwd (.go e.origin)) s.port)
      drive := { s.drive with hold := [] }
      hand := { s.hand.deferringAll .state with waiting := none, holdTimer := .idle }
      reg := { s.reg with timer := .idle } })) ∧
  (∀ s : State, s.ctl.resetLow = false → s.ctl.st = .pausing → s.track.queue = [] → s.drive.chA.run = .stopped →
    s.drive.chB.run = .stopped → s.quiet →
    let why : DeferReason := if s.drive.hold = [] then .state else .held
    exec .pauseEnd s = .next (settleDrive { s with
      ctl := { s.ctl with st := .paused }
      port := s.deferAll why s.port
      hand := s.hand.deferringAll why })) ∧
  (∀ s : State, s.ctl.resetLow = false → s.ctl.st = .sweeping → s.sweep.active = true →
    (s.sweep.lastSeen = true ∨ s.sweep.drainAsked = true) → s.track.queue = [] → s.feed.pick = none →
    s.drive.chA.run = .stopped → s.drive.chB.run = .stopped → s.quiet →
    exec .sweepEnd s = .next (settleDrive { s with
      ctl := { s.ctl with st := .ready }
      port := s.deferAll .state (s.drive.hold.foldl (fun p e => p.postAll e.fwd (.go e.origin))
        (s.port.post s.engAddr (.sweepReport s.sweep.results)))
      drive := { s.drive with hold := [] }
      hand := { s.hand.deferringAll .state with waiting := none, holdTimer := .idle }
      reg := { s.reg with timer := .idle }
      sweep := { s.sweep with active := false } }))

/-- An untaken record at its stop point begins a hold wait; an expired hold or return wait gives its record up and
raises HANDOFF. In a state in which faults become pending: HOLD_WAIT_EXPIRY with the timer running and the waiting
record in the queue makes that record given up, the waiting record none and the timer idle; RETURN_WAIT_EXPIRY with
its timer running and the loop record in the queue makes return given up yes and the timer idle, the sequence staying
as it is. Each raises HANDOFF with the record's tag and position and no sensor (R74, R105). At a FEED or TRANSPORT
station without an own hold, a STEP that carries the only record, not taken by DN1 and not EXITING, to its stop point
makes it the waiting record with the timer armed, and HANDOFF_WAIT adds the own entry to the hold set, with HOLD to
the sharing neighbours (R61, R72, R74). Nothing else changes but, after STEP, the channels and timers. The model's
inference: a record counts as taken when its present downstream has taken it (log entry 54). -/
def Obligations.HandoffWaitsExpire : Prop :=
  (∀ (s : State) (r : Record), s.ctl.resetLow = false → s.ctl.st.faultsPend = true → s.hand.holdTimer = .running →
    s.hand.waiting = some r.tag → s.rec? r.tag = some r →
    exec .holdWaitExpiry s = .next { s with
      hand := { s.hand with holdTimer := .idle, givenUp := some r.tag, waiting := none }
      flt := (s.flt.count .handoff).pend
        { code := .handoff, original := none, involved := some r.tag, tag := some r.tag, last := r.last,
          position := some (r.lead / 256), sensor := none, worst := r.worst, ghost := r.marks.ghost } }) ∧
  (∀ (s : State) (r : Record), s.ctl.resetLow = false → s.ctl.st.faultsPend = true → s.inv.timer = .running →
    s.inv.loop = some r.tag → s.rec? r.tag = some r →
    exec .returnWaitExpiry s = .next { s with
      inv := { s.inv with timer := .idle, givenUp := true }
      flt := (s.flt.count .handoff).pend
        { code := .handoff, original := none, involved := some r.tag, tag := some r.tag, last := r.last,
          position := some (r.lead / 256), sensor := none, worst := r.worst, ghost := r.marks.ghost } }) ∧
  (∀ (s : State) (ch : Channel) (r : Record) (p : Nat), s.carriesFreely ch r p → r.reached.stop = false →
    s.cfg.stopPoint ≤ p → s.noThreshold { r with reached := { r.reached with stop := true } } p →
    r.place ≠ .exiting → r.stage ≠ .taken s.dn1 → (∀ e ∈ s.drive.hold, e.origin ≠ s.ctl.address) →
    exec (.step ch) s = .next (settleDrive { s.stepped ch with
      track := { s.track with queue := [{ s.moved ch r with reached := { r.reached with stop := true } }] }
      hand := { s.hand with waiting := some r.tag, holdTimer := .armed }
      port := s.port.postAll s.sharing (.hold s.ctl.address)
      drive := { (s.stepped ch).drive with
        hold := s.drive.hold ++
          [{ origin := s.ctl.address
             own := { handoffWait := true, imageWait := false, trayWait := false, loopWait := false }
             via := none, fwd := s.sharing }] } }))

/-- The image wait timer ends the wait of every WAITING record and takes IMAGE_WAIT away. IMAGE_WAIT_EXPIRY with the
timer running answers a next state in which every WAITING record is SKIPPED and no other record has changed, the
timer is idle, the image list is as it was, the own entry of the hold set does not hold IMAGE_WAIT, and IMAGE has
been counted once for each WAITING record, up to 255; the oldest of them is the request pending for IMAGE when none
was pending and the state lets faults become pending (R117). The sensors, gate, tray, orders, sweep, configuration
and station state are unchanged. -/
def Obligations.ImageWaitExpires : Prop :=
  ∀ s : State, s.ctl.resetLow = false → s.reg.timer = .running → s.quiet → s.queueSound →
    8 < s.flt.counters.length →
    ∃ t : State, exec .imageWaitExpiry s = .next t ∧
      t = { s with
        port := t.port, drive := t.drive, hand := t.hand, inv := { s.inv with timer := t.inv.timer }
        flt := { s.flt with counters := t.flt.counters, pending := t.flt.pending }
        reg := { s.reg with timer := .idle }
        track := { s.track with
          queue := s.track.queue.map fun r =>
            if r.image = some .waiting then { r with image := some .skipped } else r } } ∧
      t.ownHolds .imageWait = false ∧
      (let n := (s.track.queue.filter fun r => decide (r.image = some .waiting)).length
       t.flt.counters =
         if n = 0 then s.flt.counters else s.flt.counters.set 8 (min (s.flt.counters.getD 8 0 + n) 255)) ∧
      (s.ctl.st.faultsPend = true → s.flt.pendingOf .image = none →
        ∀ r ∈ s.track.queue.find? (fun r => decide (r.image = some .waiting)),
          t.flt.pending = s.flt.pending ++
            [{ code := .image, original := none, involved := some r.tag, tag := some r.tag, last := r.last,
               position := some (r.lead / 256), sensor := s.regSensor, worst := r.worst, ghost := r.marks.ghost }])

/-- A sheet entering the tray orders its operation, a broken set is answered, and a completed operation leaves an empty
tray. With the operation ACTIVE, its timer running, no late entry, and no MAIN record past the compile stop point:
EJECT_COMPLETE of a split eject whose set has not been broken or cleared makes the count 0 and keeps tray set, next
sequence and split; EJECT_COMPLETE of any other eject and DUMP_COMPLETE clear the compile record. In each the
operation is NONE, the timer idle and the lines inactive (R131 to R133). An entry applied with no operation counts;
a marked one orders a dump MARKED, else a last sheet an eject, else the CCAP-th a split eject (R129). With no active
BIN_FULL line what is ordered begins, with its line and report; with one it is in BIN WAIT, and BIN, with no tag,
position or sensor, is raised unless BIN reported is yes already, and BIN reported becomes yes (R130). A set added
to the broken list is forgotten by the routed view of an EXIT station; when it is the tray's, an empty tray closes
it, a filled one has a dump ordered, which begins or waits as said, an eject in BIN WAIT becomes a dump in BIN WAIT,
and an active split eject does not leave it open (R126). A trail edge at the COMPILE sensor of the only record,
MAIN, confirmed there and not short, takes it out of the queue, and its entry, suspect when the sensor was stalled,
is applied, or kept while an operation runs; a suspect one's set is then broken (R128, R136). Nothing else changes
but the channels and timers. The model's choices: no dump reason is left by a completed operation (log entry 43), a
request notes that its record has left (log entry 25), a late entry is kept however many there are, a ninth too (log
entry 47), and split is yes from the order on (log entry 48). -/
def Obligations.TrayOperationsComplete : Prop :=
  (∀ (s : State) (d : Nat), s.ctl.resetLow = false → s.comp.timer = .running → s.comp.op = .ejecting .active →
    s.comp.late = [] → s.trayDue = false → s.quiet → s.comp.keepOpen = true → s.comp.traySet = some d →
    d ∉ s.track.broken →
    exec .ejectComplete s = .next (settleDrive { s with comp := { s.comp with
      count := 0, keepOpen := false, op := .none, timer := .idle, dumpReason := none, ejectLine := false,
      dumpLine := false } })) ∧
  (∀ (c : Instr) (s : State), s.ctl.resetLow = false → s.comp.timer = .running → s.comp.late = [] →
    s.trayDue = false → s.quiet →
    ((c = .ejectComplete ∧ s.comp.op = .ejecting .active ∧
        (s.comp.keepOpen = false ∨ ∃ d ∈ s.track.broken, s.comp.traySet = some d)) ∨
      (c = .dumpComplete ∧ s.comp.op = .dumping .active)) →
    exec c s = .next (settleDrive { s with comp := { s.comp with
      traySet := none, count := 0, nextSeq := 1, split := false, keepOpen := false, op := .none, timer := .idle,
      dumpReason := none, ejectLine := false, dumpLine := false } })) ∧
  (∀ (s : State) (e : TrayEntry), s.comp.op = .none →
    let set := s.comp.traySet.getD e.tag.set
    let c := { s.comp with traySet := some set, count := s.comp.count + 1, nextSeq := e.tag.seq + 1 }
    let bins : FaultUnit :=
      if s.comp.binReported = true then s.flt
      else if s.ctl.st.faultsPend = true then (s.flt.count .bin).pend
        { code := .bin, original := none, involved := none, tag := none, last := false, position := none,
          sensor := none, worst := 0, ghost := false }
      else s.flt.count .bin
    applyEntry e s =
      if e.marks.broken = true ∨ e.marks.spoiled = true ∨ e.marks.ghost = true ∨ e.marks.misrouted = true ∨
          e.suspect = true ∨ e.tag.set ∈ s.track.broken then
        (if s.functionActive .binFull = true then { s with
          comp := { c with
            op := .dumping .binWait, dumpReason := some .marked, keepOpen := false, binReported := true }
          flt := bins }
        else { s with
          comp := { c with
            op := .dumping .active, timer := .running, dumpReason := some .marked, keepOpen := false, dumpLine := true }
          port := s.port.post s.engAddr (.purged set (s.comp.count + 1) .marked) })
      else if e.last = true ∨ s.comp.count + 1 = s.ccap then
        (if s.functionActive .binFull = true then { s with
          comp := { c with
            op := .ejecting .binWait, keepOpen := !e.last, split := s.comp.split || !e.last, binReported := true }
          flt := bins }
        else { s with
          comp := { c with
            op := .ejecting .active, timer := .running, ejectLine := true, offset := !s.comp.offset
            keepOpen := !e.last, split := s.comp.split || !e.last }
          port := s.port.post s.engAddr (.delivered set (s.comp.count + 1) (s.comp.split || !e.last)) })
      else { s with comp := c }) ∧
  (∀ (s : State) (set : Nat) (why : DumpReason), s.role ≠ .exit → answerBroken set why s = s) ∧
  (∀ (s : State) (set : Nat) (why : DumpReason), s.role = .exit →
    let mine : Bool := decide (s.comp.routedSet = some set)
    let c := { s.comp with
      routedSet := if mine then none else s.comp.routedSet, routedNext := if mine then 1 else s.comp.routedNext }
    let bins : FaultUnit :=
      if s.comp.binReported = true then s.flt
      else if s.ctl.st.faultsPend = true then (s.flt.count .bin).pend
        { code := .bin, original := none, involved := none, tag := none, last := false, position := none,
          sensor := none, worst := 0, ghost := false }
      else s.flt.count .bin
    answerBroken set why s =
      if s.comp.traySet ≠ some set then { s with comp := c }
      else match s.comp.op with
        | .none =>
          if s.comp.count = 0 then
            { s with comp := { c with traySet := none, count := 0, nextSeq := 1, split := false, keepOpen := false } }
          else if s.functionActive .binFull = true then { s with
            comp := { c with
              op := .dumping .binWait, dumpReason := some why, keepOpen := false, binReported := true }
            flt := bins }
          else { s with
            comp := { c with
              op := .dumping .active, timer := .running, dumpReason := some why, keepOpen := false, dumpLine := true }
            port := s.port.post s.engAddr (.purged set s.comp.count why) }
        | .ejecting .binWait =>
          { s with comp := { c with op := .dumping .binWait, dumpReason := some why, keepOpen := false } }
        | .ejecting .active => { s with comp := { c with keepOpen := false } }
        | .dumping _ => { s with comp := c }) ∧
  (∀ (s : State) (k : Fin 6) (r : Record), s.ctl.resetLow = false → s.ctl.st.checks = true → s.role = .exit →
    s.quiet → s.compileSensor = some k.val → (s.sensor k).covered = true → s.track.queue = [r] →
    (s.sensor k).owner = some r.tag → (s.sensor k).confirmed = true → r.route = some .main →
    r.length - s.tLen ≤ (r.odo - (s.sensor k).latch) / 256 → r.marks.ghost = false → s.gate.move = .none →
    s.gate.list = [] → s.gate.occupant = none → s.inv.loop = none → s.ownHolds .imageWait = false →
    (s.comp.op = .none ∨ r.reached.compileStop = false) →
    let e : TrayEntry :=
      { tag := r.tag, last := r.last, suspect := (s.sensor k).stalled
        marks := { r.marks with spoiled := r.marks.spoiled || (s.sensor k).stalled } }
    let u := { s with
      pins := { s.pins with sensors := withBit s.pins.sensors k false }
      sens := { s.sens with
        sensors := (s.sens.sensors.modify k fun q => { q with covered := false, uncovered := 0 }).map fun q =>
          if q.owner = some r.tag then { q with owner := none, confirmed := false, stalled := false } else q }
      track := { s.track with queue := [] }
      feed := { s.feed with pick := if s.feed.pick = some r.tag then none else s.feed.pick }
      hand := { s.hand with givenUp := if s.hand.givenUp = some r.tag then none else s.hand.givenUp }
      flt := s.flt.forgetting r.tag }
    let v := if s.comp.op = .none then applyEntry e u
      else { u with comp := { s.comp with late := s.comp.late ++ [e] } }
    exec (.trailEdge k) s =
      .next (settleDrive (if (s.sensor k).stalled = true then breakSet r.tag.set .broken v else v)))

/-- The commands of the sending side and the end of a PAGE_SYNC pulse. With the RESET pin high: FRAME_SEND_START with no
frame being sent marks the head of the transmit queue as being sent; ARBITRATION_LOST leaves every frame in its
place and none being sent; FRAME_SENT removes the frame being sent, and an emptied queue ends a spell of congestion;
LINK with a frame waiting and no report in this spell raises LINK with no record and notes the report, and in
SELFTEST, UNCONFIGURED and LOCKDOWN only counts it and notes the report; PAGE_SYNC_PULSE_END makes the pulse
inactive. None of them changes anything else (R121, R141, R179, R184, R185). The model's inference: LINK is raised
in SELFTEST too (log entry 44). -/
def Obligations.SendingSide : Prop :=
  (∀ (s : State) (e : TxEntry) (rest : List TxEntry), s.ctl.resetLow = false → s.port.tx = e :: rest →
    (∀ x ∈ s.port.tx, x.sending = false) →
    exec .frameSendStart s = .next { s with port := { s.port with tx := { e with sending := true } :: rest } }) ∧
  (∀ s : State, s.ctl.resetLow = false →
    exec .arbitrationLost s =
      .next { s with port := { s.port with tx := s.port.tx.map fun e => { e with sending := false } } }) ∧
  (∀ (s : State) (e : TxEntry) (before after : List TxEntry), s.ctl.resetLow = false →
    s.port.tx = before ++ e :: after → e.sending = true → (∀ x ∈ before ++ after, x.sending = false) →
    exec .frameSent s = .next { s with port := { s.port with
      tx := before ++ after
      linkReported := if before ++ after = [] then false else s.port.linkReported } }) ∧
  (∀ s : State, s.ctl.resetLow = false → s.port.tx ≠ [] → s.port.linkReported = false →
    s.ctl.st.faultsPend = false →
    exec .link s = .next { s with port := { s.port with linkReported := true }, flt := s.flt.count .link }) ∧
  (∀ s : State, s.ctl.resetLow = false → s.port.tx ≠ [] → s.port.linkReported = false →
    s.ctl.st.faultsPend = true →
    exec .link s = .next { s with
      port := { s.port with linkReported := true }
      flt := (s.flt.count .link).pend
        { code := .link, original := none, involved := none, tag := none, last := false, position := none,
          sensor := none, worst := 0, ghost := false } }) ∧
  (∀ s : State, s.ctl.resetLow = false →
    exec .pageSyncPulseEnd s = .next { s with reg := { s.reg with pulse := false } })

/-- The chosen request is dispatched; STOP stops both channels, pushes a context record, broadcasts HALT and enters
JAMMED. FAULT_DISPATCH in a state in which faults pend takes the request of the PROMOTED code, or, with none
pending, the one of lowest rank, of equal ranks the lower code. Where it is PROMOTED, or is looked up, as itself or
as TABLE where its own entry is not found, with action STOP, and the stack holds fewer than 3 entries: it leaves the
pending set and the others stay, a substituted TABLE is counted, both channels are STOPPED at ramp index 0 with a
wanted direction applied, a STOP context record with the code, original code and state is on top of the stack,
restart needed is yes, and FAULT goes to ENGADDR when the entry reports or the code is PROMOTED. Outside JAMMED HALT
with the code goes to all stations unless it is HALTED, the station is in JAMMED with its hold set cleared, and each
waiting offer is answered DEFER with STATE; in JAMMED none of these (R56, R67, R80, R142 to R144, R147, R148).
Nothing else changes but the channels and timers. The model's choices: HALT is queued before GO (log entry 27), GO
before DEFER, entry by entry, UP1's DEFER before UP2's (log entry 40), no READY (log entry 11), and the period of a
STOPPED channel (log entry 46). -/
def Obligations.StopActionJamsTheStation : Prop :=
  (∀ (s : State) (q found : Request), s.ctl.resetLow = false → s.ctl.st.faultsPend = true → s.ctl.st ≠ .jammed →
    s.chooses q → s.flt.stack.length < 3 →
    ((q.code.code = s.promoted ∧ found = q) ∨ (s.looksUp q found ∧ s.dispAction found.code.code = .stop)) →
    s.quiet →
    exec .faultDispatch s = .next (settleDrive { s with
      ctl := { s.ctl with st := .jammed }
      port :=
        let told := s.deferAll .state (s.drive.hold.foldl (fun p e => p.postAll e.fwd (.go e.origin))
          (if found.code = .halted then s.port else s.port.post 63 (.halt found.code)))
        if q.code.code = s.promoted ∨ s.dispReport found.code.code = true then told.post s.engAddr (.fault found)
        else told
      drive := { s.drive with
        chA := { run := .stopped, ramp := 0, dir := s.drive.chA.want.getD s.drive.chA.dir, want := none, period := 0 }
        chB := { run := .stopped, ramp := 0, dir := s.drive.chB.want.getD s.drive.chB.dir, want := none, period := 0 }
        hold := [] }
      hand := { s.hand.deferringAll .state with waiting := none, holdTimer := .idle }
      reg := { s.reg with timer := .idle }
      sweep := { s.sweep with active := false }
      flt := { s.flt.taking q found with
        stack := { code := found.code, original := found.original, isStop := true, saved := s.ctl.st } ::
          s.flt.stack
        restartNeeded := true } })) ∧
  (∀ (s : State) (q found : Request), s.ctl.resetLow = false → s.ctl.st = .jammed → s.chooses q →
    s.flt.stack.length < 3 →
    ((q.code.code = s.promoted ∧ found = q) ∨ (s.looksUp q found ∧ s.dispAction found.code.code = .stop)) →
    s.quiet →
    exec .faultDispatch s = .next (settleDrive { s with
      port :=
        if q.code.code = s.promoted ∨ s.dispReport found.code.code = true then s.port.post s.engAddr (.fault found)
        else s.port
      drive := { s.drive with
        chA := { run := .stopped, ramp := 0, dir := s.drive.chA.want.getD s.drive.chA.dir, want := none, period := 0 }
        chB := { run := .stopped, ramp := 0, dir := s.drive.chB.want.getD s.drive.chB.dir, want := none, period := 0 }
        hold := s.drive.hold }
      flt := { s.flt.taking q found with
        stack := { code := found.code, original := found.original, isStop := true, saved := .jammed } ::
          s.flt.stack
        restartNeeded := true } }))

/-- The COUNT, SPOIL and HOLD dispositions: nothing but the report; the record spoiled and its set broken; PAUSING.
FAULT_DISPATCH where the request that R142 chooses is not PROMOTED and is looked up, as itself or as TABLE (then
counted) where its own entry is not found; it leaves the pending set and the others stay. COUNT: nothing more. SPOIL
at a TRANSPORT station, with an involved record that is no ghost and whose set is not listed: the record is SPOILED
if it is still in the queue, the records of its set, ghosts excepted, are BROKEN, the set joins the list as its
newest (the oldest of 8 leaving) and BROKEN goes to all stations; where the record has left, a later record of its
tag is not SPOILED. SPOIL of a ghost marks it SPOILED if it is still in the queue, and breaks no set. HOLD in
RUNNING with a record in the queue: a HOLD context record is pushed, the station is in PAUSING, and each waiting
offer is answered DEFER with STATE, or with HELD under a hold. In each FAULT goes to ENGADDR after that when the
entry reports (R20 to R22, R78, R80, R142 to R146). Nothing else changes but the channels and timers. The model's
choices: UP1's DEFER is queued before UP2's (log entry 40), and a request notes that its record has left (log entry
25). -/
def Obligations.CountSpoilAndHoldActions : Prop :=
  (∀ (s : State) (q found : Request), s.ctl.resetLow = false → s.ctl.st.faultsPend = true → s.chooses q →
    s.looksUp q found → s.dispAction found.code.code = .count → s.quiet →
    exec .faultDispatch s = .next (settleDrive { s with
      flt := s.flt.taking q found
      port := if s.dispReport found.code.code = true then s.port.post s.engAddr (.fault found) else s.port })) ∧
  (∀ (s : State) (q found : Request) (r : Record), s.ctl.resetLow = false → s.ctl.st.faultsPend = true →
    s.chooses q → s.looksUp q found → s.dispAction found.code.code = .spoil →
    s.role = .transport → q.involved = some r.tag → q.gone = false → q.ghost = false → r ∈ s.track.queue →
    r.marks.ghost = false →
    r.tag.set ∉ s.track.broken → (∀ x ∈ s.track.queue, x.image ≠ some .waiting) → s.ownHolds .imageWait = false →
    s.queueSound → s.quiet →
    exec .faultDispatch s = .next (settleDrive { s with
      flt := s.flt.taking q found
      port :=
        let told := s.port.post 63 (.broken r.tag.set)
        if s.dispReport found.code.code = true then told.post s.engAddr (.fault found) else told
      reg := { s.reg with images := s.reg.images.filter fun e => e.tag.set != r.tag.set }
      track := {
        broken := (if s.track.broken.length < 8 then s.track.broken else s.track.broken.drop 1) ++ [r.tag.set]
        queue := s.track.queue.map fun x =>
          if x.tag = r.tag then { x with marks := { x.marks with spoiled := true, broken := true } }
          else if x.tag.set = r.tag.set ∧ x.marks.ghost = false then
            { x with marks := { x.marks with broken := true } }
          else x } })) ∧
  (∀ (s : State) (q found : Request) (g : Tag), s.ctl.resetLow = false → s.ctl.st.faultsPend = true →
    s.chooses q → s.looksUp q found → s.dispAction found.code.code = .spoil →
    s.role = .transport → q.involved = some g → q.gone = true → q.ghost = false → g.set ∉ s.track.broken →
    (∀ x ∈ s.track.queue, x.image ≠ some .waiting) → s.ownHolds .imageWait = false → s.quiet →
    exec .faultDispatch s = .next (settleDrive { s with
      flt := s.flt.taking q found
      port :=
        let told := s.port.post 63 (.broken g.set)
        if s.dispReport found.code.code = true then told.post s.engAddr (.fault found) else told
      reg := { s.reg with images := s.reg.images.filter fun e => e.tag.set != g.set }
      track := {
        broken := (if s.track.broken.length < 8 then s.track.broken else s.track.broken.drop 1) ++ [g.set]
        queue := s.track.queue.map fun x =>
          if x.tag.set = g.set ∧ x.marks.ghost = false then { x with marks := { x.marks with broken := true } }
          else x } })) ∧
  (∀ (s : State) (q found : Request) (g : Tag), s.ctl.resetLow = false → s.ctl.st.faultsPend = true →
    s.chooses q → s.looksUp q found → s.dispAction found.code.code = .spoil →
    q.involved = some g → q.ghost = true → (∀ x ∈ s.track.queue, x.tag = g → x.marks.ghost = true) → s.quiet →
    exec .faultDispatch s = .next (settleDrive { s with
      flt := s.flt.taking q found
      port := if s.dispReport found.code.code = true then s.port.post s.engAddr (.fault found) else s.port
      track := { s.track with queue := s.track.queue.map fun x =>
        if x.tag = g ∧ q.gone = false then { x with marks := { x.marks with spoiled := true } } else x } })) ∧
  (∀ (s : State) (q found : Request), s.ctl.resetLow = false → s.ctl.st = .running → s.chooses q →
    s.looksUp q found → s.dispAction found.code.code = .hold →
    s.flt.stack.length < 3 → s.track.queue ≠ [] → s.quiet →
    let why : DeferReason := if s.drive.hold = [] then .state else .held
    exec .faultDispatch s = .next (settleDrive { s with
      ctl := { s.ctl with st := .pausing }
      port :=
        let told := s.deferAll why s.port
        if s.dispReport found.code.code = true then told.post s.engAddr (.fault found) else told
      hand := s.hand.deferringAll why
      flt := { s.flt.taking q found with
        stack := { code := found.code, original := found.original, isStop := false, saved := .running } ::
          s.flt.stack } }))

/-- A push onto a full stack, or a failed lookup of TABLE, enters LOCKDOWN. FAULT_DISPATCH of the request that R142
chooses: when it is PROMOTED, or its action, or TABLE's where TABLE is counted and substituted, is HOLD or STOP, and
the stack holds 3 entries, or when its code and TABLE are both not found (TABLE then being counted and substituted),
the station is in LOCKDOWN. Both channels are stopped at once, no request is pending, the hold set is cleared with
GO to the forwarded lists, then FAULT for the request goes to ENGADDR and HALT with its code to all stations; the
offer slots are empty, the sweep is over, the stack and restart needed stay (R67, R80, R142, R143, R150). Nothing
else changes but the channels and timers; FAULT_LAMP is active in the state entered. The model's choices: the order
GO, FAULT, HALT (log entry 27), the GO frames entry by entry in the order of adding (log entry 40), no READY (log
entry 11), and the period of a STOPPED channel (log entry 46). -/
def Obligations.LockdownIsEntered : Prop :=
  (∀ (s : State) (q found : Request), s.ctl.resetLow = false → s.ctl.st.faultsPend = true → s.chooses q →
    3 ≤ s.flt.stack.length →
    ((q.code.code = s.promoted ∧ found = q) ∨
      (s.looksUp q found ∧
        (s.dispAction found.code.code = .hold ∨ s.dispAction found.code.code = .stop))) → s.quiet →
    exec .faultDispatch s = .next (settleDrive { s with
      ctl := { s.ctl with st := .lockdown }
      port := ((s.drive.hold.foldl (fun p e => p.postAll e.fwd (.go e.origin)) s.port).post s.engAddr
        (.fault found)).post 63 (.halt found.code)
      drive := { s.drive with
        chA := { run := .stopped, ramp := 0, dir := s.drive.chA.want.getD s.drive.chA.dir, want := none, period := 0 }
        chB := { run := .stopped, ramp := 0, dir := s.drive.chB.want.getD s.drive.chB.dir, want := none, period := 0 }
        hold := [] }
      hand := { s.hand with slot1 := none, slot2 := none, waiting := none, holdTimer := .idle }
      reg := { s.reg with timer := .idle }
      sweep := { s.sweep with active := false }
      flt := { s.flt.taking q found with pending := [] } })) ∧
  (∀ (s : State) (q : Request), s.ctl.resetLow = false → s.ctl.st.faultsPend = true → s.chooses q →
    q.code.code ≠ s.promoted → ¬ s.listed q.code.code → ¬ s.listed 15 → s.quiet →
    exec .faultDispatch s = .next (settleDrive { s with
      ctl := { s.ctl with st := .lockdown }
      port := ((s.drive.hold.foldl (fun p e => p.postAll e.fwd (.go e.origin)) s.port).post s.engAddr
        (.fault { q with code := .table, original := some q.code })).post 63 (.halt .table)
      drive := { s.drive with
        chA := { run := .stopped, ramp := 0, dir := s.drive.chA.want.getD s.drive.chA.dir, want := none, period := 0 }
        chB := { run := .stopped, ramp := 0, dir := s.drive.chB.want.getD s.drive.chB.dir, want := none, period := 0 }
        hold := [] }
      hand := { s.hand with slot1 := none, slot2 := none, waiting := none, holdTimer := .idle }
      reg := { s.reg with timer := .idle }
      sweep := { s.sweep with active := false }
      flt := { s.flt.count .table with pending := [] } })) ∧
  (∀ s : State, s.ctl.st = .lockdown → s.faultLamp = true)

/-- A completed frame is tested in order: discarded with the counter of the test it fails, or held in the receive
buffer as the command it spells. With the port open, a completed frame given by its levels, in the order of the tests.
Six equal levels before its end field, the sixth in place of a bit inserted after the check among them, and a wrong
check, count a check error; the station's own frame, or one addressed neither to it nor to all, changes nothing; one
that finds two frames in the receive buffer counts an overrun; a class, kind and length that the table of R181 does
not list counts a check error, and so do sequence 0 or side 3 in OFFER and FEED, a side other than 1 and 2 in IMAGE
and SYNC, a DEFER reason above 3, and a selector above 4; any other SYNC or class 5 frame counts foreign; any other
frame joins the buffer as the command it spells. A frame of defined contents behind one that waits joins the buffer
too. With an empty buffer it counts foreign from a sender that R182 does not allow its kind, of a handoff kind in
UNCONFIGURED, and as CONFIGURE outside UNCONFIGURED and READY. Each counter saturates at 255; nothing else changes
(R160, R178, R180 to R182). The model's choices: which frames the command carries (log entry 9), when a frame waits in
the buffer and which are judged at once (log entry 10), that the levels of the end field are not tested (log entry
29), CONFIGURE in LOCKDOWN (log entry 16), and that no value but those R181 lists is undefined, a HALT code above 15
not either (log entry 21). -/
def Obligations.FrameErrorsAreCounted : Prop :=
  (∀ (pre post : List Bool) (b : Bool) (s : State), s.ctl.resetLow = false → s.ctl.st ≠ .selftest →
    pre.length ≤ 36 →
    exec (.frameError (pre ++ List.replicate 6 b ++ post)) s =
      .next { s with port := { s.port with checkErrors := min (s.port.checkErrors + 1) 255 } }) ∧
  (∀ (levels : List Bool) (s : State), s.ctl.resetLow = false → s.ctl.st ≠ .selftest →
    RxFrame.ofLevels levels = none →
    exec (.frameError levels) s =
      .next { s with port := { s.port with checkErrors := min (s.port.checkErrors + 1) 255 } }) ∧
  (∀ (levels : List Bool) (f : RxFrame) (s : State), s.ctl.resetLow = false → s.ctl.st ≠ .selftest →
    RxFrame.ofLevels levels = some f →
    f.check ≠ checkOf (fieldBits f.cls f.kind f.hdr f.payload) →
    exec (.frameError levels) s =
      .next { s with port := { s.port with checkErrors := min (s.port.checkErrors + 1) 255 } }) ∧
  (∀ (levels : List Bool) (f : RxFrame) (s : State), s.ctl.resetLow = false → s.ctl.st ≠ .selftest →
    RxFrame.ofLevels levels = some f →
    f.check = checkOf (fieldBits f.cls f.kind f.hdr f.payload) →
    (f.hdr.src.toNat = s.ctl.address ∨ (f.hdr.dst.toNat ≠ s.ctl.address ∧ f.hdr.dst.toNat ≠ 63)) →
    exec (.frameError levels) s = .next s) ∧
  (∀ (levels : List Bool) (f : RxFrame) (s : State), s.ctl.resetLow = false → s.ctl.st ≠ .selftest →
    RxFrame.ofLevels levels = some f →
    f.check = checkOf (fieldBits f.cls f.kind f.hdr f.payload) → f.hdr.src.toNat ≠ s.ctl.address →
    (f.hdr.dst.toNat = s.ctl.address ∨ f.hdr.dst.toNat = 63) → 2 ≤ s.port.rx.length →
    exec (.frameError levels) s =
      .next { s with port := { s.port with overruns := min (s.port.overruns + 1) 255 } }) ∧
  (∀ (levels : List Bool) (f : RxFrame) (s : State), s.ctl.resetLow = false → s.ctl.st ≠ .selftest →
    RxFrame.ofLevels levels = some f →
    f.check = checkOf (fieldBits f.cls f.kind f.hdr f.payload) → f.hdr.src.toNat ≠ s.ctl.address →
    (f.hdr.dst.toNat = s.ctl.address ∨ f.hdr.dst.toNat = 63) → s.port.rx.length < 2 →
    (f.cls.toNat, f.kind.toNat, f.payload.length) ∉
      [(0, 0, 1), (1, 0, 3), (1, 1, 3), (1, 2, 1), (1, 3, 1), (1, 4, 2), (2, 0, 7), (2, 1, 3), (2, 2, 4), (2, 3, 0),
       (3, 0, 1), (3, 0, 3), (3, 0, 5), (3, 0, 7), (3, 1, 0), (3, 2, 0), (3, 3, 0), (3, 4, 0), (3, 5, 0), (3, 6, 7),
       (3, 7, 4), (3, 8, 3), (3, 9, 1), (4, 0, 4), (5, 0, 7), (5, 1, 8), (5, 2, 8), (5, 3, 6), (5, 4, 6), (5, 5, 8),
       (5, 6, 4), (5, 7, 4), (5, 8, 3), (5, 9, 6)] →
    exec (.frameError levels) s =
      .next { s with port := { s.port with checkErrors := min (s.port.checkErrors + 1) 255 } }) ∧
  (∀ (levels : List Bool) (f : RxFrame) (s : State), s.ctl.resetLow = false → s.ctl.st ≠ .selftest →
    RxFrame.ofLevels levels = some f →
    f.check = checkOf (fieldBits f.cls f.kind f.hdr f.payload) → f.hdr.src.toNat ≠ s.ctl.address →
    (f.hdr.dst.toNat = s.ctl.address ∨ f.hdr.dst.toNat = 63) → s.port.rx.length < 2 →
    ((∃ a b c d m hi lo : Byte, f.payload = [a, b, c, d, m, hi, lo] ∧
        ((f.cls.toNat = 2 ∧ f.kind.toNat = 0) ∨ (f.cls.toNat = 3 ∧ f.kind.toNat = 6)) ∧
        (c.toNat % 64 = 0 ∨ d.toNat % 4 = 3)) ∨
      (∃ a b c x : Byte, f.payload = [a, b, c, x] ∧
        ((f.cls.toNat = 2 ∧ f.kind.toNat = 2 ∧ 3 < x.toNat) ∨
          (((f.cls.toNat = 3 ∧ f.kind.toNat = 7) ∨ (f.cls.toNat = 4 ∧ f.kind.toNat = 0)) ∧
            x.toNat ≠ 1 ∧ x.toNat ≠ 2))) ∨
      (∃ q : Byte, f.payload = [q] ∧ f.cls.toNat = 3 ∧ f.kind.toNat = 9 ∧ 4 < q.toNat % 8)) →
    exec (.frameError levels) s =
      .next { s with port := { s.port with checkErrors := min (s.port.checkErrors + 1) 255 } }) ∧
  (∀ (levels : List Bool) (f : RxFrame) (s : State), s.ctl.resetLow = false → s.ctl.st ≠ .selftest →
    RxFrame.ofLevels levels = some f →
    f.check = checkOf (fieldBits f.cls f.kind f.hdr f.payload) → f.hdr.src.toNat ≠ s.ctl.address →
    (f.hdr.dst.toNat = s.ctl.address ∨ f.hdr.dst.toNat = 63) → s.port.rx.length < 2 →
    ((f.cls.toNat = 5 ∧ (f.kind.toNat, f.payload.length) ∈
        [(0, 7), (1, 8), (2, 8), (3, 6), (4, 6), (5, 8), (6, 4), (7, 4), (8, 3), (9, 6)]) ∨
      (f.cls.toNat = 4 ∧ f.kind.toNat = 0 ∧
        ∃ a b c x : Byte, f.payload = [a, b, c, x] ∧ (x.toNat = 1 ∨ x.toNat = 2))) →
    exec (.frameError levels) s = .next { s with port := { s.port with foreign := min (s.port.foreign + 1) 255 } }) ∧
  (∀ (levels : List Bool) (f : RxFrame) (c : Instr) (s : State), s.ctl.resetLow = false → s.ctl.st ≠ .selftest →
    RxFrame.ofLevels levels = some f →
    f.check = checkOf (fieldBits f.cls f.kind f.hdr f.payload) → f.hdr.src.toNat ≠ s.ctl.address →
    (f.hdr.dst.toNat = s.ctl.address ∨ f.hdr.dst.toNat = 63) → s.port.rx.length < 2 →
    s.read f.cls.toNat f.kind.toNat f.hdr f.payload = .command c → sound c = true →
    exec (.frameError levels) s = .next { s with port := { s.port with rx := s.port.rx ++ [c] } }) ∧
  (∀ (c d : Instr) (h : Header) (s : State), s.ctl.resetLow = false → s.ctl.st ≠ .selftest →
    c.header? = some h → sound c = true →
    h.src.toNat ≠ s.ctl.address → (h.dst.toNat = s.ctl.address ∨ h.dst.toNat = 63) → s.port.rx = [d] →
    exec c s = .next { s with port := { s.port with rx := [d, c] } }) ∧
  (∀ (c : Instr) (h : Header) (s : State), c.header? = some h → sound c = true → s.hearsFrom h →
    (¬ s.maySend c ∨ (handoffKind c = true ∧ s.ctl.st = .unconfigured) ∨
      ((∃ i m v, c = .configure h i m v) ∧ s.ctl.st ≠ .unconfigured ∧ s.ctl.st ≠ .ready)) →
    exec c s = .next { s with port := { s.port with foreign := min (s.port.foreign + 1) 255 } }) ∧
  (∀ (cls : BitVec 3) (kind : BitVec 5) (h : Header) (payload : List Byte) (check : Half) (pre post : List Bool)
    (b : Bool) (s : State), s.ctl.resetLow = false → s.ctl.st ≠ .selftest → payload.length ≤ 8 →
    insertBits true 0 (false :: (fieldBits cls kind h payload ++ bitsOf check)) =
      pre ++ List.replicate 5 b ++ [!b] →
    exec (.frameError (pre ++ List.replicate 6 b ++ post)) s =
      .next { s with port := { s.port with checkErrors := min (s.port.checkErrors + 1) 255 } })

/-- HALT raises HALTED in the stepping states only; BROKEN lists its set and marks its records. A HALT heard from any
station in RUNNING, DRAINING, PAUSING or SWEEPING raises HALTED with no record; in another state that takes frames it
changes nothing (R149). A BROKEN heard in a state that takes frames, at a station that is not EXIT and holds no
WAITING record: a set already listed is left as it is, and another becomes the newest of the list (the oldest of 8
leaving), its records, ghosts excepted, are marked BROKEN, and the images of the set are forgotten; no frame is sent
(R20, R21, R113). At an INVERT station in RUNNING where these marks leave no LOOP record, an UP1 offer that waited
and that nothing else stops is taken in that event (R100). Nothing else changes but, after BROKEN, the channels and
timers. The model's choice: a HALT with a code above 15 is taken like any other, and either frame from source 0 or 63
too (log entry 21). The model's inference: the slots are examined as the event settles (log entry 8). -/
def Obligations.HaltAndBrokenAreHeard : Prop :=
  (∀ (h : Header) (code : Byte) (s : State), s.hearsFrom h → s.ctl.st ≠ .lockdown →
    exec (.halt h code) s = .next (if s.ctl.st.steps = true then { s with
        flt := (s.flt.count .halted).pend
          { code := .halted, original := none, involved := none, tag := none, last := false, position := none,
            sensor := none, worst := 0, ghost := false } } else s)) ∧
  (∀ (h : Header) (set : Half) (s : State), s.hearsFrom h → s.ctl.st ≠ .lockdown → s.role ≠ .exit →
    (∀ x ∈ s.track.queue, x.image ≠ some .waiting) → s.ownHolds .imageWait = false → s.quiet →
    (s.role = .invert → s.noOffers ∨
      ∀ x ∈ s.track.queue, x.isLoop = true → x.tag.set ≠ set.toNat ∨ x.route = some .alt) →
    exec (.broken h set) s = .next (settleDrive (if set.toNat ∈ s.track.broken then s else { s with
      reg := { s.reg with images := s.reg.images.filter fun e => e.tag.set != set.toNat }
      track := {
        broken := (if s.track.broken.length < 8 then s.track.broken else s.track.broken.drop 1) ++ [set.toNat]
        queue := s.track.queue.map fun x =>
          if x.tag.set = set.toNat ∧ x.marks.ghost = false then
            { x with marks := { x.marks with broken := true } }
          else x } }))) ∧
  (∀ (h : Header) (set : Half) (o : Offer) (s : State), s.hearsFrom h → s.ctl.st = .running → s.role = .invert →
    (∀ x ∈ s.track.queue, x.image ≠ some .waiting) → s.ownHolds .imageWait = false → s.quiet →
    set.toNat ∉ s.track.broken → (∃ x ∈ s.track.queue, x.isLoop = true) →
    (∀ x ∈ s.track.queue, x.isLoop = true → x.tag.set = set.toNat ∧ x.route = none) →
    s.hand.slot1 = some o → s.hand.slot2 = none → s.drive.hold = [] → s.track.queue.length < 8 →
    (∀ x ∈ s.track.queue, x.tag ≠ o.tag ∧ x.occupiesEntry = false) → o.marks.ghost = false →
    o.marks.broken = false → o.tag.set ≠ set.toNat → o.tag.set ∉ s.track.broken → o.speed = s.drive.speed →
    let u : State := { s with
      reg := { s.reg with images := s.reg.images.filter fun e => e.tag.set != set.toNat }
      track := {
        broken := (if s.track.broken.length < 8 then s.track.broken else s.track.broken.drop 1) ++ [set.toNat]
        queue := s.track.queue.map fun x =>
          if x.tag.set = set.toNat ∧ x.marks.ghost = false then
            { x with marks := { x.marks with broken := true } }
          else x } }
    exec (.broken h set) s = .next (settleDrive (u.tookUp1 o)))

/-- PASS makes the expected record ENTERING; ARRIVED notes the arrival of the passed one, or lets it leave the queue.
A PASS from the upstream an EXPECTED record is expected from, naming it, in a state that takes handoff frames and
with an empty hold set: the record is ENTERING at position 0 with odometer and reference 0, next sensor 0 and its
window. With no such record it raises OVERRUN with the tag in the stepping states and counts a stale frame in the
others (R83). An ARRIVED from the downstream of an EXITING record, naming it: its arrival is seen, where its trail
has not crossed the exit boundary; with no such record it counts a stale frame. Where the trail has crossed it, at a
FEED or TRANSPORT station, the record leaves the queue and the sensors, the pick, the given-up record and the pending
faults forget it (R14, R76), and last seen becomes yes where it is a ghost with the last flag (R176); READY then
goes, UP1 first, to each upstream deferred DUPLICATE whose duplicated tag no record and no offer in the other slot
carries any more, and its deferral ends (R82). Nothing else changes but the channels and timers. The model's choices:
READY to UP1 before UP2 (log entry 40), a tag with sequence 0 is taken as it is (log entry 21), and a request notes
that its record has left (log entry 25). -/
def Obligations.PassAndArrivedAreHeard : Prop :=
  (∀ (h : Header) (t : FrameTag) (r : Record) (s : State), s.hearsUpstream h → s.ctl.st ≠ .lockdown →
    s.ctl.st ≠ .unconfigured → s.queueSound → s.quiet → s.drive.hold = [] → r ∈ s.track.queue →
    r.tag = keyOf t → r.place = .expected → s.upstreamOf r.source = some h.src.toNat →
    exec (.pass h t) s = .next (settleDrive { s with track := { s.track with
      queue := s.track.queue.map fun x =>
        if x.tag = keyOf t then
          { x with
            place := .entering, lead := 0, odo := 0, ref := 0, next := some 0
            window := if x.marks.ghost then none else some (s.windowAt x.dir 0 0) }
        else x } })) ∧
  (∀ (h : Header) (t : FrameTag) (s : State), s.hearsUpstream h → s.ctl.st ≠ .lockdown →
    s.ctl.st ≠ .unconfigured →
    (∀ r ∈ s.track.queue, r.tag = keyOf t → r.place = .expected → s.upstreamOf r.source ≠ some h.src.toNat) →
    exec (.pass h t) s = .next (if s.ctl.st.steps = true then { s with
        flt := (s.flt.count .overrun).pend
          { code := .overrun, original := none, involved := none, tag := some (keyOf t), last := t.last,
            position := none, sensor := none, worst := 0, ghost := false } }
      else { s with port := { s.port with stale := min (s.port.stale + 1) 255 } })) ∧
  (∀ (h : Header) (t : FrameTag) (r : Record) (s : State), s.hearsDownstream h → s.ctl.st ≠ .lockdown →
    s.ctl.st ≠ .unconfigured → s.queueSound → s.quiet → r ∈ s.track.queue → r.tag = keyOf t →
    r.place = .exiting → s.downstream r = h.src.toNat → s.trailOut r = false →
    exec (.arrived h t) s = .next (settleDrive { s with track := { s.track with
      queue := s.track.queue.map fun x => if x.tag = keyOf t then { x with arrival := true } else x } })) ∧
  (∀ (h : Header) (t : FrameTag) (s : State), s.hearsDownstream h → s.ctl.st ≠ .lockdown →
    s.ctl.st ≠ .unconfigured →
    (∀ r ∈ s.track.queue, r.tag = keyOf t → r.place = .exiting → s.downstream r ≠ h.src.toNat) →
    exec (.arrived h t) s = .next { s with port := { s.port with stale := min (s.port.stale + 1) 255 } }) ∧
  (∀ (h : Header) (t : FrameTag) (r : Record) (s : State), s.hearsDownstream h → s.ctl.st ≠ .lockdown →
    s.ctl.st ≠ .unconfigured → s.queueSound → (s.role = .feed ∨ s.role = .transport) →
    (∀ x ∈ s.track.queue, x.offerOwed = false) → s.gate.move = .none → s.gate.list = [] → s.gate.occupant = none →
    s.inv.loop = none → s.ownHolds .imageWait = false → r ∈ s.track.queue → r.tag = keyOf t → r.place = .exiting →
    s.downstream r = h.src.toNat → s.trailOut r = true →
    let left := s.track.queue.filter fun x => decide (x.tag ≠ r.tag)
    let gone (other : Option Offer) (d : Option Deferral) : Bool := d.any fun x =>
      decide (x.reason = .duplicate ∧ (∀ y ∈ left, x.dup ≠ some y.tag) ∧ (∀ o ∈ other, x.dup ≠ some o.tag))
    exec (.arrived h t) s = .next (settleDrive { s with
      track := { s.track with queue := left }
      flt := s.flt.forgetting r.tag
      sens := { s.sens with
        sensors := s.sens.sensors.map fun q =>
          if q.owner = some r.tag then { q with owner := none, confirmed := false, stalled := false } else q }
      feed := { s.feed with pick := if s.feed.pick = some r.tag then none else s.feed.pick }
      sweep := if r.marks.ghost = true ∧ r.last = true then { s.sweep with lastSeen := true } else s.sweep
      hand := { s.hand with
        givenUp := if s.hand.givenUp = some r.tag then none else s.hand.givenUp
        deferred1 := if gone s.hand.slot2 s.hand.deferred1 then none else s.hand.deferred1
        deferred2 := if gone s.hand.slot1 s.hand.deferred2 then none else s.hand.deferred2 }
      port :=
        let told := if gone s.hand.slot2 s.hand.deferred1 then s.port.post s.up1 .ready else s.port
        if gone s.hand.slot1 s.hand.deferred2 then told.post s.up2 .ready else told }))

/-- HOLD adds an entry for its origin and goes on to the other sharing neighbours. A HOLD from a configured neighbour in
RUNNING, DRAINING, PAUSING or SWEEPING. With an origin that is not this station and not in the hold set, and a place
for it (at most 7 entries with the own one present, at most 6 without): the set gains an entry with that origin,
received from the sender and forwarded to the sharing neighbours but the sender, to whom HOLD with the origin is
queued. With no place it counts a stale frame. With its own address or a known origin, or in another state that
takes handoff frames, it changes nothing (R59, R63). Nothing else changes but the channels and timers. The model's
choices: the origin is taken as it is (log entry 21), and the neighbours are told and listed in queue order,
upstream before downstream (log entry 40). -/
def Obligations.HoldIsRecordedAndForwarded : Prop :=
  (∀ (h : Header) (o : Byte) (s : State), s.hearsNeighbour h → s.ctl.st.steps = true → s.quiet →
    o.toNat ≠ s.ctl.address → (∀ e ∈ s.drive.hold, e.origin ≠ o.toNat) →
    (s.drive.hold.length ≤ 6 ∨ (s.drive.hold.length ≤ 7 ∧ ∃ e ∈ s.drive.hold, e.origin = s.ctl.address)) →
    exec (.hold h o) s = .next (settleDrive { s with
      port := s.port.postAll (s.sharing.filter fun a => a != h.src.toNat) (.hold o.toNat)
      drive := { s.drive with
        hold := s.drive.hold ++
          [{ origin := o.toNat
             own := { handoffWait := false, imageWait := false, trayWait := false, loopWait := false }
             via := some h.src.toNat
             fwd := s.sharing.filter fun a => a != h.src.toNat }] } })) ∧
  (∀ (h : Header) (o : Byte) (s : State), s.hearsNeighbour h → s.ctl.st.steps = true →
    o.toNat ≠ s.ctl.address → (∀ e ∈ s.drive.hold, e.origin ≠ o.toNat) →
    ¬ (s.drive.hold.length ≤ 6 ∨ (s.drive.hold.length ≤ 7 ∧ ∃ e ∈ s.drive.hold, e.origin = s.ctl.address)) →
    exec (.hold h o) s = .next { s with port := { s.port with stale := min (s.port.stale + 1) 255 } }) ∧
  (∀ (h : Header) (o : Byte) (s : State), s.hearsNeighbour h → s.ctl.st ≠ .lockdown → s.ctl.st ≠ .unconfigured →
    (s.ctl.st.steps = false ∨ o.toNat = s.ctl.address ∨ ∃ e ∈ s.drive.hold, e.origin = o.toNat) →
    exec (.hold h o) s = .next s)

/-- GO takes the entry of its origin out of the hold set and goes on to the forwarded list. A GO from a configured
neighbour, whichever it is, in every state in which the port accepts handoff frames. With the station's own address
as origin, or an origin with no entry, it changes nothing. Otherwise the entry leaves the hold set and GO with that
origin is queued to each neighbour of its forwarded list. Nothing else changes but the channels and timers; only when
the set has become empty, READY then goes to each upstream whose deferral has the reason HELD, UP1 first, and that
deferral ends (R64, R66, R82). The model's choices: the origin is taken as it is (log entry 21), and READY to UP1
before UP2 (log entry 40). -/
def Obligations.GoReleasesItsEntry : Prop :=
  (∀ (h : Header) (o : Byte) (s : State), s.hearsNeighbour h → s.ctl.st ≠ .lockdown → s.ctl.st ≠ .unconfigured →
    (o.toNat = s.ctl.address ∨ ∀ e ∈ s.drive.hold, e.origin ≠ o.toNat) → exec (.go h o) s = .next s) ∧
  (∀ (h : Header) (o : Byte) (e : HoldEntry) (s : State), s.hearsNeighbour h → s.ctl.st ≠ .lockdown →
    s.ctl.st ≠ .unconfigured → s.holdSound → s.quiet → o.toNat ≠ s.ctl.address → e ∈ s.drive.hold →
    e.origin = o.toNat →
    let left := s.drive.hold.filter fun x => x.origin != o.toNat
    let due (d : Option Deferral) : Bool := decide (left = []) && d.any fun x => decide (x.reason = .held)
    exec (.go h o) s = .next (settleDrive { s with
      port :=
        let told := s.port.postAll e.fwd (.go o.toNat)
        let told1 := if due s.hand.deferred1 then told.post s.up1 .ready else told
        if due s.hand.deferred2 then told1.post s.up2 .ready else told1
      hand := { s.hand with
        deferred1 := if due s.hand.deferred1 then none else s.hand.deferred1
        deferred2 := if due s.hand.deferred2 then none else s.hand.deferred2 }
      drive := { s.drive with hold := left } }))

/-- The first own reason adds the own entry with HOLD, the last takes it away with GO. Adding an own reason while the
station has no own entry adds the entry with that reason alone and the sharing neighbours as its forwarded list, and
queues HOLD with the own address to each; where the hold set was empty both channels lose demand there: one that runs
up or at speed is in RAMP-DOWN, or STOPPED at ramp index 0. With no sharing neighbour the list is empty and nothing is
sent. Adding one to an own entry adds it to that entry's reasons and changes nothing else in the state. Removing the
last own reason takes the own entry out of the set and queues GO with the own address to each neighbour of its
forwarded list; removing one of several takes it out of the entry's reasons and changes nothing else in the state;
removing one not held changes nothing. When the set has become empty, READY then goes to each upstream whose deferral
has the reason HELD, UP1 first, and that deferral ends (R54, R61, R62, R66). The sharing neighbours, each once and
none 0, are the upstream of each record that is EXPECTED, ENTERING, or EXITING with its trail not across the entry
boundary, and the downstream of each EXITING one: DN2 for a REVERSE record at INVERT, DN1 for any other, whatever its
route (R60). The model's choice: the order in which the neighbours are told (log entry 40). -/
def Obligations.OwnReasonsComeAndGo : Prop :=
  (∀ (s : State) (r : OwnReason), s.holdEntry? s.ctl.address = none →
    let slowed (c : Chan) : Chan :=
      if s.drive.hold = [] ∧ (c.run = .rampUp ∨ c.run = .atSpeed) then
        { c with run := if c.ramp = 0 then .stopped else .rampDown }
      else c
    addReason r s = { s with
      port := s.port.postAll s.sharing (.hold s.ctl.address)
      drive := { s.drive with
        chA := slowed s.drive.chA
        chB := slowed s.drive.chB
        hold := s.drive.hold ++
          [{ origin := s.ctl.address
             own := { handoffWait := r = .handoffWait, imageWait := r = .imageWait, trayWait := r = .trayWait,
                      loopWait := r = .loopWait }
             via := none, fwd := s.sharing }] } }) ∧
  (∀ (s : State) (r : OwnReason), s.sharing = [] → (addReason r s).port = s.port) ∧
  (∀ (s : State) (r : OwnReason) (e : HoldEntry), s.holdSound → e ∈ s.drive.hold → e.origin = s.ctl.address →
    addReason r s = { s with drive := { s.drive with
      hold := s.drive.hold.map fun x =>
        if x.origin = s.ctl.address then { x with own :=
          { handoffWait := x.own.handoffWait || decide (r = .handoffWait)
            imageWait := x.own.imageWait || decide (r = .imageWait)
            trayWait := x.own.trayWait || decide (r = .trayWait)
            loopWait := x.own.loopWait || decide (r = .loopWait) } }
        else x } }) ∧
  (∀ (s : State) (r : OwnReason) (e : HoldEntry), s.holdSound → e ∈ s.drive.hold → e.origin = s.ctl.address →
    r.holdsIn e.own = true → (∀ r', r' ≠ r → r'.holdsIn e.own = false) →
    let left := s.drive.hold.filter fun x => x.origin != s.ctl.address
    let due (d : Option Deferral) : Bool := decide (left = []) && d.any fun x => decide (x.reason = .held)
    removeReason r s = { s with
      port :=
        let told := s.port.postAll e.fwd (.go s.ctl.address)
        let told1 := if due s.hand.deferred1 then told.post s.up1 .ready else told
        if due s.hand.deferred2 then told1.post s.up2 .ready else told1
      hand := { s.hand with
        deferred1 := if due s.hand.deferred1 then none else s.hand.deferred1
        deferred2 := if due s.hand.deferred2 then none else s.hand.deferred2 }
      drive := { s.drive with hold := left } }) ∧
  (∀ (s : State) (r r' : OwnReason) (e : HoldEntry), s.holdSound → e ∈ s.drive.hold → e.origin = s.ctl.address →
    r.holdsIn e.own = true → r' ≠ r → r'.holdsIn e.own = true →
    removeReason r s = { s with drive := { s.drive with
      hold := s.drive.hold.map fun x =>
        if x.origin = s.ctl.address then { x with own :=
          { handoffWait := x.own.handoffWait && decide (r ≠ .handoffWait)
            imageWait := x.own.imageWait && decide (r ≠ .imageWait)
            trayWait := x.own.trayWait && decide (r ≠ .trayWait)
            loopWait := x.own.loopWait && decide (r ≠ .loopWait) } }
        else x } }) ∧
  (∀ (s : State) (r : OwnReason), s.ownHolds r = false → removeReason r s = s) ∧
  (∀ s : State, s.sharing.Nodup ∧ ∀ a : Nat, a ∈ s.sharing ↔ a ≠ 0 ∧ ∃ r ∈ s.track.queue,
    ((r.place = .expected ∨ r.place = .entering ∨ (r.place = .exiting ∧ r.reached.entry = false)) ∧
      s.upstreamOf r.source = some a) ∨
    (r.place = .exiting ∧ a = if s.role = .invert ∧ r.dir = .reverse then s.dn2 else s.dn1))

/-- An OFFER that a lasting cause stops is answered DEFER, one that a temporary cause stops waits in its slot, one that
none stops is taken at once. A sound OFFER from an upstream. With a hold set that is not empty it is answered DEFER
with reason HELD, and in READY, PAUSING, PAUSED or JAMMED without a hold, and for a ghost in RUNNING or DRAINING
where the latest SWEEP was refused, with reason STATE: the slot is empty and the upstream is in the deferred-
upstream set with that reason. Else, in RUNNING, DRAINING and SWEEPING without a hold: where a record or the other
slot holds its set and sequence it is answered DEFER with DUPLICATE, and SEQUENCE is raised with its tag, no
position and no sensor, against the record that holds it if one does; else, in DRAINING outside the drain boundary,
DEFER with DRAIN; else, with 8 records in the queue, an occupied entry, or at INVERT a LOOP-bound offer and a LOOP
record present, it waits in its slot, in place of what was there, with no reply. In RUNNING, at a station that is
not INVERT, with an empty hold set, the other slot empty, room, a free entry, its tag not held, no GHOST or BROKEN
mark, its set not broken, and its speed the one in use or an empty queue: TAKE goes to the sender and the sheet is
EXPECTED at the tail, its length clamped to 1000 to 4500 (R12, R77 to R81, R93, R168). Nothing else changes but the
channels and timers. The model's choices: the last flag of SEQUENCE is the offer's (log entry 42); how long a
refused SWEEP is remembered, the place of its cause among those of R78, and the ghosts a SWEEPING station takes (log
entry 49). -/
def Obligations.OfferIsDeferredOrTaken : Prop :=
  (∀ (h : Header) (o : SheetFields) (s : State) (reason : DeferReason), s.hearsUpstream h → s.ctl.st ≠ .lockdown →
    s.ctl.st ≠ .unconfigured → o.tag.seq ≠ 0#6 → o.side ≠ 3#2 → s.quiet →
    ((s.drive.hold ≠ [] ∧ reason = .held) ∨
      (s.drive.hold = [] ∧ s.ctl.st ≠ .running ∧ s.ctl.st ≠ .draining ∧ s.ctl.st ≠ .sweeping ∧ reason = .state) ∨
      (s.drive.hold = [] ∧ (s.ctl.st = .running ∨ s.ctl.st = .draining) ∧ o.marks.getLsbD 2 = true ∧
        s.sweep.refused = true ∧ reason = .state)) →
    exec (.offer h o) s = .next (settleDrive { s with
      port := s.port.post h.src.toNat (.defer (keyOf o.tag) o.tag.last reason)
      hand :=
        if h.src.toNat = s.up1 then
          { s.hand with slot1 := none, deferred1 := some { reason := reason, dup := none } }
        else { s.hand with slot2 := none, deferred2 := some { reason := reason, dup := none } } })) ∧
  (∀ (h : Header) (f : SheetFields) (s : State), s.hearsUpstream h → s.ctl.st = .running → s.role ≠ .invert →
    f.tag.seq ≠ 0#6 → f.side ≠ 3#2 → s.drive.hold = [] → s.track.queue.length < 8 →
    (∀ r ∈ s.track.queue, r.tag ≠ keyOf f.tag ∧ r.occupiesEntry = false) → f.marks.getLsbD 2 = false →
    f.marks.getLsbD 0 = false → f.tag.set.toNat ∉ s.track.broken →
    (s.track.queue = [] ∨ f.speed.toNat = s.drive.speed) → s.quiet →
    (if h.src.toNat = s.up1 then s.hand.slot2 = none else s.hand.slot1 = none) →
    let o := { offerOf f with length := max 1000 (min f.length.toNat 4500) }
    let side : UpSide := if h.src.toNat = s.up1 then .up1 else .up2
    exec (.offer h f) s = .next (settleDrive { s with
      port := s.port.post h.src.toNat (.take o.tag o.last)
      hand := { s.hand with
        slot1 := none, slot2 := none, lastSide := some side, streak := 0
        setInProgress :=
          if o.side = .second then s.hand.setInProgress else if o.last then none else some o.tag.set }
      drive := { s.drive with speed := o.speed }
      track := { s.track with queue := s.track.queue ++
        [{ tag := o.tag, last := o.last, side := o.side, length := o.length, speed := o.speed, marks := o.marks,
           place := .expected, source := side.source, route := none, stage := .notOffered, arrival := false,
           dir := .forward, lead := 0, odo := 0, ref := 0, next := none, worst := 0, image := none, retries := 0,
           window := none, reached := Reached.none, offerOwed := false }] } })) ∧
  (∀ (h : Header) (f : SheetFields) (r : Record) (s : State), s.hearsUpstream h →
    (s.ctl.st = .running ∨ s.ctl.st = .draining ∨ s.ctl.st = .sweeping) → s.drive.hold = [] →
    (f.marks.getLsbD 2 = true → s.sweep.refused = true → s.ctl.st = .sweeping) →
    f.tag.seq ≠ 0#6 → f.side ≠ 3#2 →
    s.quiet → s.queueSound → r ∈ s.track.queue → r.tag = keyOf f.tag →
    exec (.offer h f) s = .next (settleDrive { s with
      port := s.port.post h.src.toNat (.defer r.tag f.tag.last .duplicate)
      hand :=
        if h.src.toNat = s.up1 then
          { s.hand with slot1 := none, deferred1 := some { reason := .duplicate, dup := some r.tag } }
        else { s.hand with slot2 := none, deferred2 := some { reason := .duplicate, dup := some r.tag } }
      flt := (s.flt.count .sequence).pend
        { code := .sequence, original := none, involved := some r.tag, tag := some r.tag, last := f.tag.last,
          position := none, sensor := none, worst := r.worst, ghost := r.marks.ghost } })) ∧
  (∀ (h : Header) (f : SheetFields) (o : Offer) (s : State), s.hearsUpstream h →
    (s.ctl.st = .running ∨ s.ctl.st = .draining ∨ s.ctl.st = .sweeping) → s.drive.hold = [] →
    (f.marks.getLsbD 2 = true → s.sweep.refused = true → s.ctl.st = .sweeping) →
    f.tag.seq ≠ 0#6 → f.side ≠ 3#2 →
    s.quiet → (∀ r ∈ s.track.queue, r.tag ≠ keyOf f.tag) → o.tag = keyOf f.tag →
    (if h.src.toNat = s.up1 then s.hand.slot2 = some o else s.hand.slot1 = some o) →
    exec (.offer h f) s = .next (settleDrive { s with
      port := s.port.post h.src.toNat (.defer o.tag f.tag.last .duplicate)
      hand :=
        if h.src.toNat = s.up1 then
          { s.hand with slot1 := none, deferred1 := some { reason := .duplicate, dup := some o.tag } }
        else { s.hand with slot2 := none, deferred2 := some { reason := .duplicate, dup := some o.tag } }
      flt := (s.flt.count .sequence).pend
        { code := .sequence, original := none, involved := none, tag := some o.tag, last := f.tag.last,
          position := none, sensor := none, worst := 0, ghost := false } })) ∧
  (∀ (h : Header) (f : SheetFields) (s : State), s.hearsUpstream h → s.ctl.st = .draining → s.drive.hold = [] →
    (f.marks.getLsbD 2 = false ∨ s.sweep.refused = false) →
    f.tag.seq ≠ 0#6 → f.side ≠ 3#2 → s.quiet → (∀ r ∈ s.track.queue, r.tag ≠ keyOf f.tag) →
    (∀ o ∈ (if h.src.toNat = s.up1 then s.hand.slot2 else s.hand.slot1), o.tag ≠ keyOf f.tag) →
    (offerOf f).side ≠ .second →
    (s.drainSheet = true ∨ s.hand.setInProgress ≠ some f.tag.set.toNat ∨ f.tag.seq.toNat ≤ 1) →
    exec (.offer h f) s = .next (settleDrive { s with
      port := s.port.post h.src.toNat (.defer (keyOf f.tag) f.tag.last .drain)
      hand :=
        if h.src.toNat = s.up1 then
          { s.hand with slot1 := none, deferred1 := some { reason := .drain, dup := none } }
        else { s.hand with slot2 := none, deferred2 := some { reason := .drain, dup := none } } })) ∧
  (∀ (h : Header) (f : SheetFields) (s : State), s.hearsUpstream h →
    (s.ctl.st = .running ∨ s.ctl.st = .draining ∨ s.ctl.st = .sweeping) → s.drive.hold = [] →
    (f.marks.getLsbD 2 = true → s.sweep.refused = true → s.ctl.st = .sweeping) →
    f.tag.seq ≠ 0#6 → f.side ≠ 3#2 →
    s.quiet → (∀ r ∈ s.track.queue, r.tag ≠ keyOf f.tag) →
    (∀ o ∈ (if h.src.toNat = s.up1 then s.hand.slot2 else s.hand.slot1), o.tag ≠ keyOf f.tag) →
    (s.ctl.st = .draining → (offerOf f).side = .second ∨
      (s.drainSheet = false ∧ s.hand.setInProgress = some f.tag.set.toNat ∧ 1 < f.tag.seq.toNat)) →
    (8 ≤ s.track.queue.length ∨ (∃ r ∈ s.track.queue, r.occupiesEntry = true) ∨
      (s.role = .invert ∧ (offerOf f).side = .first ∧ f.marks.getLsbD 0 = false ∧ f.marks.getLsbD 1 = false ∧
        f.marks.getLsbD 2 = false ∧ f.tag.set.toNat ∉ s.track.broken ∧ ∃ r ∈ s.track.queue, r.isLoop = true)) →
    let o := { offerOf f with length := max 1000 (min f.length.toNat 4500) }
    exec (.offer h f) s = .next (settleDrive { s with
      hand :=
        if h.src.toNat = s.up1 then { s.hand with slot1 := some o } else { s.hand with slot2 := some o } }))

/-- TAKE makes the offered record TAKEN, DEFER DEFERRED, and READY brings the oldest deferred record a new OFFER. From
a downstream, in a state that takes handoff frames. With no OFFER owed, TAKE naming an OFFERED or DEFERRED record of
that downstream, not given up, and not at its exit boundary in a stepping state: its exit stage is TAKEN by the
sender; for the loop record the return wait timer is idle, and RETURN WAIT becomes RETURNING. When it is the waiting
record there is none from then on, the hold wait timer is idle, and HANDOFF_WAIT is removed from the own entry, with
all that this removal does (OwnReasonsComeAndGo). When it is not the waiting record, but the only record and at its
exit boundary in a stepping state without a hold, PASS is queued and it is EXITING. A TAKE for no such record, or for
a given-up one, counts a stale frame (R71, R73, R104, R105). DEFER makes an OFFERED record of that downstream
DEFERRED; one that names no such record counts a stale frame. READY in a stepping state queues an OFFER with the
fields of the oldest record DEFERRED by that downstream and makes it OFFERED; the later ones are owed theirs; READY
with no record DEFERRED by that downstream, or in another state, changes nothing (R70). Nothing else changes but what
that removal does and, after TAKE, the channels and timers. The model's inference: READY brings the oldest its OFFER
without postponement (log entry 23), a tag with sequence 0 is taken as it is (log entry 21), and TAKEN keeps whose
TAKE it was (log entry 54). -/
def Obligations.TakeDeferAndReadyAreHeard : Prop :=
  (∀ (h : Header) (t : FrameTag) (r : Record) (s : State), s.hearsDownstream h → s.ctl.st ≠ .lockdown →
    s.ctl.st ≠ .unconfigured → s.queueSound → s.quiet → r ∈ s.track.queue → r.tag = keyOf t →
    s.downstream r = h.src.toNat → (r.stage = .offered ∨ r.stage = .deferred) → s.hand.givenUp ≠ some r.tag →
    (s.inv.loop = some r.tag → s.inv.givenUp = false) → s.hand.waiting ≠ some r.tag →
    (r.atBoundary = false ∨ s.ctl.st.steps = false) →
    exec (.take h t) s = .next (settleDrive { s with
      inv := if s.inv.loop = some r.tag then
          { s.inv with timer := .idle, seq := if s.inv.seq = .returnWait then .returning else s.inv.seq }
        else s.inv
      track := { s.track with
        queue := s.track.queue.map fun x =>
          if x.tag = keyOf t then { x with stage := .taken h.src.toNat } else x } })) ∧
  (∀ (h : Header) (t : FrameTag) (r : Record) (s : State), s.hearsDownstream h → s.ctl.st ≠ .lockdown →
    s.ctl.st ≠ .unconfigured → s.queueSound → s.quiet → r ∈ s.track.queue → r.tag = keyOf t →
    s.downstream r = h.src.toNat → (r.stage = .offered ∨ r.stage = .deferred) → s.hand.givenUp ≠ some r.tag →
    (s.inv.loop = some r.tag → s.inv.givenUp = false) → s.hand.waiting = some r.tag →
    (r.atBoundary = false ∨ s.ctl.st.steps = false) →
    let v := removeReason .handoffWait { s with
      hand := { s.hand with waiting := none, holdTimer := .idle }
      track := { s.track with
        queue := s.track.queue.map fun x =>
          if x.tag = keyOf t then { x with stage := .taken h.src.toNat } else x } }
    exec (.take h t) s = .next (settleDrive { v with
      inv := if s.inv.loop = some r.tag then
          { s.inv with timer := .idle, seq := if s.inv.seq = .returnWait then .returning else s.inv.seq }
        else s.inv })) ∧
  (∀ (h : Header) (t : FrameTag) (r : Record) (s : State), s.hearsDownstream h → s.ctl.st.steps = true →
    s.quiet → s.track.queue = [r] → r.tag = keyOf t → s.drive.hold = [] → s.inv.loop = none →
    s.downstream r = h.src.toNat → (r.stage = .offered ∨ r.stage = .deferred) → s.hand.givenUp ≠ some r.tag →
    s.hand.waiting ≠ some r.tag → r.atBoundary = true →
    exec (.take h t) s = .next (settleDrive { s with
      port := s.port.post h.src.toNat (.pass r.tag r.last)
      track := { s.track with queue := [{ r with stage := .taken h.src.toNat, place := .exiting }] } })) ∧
  (∀ (h : Header) (t : FrameTag) (s : State), s.hearsDownstream h → s.ctl.st ≠ .lockdown → s.ctl.st ≠ .unconfigured →
    ((∀ r ∈ s.track.queue, r.tag = keyOf t → s.downstream r = h.src.toNat → r.stage ≠ .offered ∧ r.stage ≠ .deferred) ∨
      s.hand.givenUp = some (keyOf t) ∨ (s.inv.givenUp = true ∧ s.inv.loop = some (keyOf t))) →
    exec (.take h t) s = .next { s with port := { s.port with stale := min (s.port.stale + 1) 255 } }) ∧
  (∀ (h : Header) (t : FrameTag) (reason : Byte) (r : Record) (s : State), s.hearsDownstream h →
    s.ctl.st ≠ .lockdown → s.ctl.st ≠ .unconfigured → reason.toNat ≤ 3 → s.queueSound → r ∈ s.track.queue →
    r.tag = keyOf t → s.downstream r = h.src.toNat →
    exec (.defer h t reason) s = .next (if r.stage = .offered then { s with track := { s.track with
        queue := s.track.queue.map fun x => if x.tag = keyOf t then { x with stage := .deferred } else x } }
      else { s with port := { s.port with stale := min (s.port.stale + 1) 255 } })) ∧
  (∀ (h : Header) (r : Record) (s : State), s.hearsDownstream h → s.ctl.st.steps = true → s.queueSound →
    s.track.queue.find? (fun x => decide (s.downstream x = h.src.toNat) && decide (x.stage = .deferred)) = some r →
    exec (.ready h) s = .next { s with
      port := s.port.post h.src.toNat
        (.offer
          { tag := r.tag, last := r.last, side := r.side, speed := r.speed, marks := r.marks, length := r.length })
      track := { s.track with
        queue := s.track.queue.map fun x =>
          if x.tag = r.tag then { x with stage := .offered, offerOwed := false }
          else if s.downstream x = h.src.toNat ∧ x.stage = .deferred then { x with offerOwed := true }
          else x } }) ∧
  (∀ (h : Header) (t : FrameTag) (reason : Byte) (s : State), s.hearsDownstream h → s.ctl.st ≠ .lockdown →
    s.ctl.st ≠ .unconfigured → reason.toNat ≤ 3 →
    (∀ r ∈ s.track.queue, r.tag = keyOf t → s.downstream r = h.src.toNat → r.stage ≠ .offered) →
    exec (.defer h t reason) s = .next { s with port := { s.port with stale := min (s.port.stale + 1) 255 } }) ∧
  (∀ (h : Header) (s : State), s.hearsDownstream h → s.ctl.st ≠ .lockdown → s.ctl.st ≠ .unconfigured →
    (s.ctl.st.steps = false ∨ ∀ r ∈ s.track.queue, s.downstream r = h.src.toNat → r.stage ≠ .deferred) →
    exec (.ready h) s = .next s)

/-- CONFIGURE writes each value clamped into its range, and its end mark runs the commit check, test by test. From
ENGADDR in UNCONFIGURED or READY. One value for an index below 92: the parameter becomes the value clamped into the
range of R189, the CONFIGURE index the next, and a clamped value is counted. SCOUNT brings the sensors it adds into
use afresh, covered as their inputs read. CCAP at an EXIT station without operation, not above the count, becomes
the count + 1 and is counted. A DISP or LINE value is written with its unnamed bits 0 and not counted; where a value
makes the SUPPLY_EMPTY function inactive the supply report is cleared, and where no line has the function PAGE_SYNC
any more the pulse ends. An index of 92 or more is counted and written nowhere. Several values are written one after
the other, index 127 going on at the CONFIGURE index; the end mark runs the commit check after the values. The check
answers the first failing test of R188, in its order. Without one the station is READY, leaving UNCONFIGURED ends
the hold and image waits, and the derived points are computed; with one it is UNCONFIGURED. STATUS goes to ENGADDR
with reason NONE, or CONFIG and the failing index (R16, R58, R121, R160, R164, R187 to R189). The model's choices: a
value for no parameter leaves the CONFIGURE index, and so does a frame without values (log entry 16); one flag
stands for the pulse of every PAGE_SYNC line, so it ends with the last of them, where R121 speaks of each line (log
entry 31); a line whose polarity alone changes counts like one taken from its function (log entry 52). -/
def Obligations.ConfigureWritesAndCommits : Prop :=
  (∀ (h : Header) (i : BitVec 7) (v : Half) (s : State), s.hearsEngine h →
    (s.ctl.st = .unconfigured ∨ s.ctl.st = .ready) → i.toNat < 92 → i.toNat ≠ 5 → i.toNat ≠ 64 →
    ¬ (70 ≤ i.toNat ∧ i.toNat ≤ 85) → ¬ (88 ≤ i.toNat) →
    let w := max (paramRange i.toNat).1 (min v.toNat (paramRange i.toNat).2)
    exec (.configure h i false [v]) s = .next { s with cfg := { s.cfg with
      params := s.cfg.params.set i.toNat w
      index := i.toNat + 1
      clamps := if w = v.toNat then s.cfg.clamps else min (s.cfg.clamps + 1) 255 } }) ∧
  (∀ (h : Header) (i : BitVec 7) (v : Half) (s : State), s.hearsEngine h →
    (s.ctl.st = .unconfigured ∨ s.ctl.st = .ready) → 70 ≤ i.toNat → i.toNat ≤ 85 →
    exec (.configure h i false [v]) s = .next { s with cfg := { s.cfg with
      params := s.cfg.params.set i.toNat
        ((v.toNat / 32768 % 2) * 32768 + (v.toNat / 16 % 64) * 16 + v.toNat % 2)
      index := i.toNat + 1 } }) ∧
  (∀ (h : Header) (i : BitVec 7) (v : Half) (s : State), s.hearsEngine h →
    (s.ctl.st = .unconfigured ∨ s.ctl.st = .ready) → 92 ≤ i.toNat → i.toNat ≠ 127 →
    exec (.configure h i false [v]) s =
      .next { s with cfg := { s.cfg with clamps := min (s.cfg.clamps + 1) 255 } }) ∧
  (∀ (h : Header) (i : BitVec 7) (s : State), s.hearsEngine h → (s.ctl.st = .unconfigured ∨ s.ctl.st = .ready) →
    s.drive.hold = [] → s.commitCheck = none →
    ∃ t : State, exec (.configure h i true []) s = .next t ∧
      t = { s with
        ctl := { s.ctl with st := .ready }
        cfg := { s.cfg with
          stopDistance := t.cfg.stopDistance, stopPoint := t.cfg.stopPoint, compileStop := t.cfg.compileStop
          returnStop := t.cfg.returnStop }
        hand := { s.hand with waiting := t.hand.waiting, holdTimer := t.hand.holdTimer }
        reg := { s.reg with timer := t.reg.timer }
        port := s.port.post s.engAddr (.status
          { state := .ready, reason := .none, failing := none, queueCount := s.track.queue.length,
            depth := s.flt.stack.length, top := s.flt.stack.head?.map Context.code
            holdCount := 0 }) } ∧
      256 * t.cfg.stopDistance < s.rampLen .a * s.stepLen .a + 256 ∧
      s.rampLen .a * s.stepLen .a ≤ 256 * t.cfg.stopDistance ∧
      t.cfg.stopPoint = s.exitX - s.holdM - t.cfg.stopDistance ∧
      (∀ k, s.role = .exit → s.compileSensor = some k →
        t.cfg.compileStop = s.spos k - s.holdM - t.cfg.stopDistance) ∧
      (s.role = .invert → ∃ d : Nat, 256 * d < s.rampLen .b * s.stepLen .b + 256 ∧
        s.rampLen .b * s.stepLen .b ≤ 256 * d ∧ t.cfg.returnStop = min (s.aExit + s.holdM + d) 65535) ∧
      (s.role ≠ .exit → t.cfg.compileStop = s.cfg.compileStop) ∧
      (s.role ≠ .invert → t.cfg.returnStop = s.cfg.returnStop) ∧
      (s.ctl.st = .ready → t.hand = s.hand ∧ t.reg = s.reg) ∧
      (s.ctl.st = .unconfigured → t.hand.waiting = none ∧ t.hand.holdTimer = .idle ∧ t.reg.timer = .idle)) ∧
  (∀ (h : Header) (i : BitVec 7) (k : Nat) (s : State), s.hearsEngine h →
    (s.ctl.st = .unconfigured ∨ s.ctl.st = .ready) → s.commitCheck = some k →
    exec (.configure h i true []) s = .next { s with
      ctl := { s.ctl with st := .unconfigured }
      port := s.port.post s.engAddr (.status
          { state := .unconfigured, reason := .config, failing := some k, queueCount := s.track.queue.length,
            depth := s.flt.stack.length, top := s.flt.stack.head?.map Context.code
            holdCount := s.drive.hold.length }) }) ∧
  (∀ (h : Header) (v : Half) (s : State), s.hearsEngine h → (s.ctl.st = .unconfigured ∨ s.ctl.st = .ready) →
    let w := max 1 (min v.toNat 6)
    exec (.configure h 5 false [v]) s = .next { s with
      cfg := { s.cfg with
        params := s.cfg.params.set 5 w, index := 6
        clamps := if w = v.toNat then s.cfg.clamps else min (s.cfg.clamps + 1) 255 }
      sens := { s.sens with sensors := s.sens.sensors.mapIdx fun k q =>
        if s.scount ≤ k ∧ k < (s.cfg.params.set 5 w).getD 5 0 then
          { covered := s.pins.sensors.getLsbD k, owner := none, confirmed := false, stalled := false, latch := 0,
             uncovered := 65535 * 256 }
        else q } }) ∧
  (∀ (h : Header) (v : Half) (s : State), s.hearsEngine h → (s.ctl.st = .unconfigured ∨ s.ctl.st = .ready) →
    let w := max 1 (min v.toNat 63)
    let raised : Bool := decide (s.role = .exit ∧ s.comp.op = .none ∧ w ≤ s.comp.count)
    exec (.configure h 64 false [v]) s = .next { s with cfg := { s.cfg with
      params := s.cfg.params.set 64 (if raised then s.comp.count + 1 else w), index := 65
      clamps := if raised = false ∧ w = v.toNat then s.cfg.clamps else min (s.cfg.clamps + 1) 255 } }) ∧
  (∀ (h : Header) (i : BitVec 7) (v : Half) (s : State), s.hearsEngine h →
    (s.ctl.st = .unconfigured ∨ s.ctl.st = .ready) → 88 ≤ i.toNat → i.toNat ≤ 91 →
    s.comp.op ≠ .ejecting .binWait → s.comp.op ≠ .dumping .binWait →
    let u := { s with cfg := { s.cfg with
      params := s.cfg.params.set i.toNat ((v.toNat / 256 % 2) * 256 + v.toNat % 8), index := i.toNat + 1 } }
    exec (.configure h i false [v]) s = .next { u with
      feed := if s.functionActive .supplyEmpty = true ∧ u.functionActive .supplyEmpty = false then
          { s.feed with supplyReported := false }
        else s.feed
      reg := { s.reg with
        pulse := s.reg.pulse && [0, 1, 2, 3].any fun n => decide (u.lineFunction n = .pageSync) } }) ∧
  (∀ (h : Header) (i : BitVec 7) (v : Half) (vs : List Half) (s t : State), s.hearsEngine h →
    (s.ctl.st = .unconfigured ∨ s.ctl.st = .ready) → i.toNat < 92 → vs.length ≤ 2 →
    exec (.configure h i false [v]) s = .next t → t.hearsEngine h →
    exec (.configure h i false (v :: vs)) s = exec (.configure h 127 false vs) t) ∧
  (∀ (h : Header) (m : Bool) (vs : List Half) (s : State), s.port.rx = [] → s.cfg.index < 127 →
    exec (.configure h 127 m vs) s = exec (.configure h (BitVec.ofNat 7 s.cfg.index) m vs) s) ∧
  (∀ (h : Header) (i : BitVec 7) (vs : List Half) (s t : State), s.hearsEngine h →
    (s.ctl.st = .unconfigured ∨ s.ctl.st = .ready) → vs.length ≤ 3 → exec (.configure h i false vs) s = .next t →
    t.hearsEngine h →
    exec (.configure h i true vs) s = exec (.configure h 127 true []) t) ∧
  (∀ s : State,
    let stop := (s.rampLen .a * s.stepLen .a + 255) / 256
    let lacks (kind : Nat) : Bool := decide (∀ k < s.scount, s.skind k ≠ kind)
    s.commitCheck =
      (([(decide (s.sbranch 0 ≠ 0), 12)] ++
        (List.range s.scount).map (fun k =>
          ((List.range k).any fun j => decide (s.sbranch j = s.sbranch k ∧ s.spos k < s.spos j), 6 + k)) ++
        [((List.range s.scount).any fun k => decide (s.sbranch k ≠ 2 ∧ s.exitX < s.spos k), 30),
         (decide (65535 < s.exitX + 4500 ∨ 65535 < s.exitX + s.arrD), 34),
         (decide (s.exitX < s.holdM + stop), 30),
         (decide (s.role = Role.register) && lacks 2, 18),
         (decide (s.role = Role.invert) && (lacks 1 || lacks 3), 18),
         (decide (s.role = Role.invert ∧ s.dn2 = 0), 4),
         (decide (s.role = Role.invert ∧ s.aExit < 4600), 31),
         (decide (s.role = Role.exit) && (lacks 1 || lacks 4), 18)]).find? Prod.fst).map Prod.snd) ∧
  ((List.range 92).map paramRange =
    [(1, 62), (0, 62), (0, 62), (0, 62), (0, 62), (1, 6)] ++ List.replicate 6 (0, 61035) ++
    List.replicate 6 (0, 2) ++ List.replicate 6 (0, 4) ++ List.replicate 6 (0, 1) ++
    [(0, 61035), (0, 61035), (0, 2000), (0, 500), (0, 4000), (16, 4095), (16, 4095), (0, 3), (0, 3)] ++
    List.replicate 10 (16, 65535) ++ List.replicate 6 (0, 255) ++ [(0, 2000), (0, 255)] ++
    List.replicate 4 (1, 255) ++
    [(0, 2000), (0, 2000), (0, 1000), (1, 63), (0, 1), (1, 15), (0, 1), (0, 1000), (0, 3)] ++
    List.replicate 16 (0, 65535) ++ [(1, 16), (0, 16)] ++ List.replicate 4 (0, 65535))

/-- START runs a READY station, DRAIN drains a RUNNING or SWEEPING one, and both are answered by STATUS with their
reason. From ENGADDR. START in READY: with no sensor in use failed or covered, INTERLOCK and PAUSE inactive, the
station is RUNNING and STATUS carries NONE; a failed sensor in use refuses it with SENSOR_FAILED, and otherwise a
covered sensor, INTERLOCK or PAUSE with NOT_CLEAR. In DRAINING it is RUNNING again unless PAUSE is active
(NOT_CLEAR); in any other state it is refused with STATE. DRAIN in RUNNING: DRAINING and STATUS with NONE; in
SWEEPING drain asked is yes, launching stops and STATUS carries NONE, and where the sweep is active, the queue
empty, no pick in progress and both channels stand, the sweep ends before that STATUS: SWEEPREPORT, READY with the
hold set cleared, each waiting offer deferred STATE; in any other state refused with STATE. READY goes, UP1 first,
to each upstream deferred for what the state entered ends (STATE and DRAIN in RUNNING, STATE in DRAINING), and its
deferral ends. Where no offer and no order waits nothing more changes. An UP1 offer outside the drain boundary, and
no ghost after a refused SWEEP, is answered DEFER with DRAIN when DRAIN is taken, and a FEED station whose
conditions of a pick are met picks its head order in the event of START. A refusal changes nothing but the transmit
queue (R67, R78, R80, R82, R87, R161 to R163, R176, R177). The model's choices: READY before DEFER, the pick and
STATUS, UP1's first, and SWEEPREPORT, GO, DEFER in this order (log entry 40); clearing the hold set sends no READY
(log entry 11). -/
def Obligations.StartAndDrainAreAnswered : Prop :=
  (∀ (h : Header) (s : State), s.hearsEngine h → s.ctl.st = .ready → s.quiet → s.nothingWaits →
    (∀ k < s.scount, s.sens.failed.getLsbD k = false) →
    ((∀ k < s.scount, (s.sensor k).covered = false) ∧ s.functionActive .interlock = false ∧
      s.functionActive .pause = false) →
    exec (.start h) s = .next (settleDrive { s with
      ctl := { s.ctl with st := .running }
      hand := s.hand.readied [.state, .drain]
      port := (s.tellReady [.state, .drain] s.port).post s.engAddr (.status
          { state := .running, reason := .none, failing := none, queueCount := s.track.queue.length,
            depth := s.flt.stack.length, top := s.flt.stack.head?.map Context.code
            holdCount := s.drive.hold.length }) })) ∧
  (∀ (h : Header) (s : State), s.hearsEngine h → s.ctl.st = .ready →
    (∃ k < s.scount, s.sens.failed.getLsbD k = true) →
    exec (.start h) s = .next { s with port := s.port.post s.engAddr (.status
          { state := s.ctl.st, reason := .sensorFailed, failing := none, queueCount := s.track.queue.length,
            depth := s.flt.stack.length, top := s.flt.stack.head?.map Context.code
            holdCount := s.drive.hold.length }) }) ∧
  (∀ (h : Header) (s : State), s.hearsEngine h → s.ctl.st = .ready →
    (∀ k < s.scount, s.sens.failed.getLsbD k = false) →
    ¬ ((∀ k < s.scount, (s.sensor k).covered = false) ∧ s.functionActive .interlock = false ∧
      s.functionActive .pause = false) →
    exec (.start h) s = .next { s with port := s.port.post s.engAddr (.status
          { state := s.ctl.st, reason := .notClear, failing := none, queueCount := s.track.queue.length,
            depth := s.flt.stack.length, top := s.flt.stack.head?.map Context.code
            holdCount := s.drive.hold.length }) }) ∧
  (∀ (h : Header) (s : State), s.hearsEngine h → s.ctl.st ≠ .lockdown → s.ctl.st ≠ .ready → s.ctl.st ≠ .draining →
    exec (.start h) s = .next { s with port := s.port.post s.engAddr (.status
          { state := s.ctl.st, reason := .state, failing := none, queueCount := s.track.queue.length,
            depth := s.flt.stack.length, top := s.flt.stack.head?.map Context.code
            holdCount := s.drive.hold.length }) }) ∧
  (∀ (h : Header) (s : State), s.hearsEngine h → s.ctl.st = .running → s.quiet → s.nothingWaits →
    exec (.drain h) s = .next (settleDrive { s with
      ctl := { s.ctl with st := .draining }
      hand := s.hand.readied [.state]
      port := (s.tellReady [.state] s.port).post s.engAddr (.status
          { state := .draining, reason := .none, failing := none, queueCount := s.track.queue.length,
            depth := s.flt.stack.length, top := s.flt.stack.head?.map Context.code
            holdCount := s.drive.hold.length }) })) ∧
  (∀ (h : Header) (s : State), s.hearsEngine h → s.ctl.st ≠ .lockdown → s.ctl.st ≠ .running →
    s.ctl.st ≠ .sweeping →
    exec (.drain h) s = .next { s with port := s.port.post s.engAddr (.status
          { state := s.ctl.st, reason := .state, failing := none, queueCount := s.track.queue.length,
            depth := s.flt.stack.length, top := s.flt.stack.head?.map Context.code
            holdCount := s.drive.hold.length }) }) ∧
  (∀ (h : Header) (s : State), s.hearsEngine h → s.ctl.st = .draining → s.quiet → s.nothingWaits →
    exec (.start h) s = .next (if s.functionActive .pause = true then
        { s with port := s.port.post s.engAddr (.status
          { state := s.ctl.st, reason := .notClear, failing := none, queueCount := s.track.queue.length,
            depth := s.flt.stack.length, top := s.flt.stack.head?.map Context.code
            holdCount := s.drive.hold.length }) }
      else settleDrive { s with
        ctl := { s.ctl with st := .running }
        hand := s.hand.readied [.state, .drain]
        port := (s.tellReady [.state, .drain] s.port).post s.engAddr (.status
          { state := .running, reason := .none, failing := none, queueCount := s.track.queue.length,
            depth := s.flt.stack.length, top := s.flt.stack.head?.map Context.code
            holdCount := s.drive.hold.length }) })) ∧
  (∀ (h : Header) (o : Offer) (s : State), s.hearsEngine h → s.ctl.st = .running → s.quiet → s.role ≠ .feed →
    s.hand.slot1 = some o → s.hand.slot2 = none → s.drive.hold = [] → (∀ r ∈ s.track.queue, r.tag ≠ o.tag) →
    o.side ≠ .second → (s.drainSheet = true ∨ s.hand.setInProgress ≠ some o.tag.set ∨ o.tag.seq ≤ 1) →
    (o.marks.ghost = false ∨ s.sweep.refused = false) →
    exec (.drain h) s = .next (settleDrive { s with
      ctl := { s.ctl with st := .draining }
      hand := { s.hand.readied [.state] with slot1 := none, deferred1 := some { reason := .drain, dup := none } }
      port := ((s.tellReady [.state] s.port).post s.up1 (.defer o.tag o.last .drain)).post s.engAddr (.status
          { state := .draining, reason := .none, failing := none, queueCount := s.track.queue.length,
            depth := s.flt.stack.length, top := s.flt.stack.head?.map Context.code
            holdCount := s.drive.hold.length }) })) ∧
  (∀ (h : Header) (o : FeedOrder) (rest : List FeedOrder) (s : State), s.hearsEngine h → s.ctl.st = .ready → s.quiet →
    s.noOffers → (∀ k < s.scount, s.sens.failed.getLsbD k = false) →
    ((∀ k < s.scount, (s.sensor k).covered = false) ∧ s.functionActive .interlock = false ∧
      s.functionActive .pause = false) →
    s.role = .feed → s.feed.orders = o :: rest →
    s.feed.pick = none → s.drive.hold = [] → s.track.queue.length < 8 → (∀ r ∈ s.track.queue, r.tag ≠ o.tag) →
    (s.sensor 0).covered = false → s.gapMin - s.pickD ≤ (s.sensor 0).uncovered / 256 →
    s.functionActive .supplyEmpty = false → o.tag.set ∉ s.track.broken →
    (s.track.queue = [] ∨ o.speed = s.drive.speed) →
    exec (.start h) s = .next (settleDrive { s with
      ctl := { s.ctl with st := .running }
      feed := { s.feed with orders := rest, pick := some o.tag }
      hand := { s.hand.readied [.state, .drain] with
        setInProgress :=
          if o.side = .second then s.hand.setInProgress else if o.last then none else some o.tag.set }
      drive := { s.drive with speed := o.speed }
      track := { s.track with queue := s.track.queue ++
        [{ tag := o.tag, last := o.last, side := o.side, length := o.length, speed := o.speed,
           marks := { broken := false, spoiled := false, ghost := false, misrouted := false },
           place := .entering, source := .pick, route := none, stage := .notOffered, arrival := false,
           dir := .forward, lead := 0, odo := 0, ref := 0, next := some 0, worst := 0, image := none,
           retries := s.pickRt, window := some (s.windowAt .forward 0 0), reached := Reached.none,
           offerOwed := false }] }
      port := (s.tellReady [.state, .drain] s.port).post s.engAddr (.status
          { state := .running, reason := .none, failing := none, queueCount := s.track.queue.length + 1,
            depth := s.flt.stack.length, top := s.flt.stack.head?.map Context.code
            holdCount := s.drive.hold.length }) })) ∧
  (∀ (h : Header) (s : State), s.hearsEngine h → s.ctl.st = .sweeping → s.quiet →
    ¬ (s.sweep.active = true ∧ s.track.queue = [] ∧ s.feed.pick = none ∧ s.drive.chA.run = .stopped ∧
      s.drive.chB.run = .stopped) →
    exec (.drain h) s = .next (settleDrive { s with
      sweep := { s.sweep with drainAsked := true, launching := false }
      port := s.port.post s.engAddr (.status
          { state := .sweeping, reason := .none, failing := none, queueCount := s.track.queue.length,
            depth := s.flt.stack.length, top := s.flt.stack.head?.map Context.code
            holdCount := s.drive.hold.length }) })) ∧
  (∀ (h : Header) (s : State), s.hearsEngine h → s.ctl.st = .sweeping → s.quiet → s.sweep.active = true →
    s.track.queue = [] → s.feed.pick = none → s.drive.chA.run = .stopped → s.drive.chB.run = .stopped →
    exec (.drain h) s = .next (settleDrive { s with
      ctl := { s.ctl with st := .ready }
      drive := { s.drive with hold := [] }
      hand := { s.hand.deferringAll .state with waiting := none, holdTimer := .idle }
      reg := { s.reg with timer := .idle }
      sweep := { s.sweep with active := false, drainAsked := true, launching := false }
      port := (s.deferAll .state (s.drive.hold.foldl (fun p e => p.postAll e.fwd (.go e.origin))
        (s.port.post s.engAddr (.sweepReport s.sweep.results)))).post s.engAddr (.status
          { state := .ready, reason := .none, failing := none, queueCount := 0,
            depth := s.flt.stack.length, top := s.flt.stack.head?.map Context.code
            holdCount := 0 }) }))

/-- RESUME pops the top entry when its cause is clear: to READY after a STOP, to the saved state after a HOLD. From
ENGADDR. In JAMMED with one STOP entry, restart needed, an empty queue and hold set, no sensor in use covered and
INTERLOCK inactive: the stack is empty, restart needed is no, the station is READY, and each waiting offer is
answered DEFER with STATE. In PAUSING or PAUSED with one HOLD entry saved in RUNNING whose code is neither BIN nor
TABLE, restart not needed, no offer or order waiting: the stack is empty, the station is RUNNING, and READY goes,
UP1 first, to each upstream deferred for STATE or DRAIN, whose deferral ends. With the entry saved in SWEEPING the
same, in SWEEPING at speed index 0; but with the sweep active, last seen or drain asked, an empty queue, no pick and
both channels stopped the sweep ends in that event: SWEEPREPORT goes to ENGADDR after READY, the sweep is not
active, and the station is in READY with its hold set cleared. A STOP entry on top with a record in the queue, a
covered sensor or INTERLOCK active is refused with NOT_CLEAR; outside PAUSING, PAUSED and JAMMED RESUME is refused
with STATE. Each is answered by STATUS after the change; a refusal changes nothing else (R67, R80, R82, R151, R152,
R163, R176). The model's choices: UP1's DEFER and READY before UP2's, and READY, SWEEPREPORT, GO, STATUS in this
order (log entry 40); clearing the hold set sends no READY (log entry 11). -/
def Obligations.ResumePopsTheStack : Prop :=
  (∀ (h : Header) (c : Context) (s : State), s.hearsEngine h → s.ctl.st = .jammed → s.quiet → s.flt.stack = [c] →
    c.isStop = true → s.flt.restartNeeded = true → s.track.queue = [] → s.drive.hold = [] →
    (∀ k < s.scount, (s.sensor k).covered = false) → s.functionActive .interlock = false →
    exec (.resume h) s = .next (settleDrive { s with
      ctl := { s.ctl with st := .ready }
      flt := { s.flt with stack := [], restartNeeded := false }
      hand := { s.hand.deferringAll .state with waiting := none, holdTimer := .idle }
      reg := { s.reg with timer := .idle }
      port := (s.deferAll .state s.port).post s.engAddr (.status
          { state := .ready, reason := .none, failing := none, queueCount := 0,
            depth := 0, top := none, holdCount := 0 }) })) ∧
  (∀ (h : Header) (c : Context) (s : State), s.hearsEngine h → (s.ctl.st = .pausing ∨ s.ctl.st = .paused) →
    s.quiet → s.nothingWaits → s.flt.stack = [c] → c.isStop = false → c.code ≠ .bin →
    c.code ≠ .table → c.saved = .running →
    s.flt.restartNeeded = false →
    exec (.resume h) s = .next (settleDrive { s with
      ctl := { s.ctl with st := .running }
      flt := { s.flt with stack := [] }
      hand := s.hand.readied [.state, .drain]
      port := (s.tellReady [.state, .drain] s.port).post s.engAddr (.status
          { state := .running, reason := .none, failing := none, queueCount := s.track.queue.length,
            depth := 0, top := none, holdCount := s.drive.hold.length }) })) ∧
  (∀ (h : Header) (c : Context) (rest : List Context) (s : State), s.hearsEngine h →
    (s.ctl.st = .pausing ∨ s.ctl.st = .paused ∨ s.ctl.st = .jammed) → s.flt.stack = c :: rest → c.isStop = true →
    (s.track.queue ≠ [] ∨ (∃ k < s.scount, (s.sensor k).covered = true) ∨ s.functionActive .interlock = true) →
    exec (.resume h) s = .next { s with port := s.port.post s.engAddr (.status
          { state := s.ctl.st, reason := .notClear, failing := none, queueCount := s.track.queue.length,
            depth := s.flt.stack.length, top := s.flt.stack.head?.map Context.code
            holdCount := s.drive.hold.length }) }) ∧
  (∀ (h : Header) (s : State), s.hearsEngine h → s.ctl.st ≠ .lockdown → s.ctl.st ≠ .pausing → s.ctl.st ≠ .paused →
    s.ctl.st ≠ .jammed →
    exec (.resume h) s = .next { s with port := s.port.post s.engAddr (.status
          { state := s.ctl.st, reason := .state, failing := none, queueCount := s.track.queue.length,
            depth := s.flt.stack.length, top := s.flt.stack.head?.map Context.code
            holdCount := s.drive.hold.length }) }) ∧
  (∀ (h : Header) (c : Context) (s : State), s.hearsEngine h → (s.ctl.st = .pausing ∨ s.ctl.st = .paused) →
    s.quiet → s.noOffers → s.flt.stack = [c] → c.isStop = false → c.code ≠ .bin → c.code ≠ .table →
    c.saved = .sweeping → s.flt.restartNeeded = false →
    ¬ (s.sweep.active = true ∧ (s.sweep.lastSeen = true ∨ s.sweep.drainAsked = true) ∧ s.track.queue = [] ∧
      s.feed.pick = none ∧ s.drive.chA.run = .stopped ∧ s.drive.chB.run = .stopped) →
    exec (.resume h) s = .next (settleDrive { s with
      ctl := { s.ctl with st := .sweeping }
      flt := { s.flt with stack := [] }
      drive := { s.drive with speed := 0 }
      hand := s.hand.readied [.state, .drain]
      port := (s.tellReady [.state, .drain] s.port).post s.engAddr (.status
          { state := .sweeping, reason := .none, failing := none, queueCount := s.track.queue.length,
            depth := 0, top := none, holdCount := s.drive.hold.length }) })) ∧
  (∀ (h : Header) (c : Context) (s : State), s.hearsEngine h → (s.ctl.st = .pausing ∨ s.ctl.st = .paused) →
    s.quiet → s.noOffers → s.flt.stack = [c] → c.isStop = false → c.code ≠ .bin → c.code ≠ .table →
    c.saved = .sweeping → s.flt.restartNeeded = false → s.sweep.active = true →
    (s.sweep.lastSeen = true ∨ s.sweep.drainAsked = true) → s.track.queue = [] → s.feed.pick = none →
    s.drive.chA.run = .stopped → s.drive.chB.run = .stopped →
    exec (.resume h) s = .next (settleDrive { s with
      ctl := { s.ctl with st := .ready }
      flt := { s.flt with stack := [] }
      drive := { s.drive with speed := 0, hold := [] }
      hand := { s.hand.readied [.state, .drain] with waiting := none, holdTimer := .idle }
      reg := { s.reg with timer := .idle }
      sweep := { s.sweep with active := false }
      port :=
        let told := (s.tellReady [.state, .drain] s.port).post s.engAddr (.sweepReport s.sweep.results)
        (s.drive.hold.foldl (fun p e => p.postAll e.fwd (.go e.origin)) told).post s.engAddr (.status
          { state := .ready, reason := .none, failing := none, queueCount := 0,
            depth := 0, top := none, holdCount := 0 }) }))

/-- CLEARPATH in JAMMED or READY forgets every sheet and reports the tray; in another state it is refused. From ENGADDR
in JAMMED or READY, with an empty hold set, no tray operation and no late entry: the queue is empty, the pending
requests stay and know that their records are gone, every sensor is unowned with latch 0 and uncovered distance
65535 pu and its covered state kept, both channels are FORWARD with no direction wanted, the Handoff Unit, the
inverter sequence, the feed orders and the image list are as after reset, the gate stands with no move, list or
occupant and its output at its position, the compile record and the routed view are cleared, PURGED with reason
CLEARED goes to ENGADDR when sheets were counted, and then STATUS with NONE. In another state that takes frames it
is refused with STATE and changes nothing else (R23, R47, R138, R145, R153, R154). The model's choices: PURGED is
queued before STATUS (log entry 40), and the requests note that their records have left (log entry 25). -/
def Obligations.ClearpathClearsTheSheets : Prop :=
  (∀ (h : Header) (s : State), s.hearsEngine h → (s.ctl.st = .jammed ∨ s.ctl.st = .ready) → s.drive.hold = [] →
    s.comp.op = .none → s.comp.late = [] →
    exec (.clearpath h) s = .next { s with
      track := { s.track with queue := [] }
      flt := { s.flt with pending := s.flt.pending.map fun q => { q with gone := q.involved.isSome } }
      sens := { s.sens with
        sensors := s.sens.sensors.map fun q =>
          { q with owner := none, confirmed := false, stalled := false, latch := 0, uncovered := 65535 * 256 } }
      drive := { s.drive with
        chA := { s.drive.chA with dir := .forward, want := none }
        chB := { s.drive.chB with dir := .forward, want := none } }
      hand := Handoff.reset
      gate := { s.gate with output := s.gate.position, move := .none, list := [], occupant := none }
      inv := Inverter.reset
      reg := { s.reg with images := [], timer := .idle }
      feed := { orders := [], pick := none, supplyReported := false }
      comp := { s.comp with
        traySet := none, count := 0, nextSeq := 1, split := false, keepOpen := false, op := .none, dumpReason := none
        binReported := false, late := [], routedSet := none, routedNext := 1 }
      port :=
        (if 1 ≤ s.comp.count then s.port.post s.engAddr (.purged (s.comp.traySet.getD 0) s.comp.count .cleared)
          else s.port).post s.engAddr (.status
          { state := s.ctl.st, reason := .none, failing := none, queueCount := 0,
            depth := s.flt.stack.length, top := s.flt.stack.head?.map Context.code
            holdCount := 0 }) }) ∧
  (∀ (h : Header) (s : State), s.hearsEngine h → s.ctl.st ≠ .lockdown → s.ctl.st ≠ .jammed → s.ctl.st ≠ .ready →
    exec (.clearpath h) s = .next { s with port := s.port.post s.engAddr (.status
          { state := s.ctl.st, reason := .state, failing := none, queueCount := s.track.queue.length,
            depth := s.flt.stack.length, top := s.flt.stack.head?.map Context.code
            holdCount := s.drive.hold.length }) })

/-- FEED adds an order and IMAGE an entry to their lists, or counts a stale frame. A sound FEED from ENGADDR joins the
tail of the orders, its length clamped and its marks dropped, at a FEED station in READY, RUNNING or DRAINING with
fewer than 4 orders and none of its tag; otherwise it counts a stale frame (R86). An IMAGE from ENGADDR with side 1
or 2 at a REGISTER station: in UNCONFIGURED it counts a stale frame; elsewhere, for a broken set, or an entry
already listed while no decided record has it, it changes nothing; for a record of the queue that is decided but not
WAITING it counts a stale frame; for a WAITING record that record is READY, and where no other waits IMAGE_WAIT is
taken from the own entry and the timer idle; and otherwise it joins the list, the oldest of 8 leaving and being
counted stale. At other roles it changes nothing (R111, R112, R115, R116). Nothing else changes but the channels and
timers. -/
def Obligations.FeedAndImageAreListed : Prop :=
  (∀ (h : Header) (o : SheetFields) (s : State), s.hearsEngine h → s.ctl.st ≠ .lockdown → o.tag.seq ≠ 0#6 →
    o.side ≠ 3#2 → s.quiet →
    exec (.feed h o) s = .next
      (if s.role = .feed ∧ (s.ctl.st = .ready ∨ s.ctl.st = .running ∨ s.ctl.st = .draining) ∧
          s.feed.orders.length < 4 ∧ ∀ x ∈ s.feed.orders, x.tag ≠ keyOf o.tag then
        settleDrive { s with feed := { s.feed with
          orders := s.feed.orders ++
            [{ tag := keyOf o.tag, last := o.tag.last, side := sideOf o.side.toNat, speed := o.speed.toNat
               length := max 1000 (min o.length.toNat 4500) }] } }
      else { s with port := { s.port with stale := min (s.port.stale + 1) 255 } })) ∧
  (∀ (h : Header) (t : FrameTag) (side : Byte) (s : State), s.hearsEngine h → s.ctl.st ≠ .lockdown →
    (side.toNat = 1 ∨ side.toNat = 2) → s.role = .register → s.ctl.st = .unconfigured →
    exec (.image h t side) s = .next { s with port := { s.port with stale := min (s.port.stale + 1) 255 } }) ∧
  (∀ (h : Header) (t : FrameTag) (side : Byte) (s : State), s.hearsEngine h → s.ctl.st ≠ .lockdown →
    (side.toNat = 1 ∨ side.toNat = 2) → s.role ≠ .register → exec (.image h t side) s = .next s) ∧
  (∀ (h : Header) (t : FrameTag) (side : Byte) (s : State), s.hearsEngine h → s.ctl.st ≠ .lockdown →
    (side.toNat = 1 ∨ side.toNat = 2) → s.role = .register → s.ctl.st ≠ .unconfigured → s.quiet →
    (∀ r ∈ s.track.queue, r.image ≠ none → r.tag = keyOf t → r.imageSide ≠ side.toNat) →
    exec (.image h t side) s = .next (settleDrive
      (if t.set.toNat ∈ s.track.broken ∨ { tag := keyOf t, side := side.toNat } ∈ s.reg.images then s
      else if s.reg.images.length < 8 then
        { s with reg := { s.reg with images := s.reg.images ++ [{ tag := keyOf t, side := side.toNat }] } }
      else { s with
        reg := { s.reg with images := s.reg.images.drop 1 ++ [{ tag := keyOf t, side := side.toNat }] }
        port := { s.port with stale := min (s.port.stale + 1) 255 } }))) ∧
  (∀ (h : Header) (t : FrameTag) (side : Byte) (r : Record) (s : State), s.hearsEngine h → s.ctl.st ≠ .lockdown →
    (side.toNat = 1 ∨ side.toNat = 2) → s.role = .register → s.ctl.st ≠ .unconfigured → s.quiet → s.queueSound →
    t.set.toNat ∉ s.track.broken → r ∈ s.track.queue → r.tag = keyOf t → r.imageSide = side.toNat →
    r.image = some .waiting → (∃ x ∈ s.track.queue, x.tag ≠ r.tag ∧ x.image = some .waiting) →
    exec (.image h t side) s = .next (settleDrive { s with track := { s.track with
      queue := s.track.queue.map fun x => if x.tag = keyOf t then { x with image := some .ready } else x } })) ∧
  (∀ (h : Header) (t : FrameTag) (side : Byte) (r : Record) (s : State), s.hearsEngine h → s.ctl.st ≠ .lockdown →
    (side.toNat = 1 ∨ side.toNat = 2) → s.role = .register → s.ctl.st ≠ .unconfigured → s.quiet → s.queueSound →
    t.set.toNat ∉ s.track.broken → r ∈ s.track.queue → r.tag = keyOf t → r.imageSide = side.toNat →
    r.image = some .waiting → (∀ x ∈ s.track.queue, x.tag ≠ r.tag → x.image ≠ some .waiting) →
    let u := { s with track := { s.track with
      queue := s.track.queue.map fun x => if x.tag = keyOf t then { x with image := some .ready } else x } }
    exec (.image h t side) s = .next (settleDrive
      (if s.ownHolds .imageWait = true then removeReason .imageWait { u with reg := { s.reg with timer := .idle } }
      else u))) ∧
  (∀ (h : Header) (t : FrameTag) (side : Byte) (r : Record) (s : State), s.hearsEngine h → s.ctl.st ≠ .lockdown →
    (side.toNat = 1 ∨ side.toNat = 2) → s.role = .register → s.ctl.st ≠ .unconfigured → s.quiet → s.queueSound →
    t.set.toNat ∉ s.track.broken → r ∈ s.track.queue → r.tag = keyOf t → r.imageSide = side.toNat →
    r.image ≠ none → r.image ≠ some .waiting →
    exec (.image h t side) s =
      .next (settleDrive { s with port := { s.port with stale := min (s.port.stale + 1) 255 } }))

/-- SWEEP puts a READY station in SWEEPING with fresh results; its origin launches ghost 0 at once; residuals and the
ghosts' numbers are checked. From ENGADDR in READY, under the conditions of START, with empty slots, an empty queue
and hold set and no pick: READY goes, UP1 first, to each upstream deferred for STATE or DRAIN, whose deferral ends,
the station is in SWEEPING at speed index 0, the sweep is active with the count (0 taken as 1), the inject period (1
taken as 2) and the origin of the frame and all results cleared, and STATUS carries NONE. A station that is not the
FEED station of the origin address launches nothing; that station has ghost 0 (SIMPLEX, 2000 pu, mark GHOST, source
PICK, not the last) as its only record, pick and spacing ghost, one ghost received and next number 1 in the same
event. In SWEEPING a lead edge at a sensor in use counts a residual, the first one captured, and makes the record it
is attributed to the unconfirmed owner, raising nothing. At the EXIT station each ghost at the gate position is
counted; the first may be 0 and each later one the number after the last, or a mismatch is counted, the first one's
numbers captured. In a state other than READY SWEEP is refused with STATE; in READY with SENSOR_FAILED where a
sensor in use has failed, else with NOT_CLEAR where one is covered or INTERLOCK or PAUSE is active: the station then
knows that it takes no part in the sweep, and nothing else changes (R82, R168 to R171, R173 to R175). The model's
choices: the first launch falls in the event of SWEEP (log entry 3), the owner of such an edge is the record it is
attributed to, ghost or not (log entry 14), READY comes before STATUS, UP1's first (log entry 40), and the refusal
is remembered (log entry 49). -/
def Obligations.SweepIsTaken : Prop :=
  (∀ (h : Header) (g n o : Byte) (s : State), s.hearsEngine h → s.ctl.st = .ready → s.quiet →
    (∀ k < s.scount, s.sens.failed.getLsbD k = false) →
    ((∀ k < s.scount, (s.sensor k).covered = false) ∧ s.functionActive .interlock = false ∧
      s.functionActive .pause = false) →
    s.hand.slot1 = none → s.hand.slot2 = none → ¬ (o.toNat = s.ctl.address ∧ s.role = .feed) →
    exec (.sweep h g n o) s = .next (settleDrive { s with
      ctl := { s.ctl with st := .sweeping }
      drive := { s.drive with speed := 0 }
      sweep := { Sweep.reset with
        ghosts := if g = 0#8 then 1 else g.toNat, inject := if n = 1#8 then 2 else n.toNat, origin := some o.toNat
        active := true }
      hand := s.hand.readied [.state, .drain]
      port := (s.tellReady [.state, .drain] s.port).post s.engAddr (.status
          { state := .sweeping, reason := .none, failing := none, queueCount := s.track.queue.length,
            depth := s.flt.stack.length, top := s.flt.stack.head?.map Context.code
            holdCount := s.drive.hold.length }) })) ∧
  (∀ (h : Header) (g n o : Byte) (s : State), s.hearsEngine h → s.ctl.st = .ready → s.quiet →
    (∀ k < s.scount, s.sens.failed.getLsbD k = false) →
    ((∀ k < s.scount, (s.sensor k).covered = false) ∧ s.functionActive .interlock = false ∧
      s.functionActive .pause = false) →
    s.hand.slot1 = none → s.hand.slot2 = none → o.toNat = s.ctl.address → s.role = .feed → s.drive.hold = [] →
    s.feed.pick = none → s.track.queue = [] →
    exec (.sweep h g n o) s = .next (settleDrive { s with
      ctl := { s.ctl with st := .sweeping }
      drive := { s.drive with speed := 0 }
      sweep :=
        { ghosts := if g = 0#8 then 1 else g.toNat, inject := if n = 1#8 then 2 else n.toNat,
           origin := some o.toNat, active := true, launching := true, nextNumber := 1, spacing := some ⟨0, 1⟩,
           lastSeen := false, drainAsked := false, refused := false,
           results := { SweepResults.reset with received := 1 } }
      feed := { s.feed with pick := some ⟨0, 1⟩ }
      track := { s.track with queue :=
        [{ tag := ⟨0, 1⟩, last := false, side := .simplex, length := 2000, speed := 0,
           marks := { broken := false, spoiled := false, ghost := true, misrouted := false },
           place := .entering, source := .pick, route := none, stage := .notOffered, arrival := false,
           dir := .forward, lead := 0, odo := 0, ref := 0, next := some 0, worst := 0, image := none,
           retries := 0, window := none, reached := Reached.none, offerOwed := false }] }
      hand := s.hand.readied [.state, .drain]
      port := (s.tellReady [.state, .drain] s.port).post s.engAddr (.status
          { state := .sweeping, reason := .none, failing := none, queueCount := 1,
            depth := s.flt.stack.length, top := s.flt.stack.head?.map Context.code
            holdCount := 0 }) })) ∧
  (∀ (h : Header) (g n o : Byte) (s : State), s.hearsEngine h → s.ctl.st ≠ .lockdown → s.ctl.st ≠ .ready →
    exec (.sweep h g n o) s = .next { s with
      sweep := { s.sweep with refused := true }
      port := s.port.post s.engAddr (.status
          { state := s.ctl.st, reason := .state, failing := none, queueCount := s.track.queue.length,
            depth := s.flt.stack.length, top := s.flt.stack.head?.map Context.code
            holdCount := s.drive.hold.length }) }) ∧
  (∀ (h : Header) (g n o : Byte) (s : State), s.hearsEngine h → s.ctl.st = .ready →
    (∃ k < s.scount, s.sens.failed.getLsbD k = true) →
    exec (.sweep h g n o) s = .next { s with
      sweep := { s.sweep with refused := true }
      port := s.port.post s.engAddr (.status
          { state := s.ctl.st, reason := .sensorFailed, failing := none, queueCount := s.track.queue.length,
            depth := s.flt.stack.length, top := s.flt.stack.head?.map Context.code
            holdCount := s.drive.hold.length }) }) ∧
  (∀ (h : Header) (g n o : Byte) (s : State), s.hearsEngine h → s.ctl.st = .ready →
    (∀ k < s.scount, s.sens.failed.getLsbD k = false) →
    ¬ ((∀ k < s.scount, (s.sensor k).covered = false) ∧ s.functionActive .interlock = false ∧
      s.functionActive .pause = false) →
    exec (.sweep h g n o) s = .next { s with
      sweep := { s.sweep with refused := true }
      port := s.port.post s.engAddr (.status
          { state := s.ctl.st, reason := .notClear, failing := none, queueCount := s.track.queue.length,
            depth := s.flt.stack.length, top := s.flt.stack.head?.map Context.code
            holdCount := s.drive.hold.length }) }) ∧
  (∀ (s : State) (k : Fin 6), s.ctl.resetLow = false → s.ctl.st = .sweeping → k.val < s.scount → s.quiet →
    (s.sensor k).covered = false →
    exec (.leadEdge k) s = .next (settleDrive { s with
      pins := { s.pins with sensors := withBit s.pins.sensors k true }
      sens := { s.sens with sensors := s.sens.sensors.modify k fun q =>
        { q with
          covered := true, owner := (s.attributed k).map Record.tag, confirmed := false, stalled := false } }
      sweep := { s.sweep with results := { s.sweep.results with
        residuals := min (s.sweep.results.residuals + 1) 255
        firstResidual :=
          if s.sweep.results.firstResidual = none then some k.val else s.sweep.results.firstResidual } } })) ∧
  (∀ (s : State) (r : Record), s.role = .exit → s.sweep.active = true → r.marks.ghost = true → r.route ≠ none →
    (s.sweep.results.synced = true ∨ s.sweep.results.firstExpected = none) →
    let q := s.sweep.results
    let due := if q.synced = true then q.expectedNext else 0
    let miss : Bool := decide (r.tag.set ≠ due)
    (atGate r s).sweep = { s.sweep with results := { q with
      received := min (q.received + 1) 255, synced := true, expectedNext := r.tag.set + 1
      mismatches := if miss then min (q.mismatches + 1) 255 else q.mismatches
      firstExpected := if miss = true ∧ q.firstExpected = none then some due else q.firstExpected
      firstActual := if miss = true ∧ q.firstExpected = none then some r.tag.set else q.firstActual } })

/-- QUERY is answered by the STATUS its selector names and clears only what its clear flag clears. A QUERY from ENGADDR
in every state but SELFTEST, LOCKDOWN included; in SELFTEST it changes nothing, and from another sender it only
counts a foreign frame. Selector 0: state, reason NONE, queue count, stack depth, top code and hold count. 1 and 2:
the fault counters of codes 0 to 7 and 8 to 15; the clear flag makes those counters 0. 3: the five bus counters and
the clamp counter; the flag makes those six 0. 4: the sweep results; the flag clears the three counts and the
captures and leaves synced and expected next. The STATUS goes to ENGADDR with the values before the clearing, and
nothing else changes (R190, R182; the sweep results cleared are those R175 names). -/
def Obligations.QueryIsAnswered : Prop :=
  (∀ (h : Header) (clear : Bool) (s : State), s.hearsEngine h →
    exec (.query h 0#3 clear) s = .next { s with port := s.port.post s.engAddr (.status
          { state := s.ctl.st, reason := .none, failing := none, queueCount := s.track.queue.length,
            depth := s.flt.stack.length, top := s.flt.stack.head?.map Context.code
            holdCount := s.drive.hold.length }) }) ∧
  (∀ (h : Header) (clear : Bool) (s : State), s.hearsEngine h →
    exec (.query h 1#3 clear) s = .next { s with
      port := s.port.post s.engAddr (.statusFaults false (s.flt.counters.take 8))
      flt := if clear then { s.flt with counters := List.replicate 8 0 ++ s.flt.counters.drop 8 } else s.flt }) ∧
  (∀ (h : Header) (clear : Bool) (s : State), s.hearsEngine h →
    exec (.query h 2#3 clear) s = .next { s with
      port := s.port.post s.engAddr (.statusFaults true (s.flt.counters.drop 8))
      flt := if clear then { s.flt with counters := s.flt.counters.take 8 ++ List.replicate 8 0 } else s.flt }) ∧
  (∀ (h : Header) (clear : Bool) (s : State), s.hearsEngine h →
    let told := s.port.post s.engAddr (.statusBus
      [s.port.overruns, s.port.checkErrors, s.port.foreign, s.port.stale, s.port.drops, s.cfg.clamps])
    exec (.query h 3#3 clear) s = .next { s with
      port := if clear then { told with overruns := 0, checkErrors := 0, foreign := 0, stale := 0, drops := 0 }
        else told
      cfg := if clear then { s.cfg with clamps := 0 } else s.cfg }) ∧
  (∀ (h : Header) (clear : Bool) (s : State), s.hearsEngine h →
    exec (.query h 4#3 clear) s = .next { s with
      port := s.port.post s.engAddr (.statusSweep s.sweep.results)
      sweep := { s.sweep with
        results := if clear then { s.sweep.results with
            received := 0, mismatches := 0, residuals := 0, firstExpected := none, firstActual := none
            firstResidual := none }
          else s.sweep.results } }) ∧
  (∀ (h : Header) (q : BitVec 3) (clear : Bool) (s : State), s.ctl.st = .selftest →
    exec (.query h q clear) s = .next s) ∧
  (∀ (h : Header) (q : BitVec 3) (clear : Bool) (s : State), s.hearsFrom h → h.src.toNat ≠ s.engAddr → q.toNat ≤ 4 →
    exec (.query h q clear) s = .next { s with port := { s.port with foreign := min (s.port.foreign + 1) 255 } })

/-- A queued frame joins behind its class; a full queue gives up the newest frame of its worst class or drops the new
one. For a transmit queue in order of class. With fewer than 12 frames the new frame stands behind every frame of
its own or a better class and before every worse one, the order of the others kept, and nothing else of the port
changes. With 12 or more, where every frame not being sent is of the new frame's class or a better one, only the
drop counter counts. Where some frame not being sent is of a worse class, the newest frame of the worst class among
those leaves, the new frame joins as above and the drop counter counts (R184). -/
def Obligations.TransmitQueueOrder : Prop :=
  ∀ (p : Port) (f : Frame), p.tx.Pairwise (fun a b => a.cls ≤ b.cls) →
    let c := f.body.cls
    let joined (l : List TxEntry) : List TxEntry :=
      (l.filter fun e => decide (e.cls ≤ c)) ++ { frame := f, sending := false } :: l.filter fun e => decide (c < e.cls)
    (p.tx.length < 12 → p.enqueue f = { p with tx := joined p.tx }) ∧
    (12 ≤ p.tx.length → (∀ e ∈ p.tx, e.sending = false → e.cls ≤ c) →
      p.enqueue f = { p with drops := min (p.drops + 1) 255 }) ∧
    (∀ (before after : List TxEntry) (x : TxEntry), 12 ≤ p.tx.length → p.tx = before ++ x :: after →
      x.sending = false → c < x.cls → (∀ e ∈ p.tx, e.sending = false → e.cls ≤ x.cls) →
      (∀ e ∈ after, e.sending = false → e.cls ≠ x.cls) →
      p.enqueue f = { p with tx := joined (before ++ after), drops := min (p.drops + 1) 255 })

/-- The gate decides routes, moves to serve its list, measures its travel in steps, and a record at it occupies it on
its route or raises ROUTE. Serving the list with no move made: when the head record's route differs from the gate
position a clear gate begins a MOVING move with its output at the target (with GATESW 0 it is there at once), a gate
that is not clear makes the move WAITING and keeps its output; when it does not differ nothing changes. A WAITING move
begins once the gate is clear. A step of the gate sensor's channel adds its length to a MOVING move, which completes
at GATESW x 256 fine pu or more: the position becomes the target, the output stays. At an INVERT station a record that
reaches the gate position on the gate's own route leaves the list and becomes the occupant, with no fault; one that
reaches it on the other route, in a state in which faults pend, raises ROUTE with tag, position and gate sensor. The
move is abandoned, its route is that of the gate with the next sensor chosen afresh, it is MISROUTED and SPOILED, it
is the occupant, and its set, when it is no ghost and the set is not listed, is broken with BROKEN to all stations.
Into ALT an idle sequence takes it as loop record, any other is BLOCKED; out of ALT the sequence lets its loop record
go. The model's choice: an idle sequence takes it even where another ALT record is in the queue (log entry 55). At an
INVERT station the decision, at GATESW before the gate sensor, gives a FORWARD record without route ALT when its side
is FIRST and it carries none of BROKEN, SPOILED and GHOST, else MAIN, chooses its next sensor afresh where need be,
puts it at the tail of the gate list, which is then served, and a record sent ALT makes an IDLE sequence FILLING with
it as the loop record (R32, R94 to R99, R102, R108). -/
def Obligations.GateMovesToServeItsList : Prop :=
  (∀ (s : State) (t : Tag) (rest : List Tag) (r : Record) (route : Route), s.gate.list = t :: rest →
    s.rec? t = some r → r.route = some route → s.gate.move = .none →
    serveGate s = { s with
      gate := if route = s.gate.position then s.gate
      else if s.gateClear = false then { s.gate with move := .waiting route }
      else if s.gateSw = 0 then { s.gate with output := route, position := route }
      else { s.gate with output := route, move := .moving route 0 } }) ∧
  (∀ (s : State) (target : Route), s.gate.move = .waiting target →
    serveGate s = { s with
      gate := if s.gateClear = false then s.gate
      else if s.gateSw = 0 then { s.gate with output := target, position := target, move := .none }
      else { s.gate with output := target, move := .moving target 0 } }) ∧
  (∀ (s : State) (k : Nat) (ch : Channel) (target : Route) (travel : Nat), s.gateSensor = some k →
    s.gate.move = .moving target travel →
    gateStep ch s = { s with
      gate := if s.zoneOf k ≠ ch then s.gate
      else if s.gateSw * 256 ≤ travel + s.stepLen ch then { s.gate with position := target, move := .none }
      else { s.gate with move := .moving target (travel + s.stepLen ch) } }) ∧
  (∀ (s : State) (r : Record), s.role = .invert → r.route = some s.gate.position → s.rec? r.tag = some r →
    ∃ t : State, atGate r s = t ∧ t.gate.occupant = some r.tag ∧
      t.gate.list = (s.gate.list.filter fun x => x != r.tag) ∧
      t = { s with gate := { s.gate with
        occupant := t.gate.occupant, list := t.gate.list, position := t.gate.position, output := t.gate.output
        move := t.gate.move } }) ∧
  (∀ (s : State) (r : Record) (route : Route), s.role = .invert → s.ctl.st.faultsPend = true →
    r.route = some route → route ≠ s.gate.position → s.queueSound → r ∈ s.track.queue → r.marks.ghost = false →
    r.tag.set ∉ s.track.broken → (∀ x ∈ s.track.queue, x.image ≠ some .waiting) → s.ownHolds .imageWait = false →
    let next := s.rerouted s.gate.position r.next
    atGate r s = serveGate { s with
      flt := (s.flt.count .route).pend
        { code := .route, original := none, involved := some r.tag, tag := some r.tag, last := r.last,
          position := some (r.lead / 256), sensor := s.gateSensor, worst := r.worst, ghost := false }
      port := s.port.post 63 (.broken r.tag.set)
      reg := { s.reg with images := s.reg.images.filter fun e => e.tag.set != r.tag.set }
      track := {
        broken := (if s.track.broken.length < 8 then s.track.broken else s.track.broken.drop 1) ++ [r.tag.set]
        queue := s.track.queue.map fun x =>
          if x.tag = r.tag then
            { r with
              route := some s.gate.position
              next := next
              window := if next = r.next then r.window else s.windowOf { r with next := next }
              marks := { broken := true, spoiled := true, ghost := false, misrouted := true } }
          else if x.tag.set = r.tag.set ∧ x.marks.ghost = false then
            { x with marks := { x.marks with broken := true } }
          else x }
      gate := { s.gate with
        output := s.gate.position, move := .none, occupant := some r.tag
        list := s.gate.list.filter fun x => x != r.tag }
      inv :=
        if s.gate.position = .alt then
          (if s.inv.seq = .idle then
            { seq := .filling, loop := some r.tag, runout := 0, timer := .idle, givenUp := false }
           else { s.inv with seq := .blocked })
        else if s.inv.loop = some r.tag then { s.inv with seq := .idle, loop := none, timer := .idle }
        else s.inv }) ∧
  (∀ (s : State) (r : Record) (k : Nat), s.role = .invert → s.gateSensor = some k → s.queueSound →
    r ∈ s.track.queue → r.dir = .forward → r.route = none → r.reached.decision = false →
    let route : Route :=
      if r.side = .first ∧ r.marks.broken = false ∧ r.marks.spoiled = false ∧ r.marks.ghost = false then .alt else .main
    let next := s.rerouted route r.next
    testDecision r.tag s =
      if r.lead / 256 + s.gateSw < s.spos k then s
      else serveGate { s with
        track := { s.track with
          queue := s.track.queue.map fun x =>
            if x.tag = r.tag then
              { r with
                route := some route
                next := next
                window := if next = r.next then r.window else s.windowOf { r with next := next }
                reached := { r.reached with decision := true } }
            else x }
        gate := { s.gate with list := s.gate.list ++ [r.tag] }
        inv :=
          if route = .alt ∧ s.inv.seq = .idle then
            { seq := .filling, loop := some r.tag, runout := 0, timer := .idle, givenUp := false }
          else s.inv })

/-- The run-out begins at the trail of the loop record and lasts REVD; when channel B stands the loop record is
reversed about its trail; its leaving frees the loop. At an INVERT station in STOPPING with channel B stopped and the
loop record in the queue: channel B is given REVERSE, the sequence is RETURNING, and the loop record's reference and
lead become its former trail position, its direction REVERSE, its next sensor the INVERT sensor, its window that of
the new values, and its side SECOND when it was FIRST. Its thresholds are then tested and the offers due sent (R103).
In FILLING, the trail edge of the loop record, the only one, at the INVERT sensor, its cover confirmed and long
enough, or not confirmed, begins the run-out with travel 0, or, with REVD 0, STOPPING at once, and the channels and
timers settle; so does its reckoned trail beyond TLEN + the slip term where no trail edge comes. In RUNOUT each step
of channel B adds its length to the travel, and at REVD x 256 fine pu the sequence is STOPPING; channel A adds nothing
(R102). In RETURNING a loop record at or below the return stop point that its downstream has not taken makes the
sequence RETURN WAIT and its timer ARMED, once; a taken one runs on (R104). A REVERSE record that comes to AEXIT, with
no hold, gets PASS and is EXITING where its downstream has taken it and the state issues steps; else only the boundary
is noted (R73, R90). In RUNNING without a hold, ARRIVED for the loop record, the only record, its trail out, takes it
from the queue: the sequence is IDLE without loop record, FORWARD is requested for channel B, and the UP1 offer that
waited, LOOP-bound or not, is taken in that event (R100, R106). The model's inferences: RETURNING comes before the
record's tests (log entry 18); REVD 0 at the reckoned trail (log entry 38); the slots are examined as the event
settles (log entry 8); a BLOCKED sequence too becomes IDLE when its loop record leaves (log entry 12); TAKEN counts
for the taker alone (log entry 54). The model's choice: a request notes that its record has left (log entry 25). -/
def Obligations.ReversalTurnsTheLoopRecord : Prop :=
  (∀ (s : State) (r : Record) (v : Nat), s.role = .invert → s.inv.seq = .stopping → s.drive.chB.run = .stopped →
    s.inv.loop = some r.tag → s.queueSound → r ∈ s.track.queue → s.invertSensor = some v →
    settleReversal s = sendOffers (testThresholds r.tag { s with
      drive := { s.drive with chB := { s.drive.chB with dir := .reverse, want := none } }
      inv := { s.inv with seq := .returning }
      track := { s.track with
        queue := s.track.queue.map fun x =>
          if x.tag = r.tag then
            { r with
              ref := r.lead / 256 - r.length
              lead := (r.lead / 256 - r.length) * 256
              dir := .reverse
              next := some v
              side := if r.side = .first then .second else r.side
              window := if r.marks.ghost ∨ r.place = .expected then none
                else some (s.windowAt .reverse (r.lead / 256 - r.length) v) }
          else x } })) ∧
  (∀ (s : State) (k : Fin 6) (r : Record), s.ctl.resetLow = false → s.ctl.st.checks = true → s.role = .invert →
    s.quiet → k.val < s.scount → s.invertSensor = some k.val → (s.sensor k).covered = true → s.track.queue = [r] →
    (s.sensor k).owner = some r.tag → r.dir = .forward → r.route = some .alt → s.inv.seq = .filling →
    s.inv.loop = some r.tag →
    ((s.sensor k).confirmed = true → r.length - s.tLen ≤ (r.odo - (s.sensor k).latch) / 256) →
    exec (.trailEdge k) s = .next (settleDrive { s with
      pins := { s.pins with sensors := withBit s.pins.sensors k false }
      sens := { s.sens with sensors := s.sens.sensors.modify k fun q =>
        { q with covered := false, owner := none, confirmed := false, stalled := false, uncovered := 0 } }
      inv := { s.inv with seq := if s.revD = 0 then .stopping else .runout, runout := 0 } })) ∧
  (∀ (s : State) (r : Record) (v : Nat), s.role = .invert → s.inv.seq = .filling → s.inv.loop = some r.tag →
    s.rec? r.tag = some r → r.dir = .forward → s.invertSensor = some v →
    testRunout r.tag s =
      if s.spos v + s.tLen + (s.slip * r.length + 1023) / 1024 + r.length < r.lead / 256 then
        { s with inv := { s.inv with seq := if s.revD = 0 then .stopping else .runout, runout := 0 } }
      else s) ∧
  (∀ s : State, s.role = .invert → s.inv.seq = .runout →
    moveRunout .a s = s ∧
    moveRunout .b s = { s with inv := { s.inv with
      seq := if s.revD * 256 ≤ s.inv.runout + s.stepLen .b then .stopping else .runout
      runout := min (s.inv.runout + s.stepLen .b) (s.revD * 256) } }) ∧
  (∀ (h : Header) (t : FrameTag) (r : Record) (o : Offer) (s : State), s.hearsDownstream h → s.ctl.st = .running →
    s.role = .invert → s.quiet → s.track.queue = [r] → r.tag = keyOf t → r.place = .exiting → r.route = some .alt →
    r.marks.ghost = false → s.downstream r = h.src.toNat → s.trailOut r = true → s.inv.loop = some r.tag →
    s.gate.move = .none → s.gate.list = [] → s.gate.occupant = none → s.ownHolds .imageWait = false →
    s.drive.hold = [] → s.hand.slot1 = some o → s.hand.slot2 = none → o.marks.ghost = false → o.marks.broken = false →
    o.tag.set ∉ s.track.broken →
    let left : State := { s with
      track := { s.track with queue := [] }
      flt := s.flt.forgetting r.tag
      sens := { s.sens with
        sensors := s.sens.sensors.map fun q =>
          if q.owner = some r.tag then { q with owner := none, confirmed := false, stalled := false } else q }
      inv := { s.inv with seq := .idle, loop := none, timer := .idle, givenUp := false }
      drive := { s.drive with chB :=
        if s.drive.chB.run = .stopped then { s.drive.chB with dir := .forward, want := none }
        else if s.drive.chB.dir = .forward then { s.drive.chB with want := none }
        else { s.drive.chB with want := some .forward } }
      feed := { s.feed with pick := if s.feed.pick = some r.tag then none else s.feed.pick }
      hand := { s.hand with givenUp := if s.hand.givenUp = some r.tag then none else s.hand.givenUp } }
    exec (.arrived h t) s = .next (settleDrive (left.tookUp1 o))) ∧
  (∀ (s : State) (r : Record), s.role = .invert → s.queueSound → r ∈ s.track.queue → r.dir = .reverse →
    s.inv.loop = some r.tag → s.inv.seq = .returning → r.reached.revStop = false →
    testReturnStop r.tag s =
      if s.cfg.returnStop < r.lead / 256 then s
      else { s with
        track := { s.track with
          queue := s.track.queue.map fun x =>
            if x.tag = r.tag then { r with reached := { r.reached with revStop := true } } else x }
        inv := if r.stage = .taken (s.downstream r) then s.inv
          else { s.inv with seq := .returnWait, timer := .armed } }) ∧
  (∀ (s : State) (r : Record), s.role = .invert → s.queueSound → r ∈ s.track.queue → r.dir = .reverse →
    r.reached.revExit = false → r.lead / 256 ≤ s.aExit → s.drive.hold = [] →
    let passed : Prop := r.stage = .taken (s.downstream r) ∧ s.ctl.st.steps = true
    testExit r.tag s = { s with
      port := if passed then s.port.post (s.downstream r) (.pass r.tag r.last) else s.port
      track := { s.track with
        queue := s.track.queue.map fun x =>
          if x.tag = r.tag then
            { r with
              place := if passed then .exiting else r.place
              reached := { r.reached with revExit := true } }
          else x } })

/-- The route rule of the EXIT station by its cases. For a record at its decision, in a state in which faults become
pending and none is pending for SEQUENCE. Marked GHOST, BROKEN, SPOILED or MISROUTED: ALT and nothing else. Routed set
absent and sequence 1, or routed set its own and sequence the routed next one: MAIN, the routed set its set and the
routed next sequence its own + 1, or absent and 1 after a last sheet. Routed set absent and another sequence, or its
own set and another sequence: ALT, with SEQUENCE raised against the record and its set listed as broken. Routed set
another set c that is not listed as broken: SEQUENCE is raised with set c and the routed next sequence, c is listed,
and the record is judged as with no routed set (R124, R125). The model's choice: these cases stand as they are while a
misrouted sheet is due at the tray (log entry 53). -/
def Obligations.RouteRuleAtTheExit : Prop :=
  (∀ (r : Record) (s : State),
    (r.marks.broken = true ∨ r.marks.spoiled = true ∨ r.marks.ghost = true ∨ r.marks.misrouted = true) →
    routeAtExit r s = (.alt, s)) ∧
  (∀ (r : Record) (s : State), r.marks = Marks.none →
    ((s.comp.routedSet = none ∧ r.tag.seq = 1) ∨
      (s.comp.routedSet = some r.tag.set ∧ r.tag.seq = s.comp.routedNext)) →
    routeAtExit r s = (.main, { s with comp := { s.comp with
      routedSet := if r.last then none else some r.tag.set
      routedNext := if r.last then 1 else r.tag.seq + 1 } })) ∧
  (∀ (r : Record) (s : State), r.marks = Marks.none → s.ctl.st.faultsPend = true → s.flt.pendingOf .sequence = none →
    ((s.comp.routedSet = none ∧ r.tag.seq ≠ 1) ∨
      (s.comp.routedSet = some r.tag.set ∧ r.tag.seq ≠ s.comp.routedNext)) →
    (routeAtExit r s).1 = .alt ∧ r.tag.set ∈ (routeAtExit r s).2.track.broken ∧
    ∃ q ∈ (routeAtExit r s).2.flt.pending, q.code = .sequence ∧ q.involved = some r.tag ∧ q.tag = some r.tag ∧
      q.position = some (r.lead / 256) ∧ q.sensor = s.gateSensor) ∧
  (∀ (r : Record) (s : State) (c : Nat), r.marks = Marks.none → s.ctl.st.faultsPend = true →
    s.flt.pendingOf .sequence = none → s.comp.routedSet = some c → c ≠ r.tag.set → c ∉ s.track.broken →
    (routeAtExit r s).1 = (if r.tag.seq = 1 then .main else .alt) ∧ c ∈ (routeAtExit r s).2.track.broken ∧
    (∃ q ∈ (routeAtExit r s).2.flt.pending, q.code = .sequence ∧ q.involved = none ∧
      q.tag = some ⟨c, s.comp.routedNext⟩) ∧
    (r.tag.seq = 1 →
      (routeAtExit r s).2.comp.routedSet = (if r.last then none else some r.tag.set) ∧
      (routeAtExit r s).2.comp.routedNext = (if r.last then 1 else 2)) ∧
    (r.tag.seq ≠ 1 → r.tag.set ∈ (routeAtExit r s).2.track.broken))

/-- The decision at the REG sensor and the action at the sync point. For a record in a sound queue. At its decision: a
ghost, or one carrying BROKEN or SPOILED, is SKIPPED and its entries leave the image list; one with an entry of its
tag and side in the list is READY and the entry leaves; any other is WAITING, if it is the first to wait IMAGE_WAIT
is in the own entry of the hold set, the image wait timer is armed, and both channels lose demand where the hold set
was empty (R61). The first to wait that is at its sync point already, the hold set being empty, becomes SKIPPED in
the same event and IMAGE is raised against it; the hold set is empty again, the timer idle, and the ramp-down it
began goes on (R55, R120). At the sync point: READY without BROKEN or SPOILED becomes PRINTED, SYNC with its tag and
side goes to ENGADDR and a PAGE_SYNC line, if any, is pulsed; READY with either becomes SKIPPED and sends nothing;
PRINTED and SKIPPED change nothing. In SWEEPING a READY record with neither mark gets no sync and stays READY; every
other record is acted on as said (R54, R110, R114 to R116, R119, R121, R122). The model's choice: it stays READY in
SWEEPING (log entry 36). -/
def Obligations.ImageDecisionAndSync : Prop :=
  (∀ (s : State) (r : Record), s.queueSound → r ∈ s.track.queue →
    (r.marks.ghost = true ∨ r.marks.broken = true ∨ r.marks.spoiled = true ∨
      { tag := r.tag, side := if r.side = .second then 2 else 1 } ∈ s.reg.images) →
    decideImage r s = { s with
      reg := { s.reg with
        images := s.reg.images.filter fun e => e != { tag := r.tag, side := if r.side = .second then 2 else 1 } }
      track := { s.track with
        queue := s.track.queue.map fun x =>
          if x.tag = r.tag then
            { r with
              image := some
                (if r.marks.ghost ∨ r.marks.broken ∨ r.marks.spoiled then .skipped else .ready) }
          else x } }) ∧
  (∀ (s : State) (r : Record), s.queueSound → r ∈ s.track.queue → r.marks = Marks.none →
    { tag := r.tag, side := if r.side = .second then 2 else 1 } ∉ s.reg.images →
    (∀ x ∈ s.track.queue, x.image ≠ some .waiting) →
    ∃ t : State, decideImage r s = t ∧ t.ownHolds .imageWait = true ∧ t.reg = { s.reg with timer := .armed } ∧
      t.rec? r.tag = some { r with image := some .waiting } ∧
      (∀ u, u ≠ r.tag → t.rec? u = s.rec? u) ∧
      let slowed (c : Chan) : Chan :=
        if s.drive.hold = [] ∧ (c.run = .rampUp ∨ c.run = .atSpeed) then
          { c with run := if c.ramp = 0 then .stopped else .rampDown }
        else c
      t = { s with
        port := t.port
        drive := { s.drive with chA := slowed s.drive.chA, chB := slowed s.drive.chB, hold := t.drive.hold }
        reg := t.reg
        track := t.track }) ∧
  (∀ (s : State) (r : Record), s.queueSound → r ∈ s.track.queue → r.image = some .ready →
    syncAction r s =
      if r.marks.broken = true ∨ r.marks.spoiled = true then
        { s with track := { s.track with
          queue := s.track.queue.map fun x => if x.tag = r.tag then { r with image := some .skipped } else x } }
      else { s with
        port := s.port.post s.engAddr (.sync r.tag r.last (if r.side = .second then 2 else 1))
        reg := { s.reg with
          pulse := s.reg.pulse || ([0, 1, 2, 3].any fun n => decide (s.lineFunction n = .pageSync)) }
        track := { s.track with
          queue := s.track.queue.map fun x => if x.tag = r.tag then { r with image := some .printed } else x } }) ∧
  (∀ (s : State) (r : Record), (r.image = some .printed ∨ r.image = some .skipped) → syncAction r s = s) ∧
  (∀ (s : State) (r : Record), syncHere r s =
    if s.ctl.st = .sweeping ∧ r.image = some .ready ∧ r.marks.broken = false ∧ r.marks.spoiled = false then s
    else syncAction r s) ∧
  (∀ (s : State) (r : Record) (k before : Nat), s.queueSound → r ∈ s.track.queue → r.marks = Marks.none →
    r.image = none → { tag := r.tag, side := if r.side = .second then 2 else 1 } ∉ s.reg.images →
    (∀ x ∈ s.track.queue, x.image ≠ some .waiting) → s.regSensor = some k → s.spos k + s.syncD ≤ before →
    s.drive.hold = [] →
    ∃ t : State, atRegSensor r.tag before s = t ∧
      t.track.queue = (s.track.queue.map fun x =>
        if x.tag = r.tag then { r with image := some .skipped, reached := { r.reached with sync := true } } else x) ∧
      let slowed (c : Chan) : Chan :=
        if c.run = .rampUp ∨ c.run = .atSpeed then { c with run := if c.ramp = 0 then .stopped else .rampDown } else c
      let q : Request :=
        { code := .image, original := none, involved := some r.tag, tag := some r.tag, last := r.last,
          position := some (r.lead / 256), sensor := some k, worst := r.worst, ghost := false }
      t = { s with
        port := t.port
        hand := t.hand
        drive := { s.drive with chA := slowed s.drive.chA, chB := slowed s.drive.chB }
        reg := { s.reg with timer := .idle }
        flt := if s.ctl.st.faultsPend = true then (s.flt.count .image).pend q else s.flt.count .image
        track := { s.track with queue := t.track.queue } })

/-- What a station sends reads back: the payload as the frame sent, its length its kind's, and the levels on the line as
the frame's fields. For every state of the receiving port and every header: the payload a station writes for HALT,
PASS, ARRIVED, HOLD, GO, BROKEN, OFFER, TAKE, DEFER and READY, read at its class and kind, is that command with
every field as sent, for every tag, code, origin, set, reason, side code below 3, speed, marks and length. The same
of the payloads of the engine controller's frames, laid out as R183 gives them; a RESTART finds the straps as last
read. The payload of every frame a station sends has the number of bytes its class and kind allow, and the levels of
that frame on the line, inserted bits and end among them, read back as its class, kind, addresses, payload and a
right check (R178, R181, R183). The model's inferences: levels that spell a RESTART find the straps as last read
(log entry 9), and which bits are inserted (log entry 29). -/
def Obligations.SentFramesReadBack : Prop :=
  (∀ (s : State) (h : Header) (t : FrameTag),
    s.read 1 0 h (FrameBody.pass (keyOf t) t.last).payload = .command (.pass h t) ∧
    s.read 1 1 h (FrameBody.arrived (keyOf t) t.last).payload = .command (.arrived h t) ∧
    s.read 2 1 h (FrameBody.take (keyOf t) t.last).payload = .command (.take h t)) ∧
  (∀ (s : State) (h : Header) (t : FrameTag) (why : DeferReason),
    s.read 2 2 h (FrameBody.defer (keyOf t) t.last why).payload =
      .command (.defer h t (BitVec.ofNat 8 (DeferReason.code why)))) ∧
  (∀ (s : State) (h : Header) (c : FaultCode),
    s.read 0 0 h (FrameBody.halt c).payload = .command (.halt h (BitVec.ofNat 8 (FaultCode.code c)))) ∧
  (∀ (s : State) (h : Header) (o : Byte),
    s.read 1 2 h (FrameBody.hold o.toNat).payload = .command (.hold h o) ∧
    s.read 1 3 h (FrameBody.go o.toNat).payload = .command (.go h o)) ∧
  (∀ (s : State) (h : Header) (set : Half),
    s.read 1 4 h (FrameBody.broken set.toNat).payload = .command (.broken h set)) ∧
  (∀ (s : State) (h : Header), s.read 2 3 h FrameBody.ready.payload = .command (.ready h)) ∧
  (∀ (s : State) (h : Header) (o : SheetFields), o.side ≠ 3#2 →
    s.read 2 0 h (FrameBody.offer
      { tag := keyOf o.tag, last := o.tag.last, side := sideOf o.side.toNat, speed := o.speed.toNat
        marks := marksOf o.marks, length := o.length.toNat }).payload = .command (.offer h o)) ∧
  (∀ b : FrameBody, (∀ upper l, b = .statusFaults upper l → l.length = 8) →
    (∀ l, b = .statusBus l → l.length = 6) →
    (FrameBody.cls b, FrameBody.kind b, b.payload.length) ∈
      [(0, 0, 1), (1, 0, 3), (1, 1, 3), (1, 2, 1), (1, 3, 1), (1, 4, 2), (2, 0, 7), (2, 1, 3), (2, 2, 4), (2, 3, 0),
       (4, 0, 4), (5, 0, 7), (5, 1, 8), (5, 2, 8), (5, 3, 6), (5, 4, 6), (5, 5, 8), (5, 6, 4), (5, 7, 4), (5, 8, 3),
       (5, 9, 6)]) ∧
  (∀ (address : Nat) (f : Frame), (∀ upper l, f.body = .statusFaults upper l → l.length = 8) →
    (∀ l, f.body = .statusBus l → l.length = 6) →
    RxFrame.ofLevels (f.wire address) = some
      { cls := BitVec.ofNat 3 f.body.cls, kind := BitVec.ofNat 5 f.body.kind
        hdr := ⟨BitVec.ofNat 6 address, BitVec.ofNat 6 f.dst⟩, payload := f.body.payload
        check := checkOf (f.fields address) }) ∧
  (∀ (s : State) (h : Header) (start : BitVec 7) (m : Bool) (vs : List Half), vs.length ≤ 3 →
    s.read 3 0 h (BitVec.ofNat 8 (start.toNat + 128 * m.toNat) :: vs.flatMap fun v => halfBytes v.toNat) =
      .command (.configure h start m vs)) ∧
  (∀ (s : State) (h : Header),
    s.read 3 1 h [] = .command (.start h) ∧ s.read 3 2 h [] = .command (.drain h) ∧
    s.read 3 3 h [] = .command (.resume h) ∧ s.read 3 4 h [] = .command (.clearpath h) ∧
    s.read 3 5 h [] = .command (.restart h (BitVec.ofNat 6 s.ctl.address) (BitVec.ofNat 3 s.ctl.strap))) ∧
  (∀ (s : State) (h : Header) (o : SheetFields), o.side ≠ 3#2 →
    s.read 3 6 h (FrameBody.offer
      { tag := keyOf o.tag, last := o.tag.last, side := sideOf o.side.toNat, speed := o.speed.toNat
        marks := marksOf o.marks, length := o.length.toNat }).payload = .command (.feed h o)) ∧
  (∀ (s : State) (h : Header) (t : FrameTag) (side g n o : Byte) (selector : BitVec 3) (clear : Bool),
    s.read 3 7 h (tagBytes (keyOf t) t.last ++ [side]) = .command (.image h t side) ∧
    s.read 3 8 h [g, n, o] = .command (.sweep h g n o) ∧
    s.read 3 9 h [BitVec.ofNat 8 (selector.toNat + 128 * clear.toNat)] = .command (.query h selector clear))
end

