-- ==== Sys2Proof/Laws/Frames.lean ====
section
/-! SUPPORT. Levels on the line (R178): reading them undoes the insertion of bits, goes on into the end field, and ends
at a sixth equal level, in place of the last inserted bit too. -/

namespace Sys2Proof.Machine

/-- Reading undoes the insertion: the bits of a frame come back, whatever follows them (R178). -/
theorem plainLevels_insertBits (bits post : List Bool) {level : Bool} {run : Nat} (h : run < 5) :
    ∃ (l : Bool) (r : Nat), r < 5 ∧
      plainLevels level run (insertBits level run bits ++ post) = bits ++ plainLevels l r post := by
  induction bits generalizing level run with
  | nil => exact ⟨level, run, h, rfl⟩
  | cons b rest ih =>
    simp only [insertBits]
    by_cases hn : (if b = level then run + 1 else 1) = 5
    · obtain ⟨l, r, hr, e⟩ := ih (level := !b) (run := 1) (by decide)
      refine ⟨l, r, hr, ?_⟩
      rw [if_pos hn]
      simp [plainLevels, hn, show run ≠ 5 by omega, e]
    · have hlt : (if b = level then run + 1 else 1) < 5 := by
        by_cases hb : b = level
        · rw [if_pos hb] at hn ⊢
          omega
        · rw [if_neg hb]
          decide
      obtain ⟨l, r, hr, e⟩ := ih (level := b) hlt
      refine ⟨l, r, hr, ?_⟩
      rw [if_neg hn]
      simp [plainLevels, show run ≠ 5 by omega, e]

/-- Reading levels that follow others: it has ended among the first, or goes on from where they leave it. -/
theorem plainLevels_append (xs : List Bool) {level : Bool} {run : Nat} (h : run ≤ 5) :
    ∃ out, (∀ post, plainLevels level run (xs ++ post) = out) ∨
      ∃ (l : Bool) (r : Nat), r ≤ 5 ∧ ∀ post, plainLevels level run (xs ++ post) = out ++ plainLevels l r post := by
  induction xs generalizing level run with
  | nil => exact ⟨[], .inr ⟨level, run, h, fun _ => rfl⟩⟩
  | cons b rest ih =>
    by_cases h5 : run = 5
    · by_cases hb : b = level
      · exact ⟨[], .inl fun post => by simp [plainLevels, h5, hb]⟩
      · obtain ⟨out, e⟩ := ih (level := b) (run := 1) (by decide)
        exact ⟨out, by simpa [plainLevels, h5, hb] using e⟩
    · obtain ⟨out, e⟩ := ih (level := b) (run := if b = level then run + 1 else 1) (by split <;> omega)
      refine ⟨b :: out, e.imp (fun e post => ?_) ?_⟩
      · simp [plainLevels, h5, e]
      · rintro ⟨l, r, hr, e⟩
        exact ⟨l, r, hr, fun post => by simp [plainLevels, h5, e]⟩

/-- After five equal levels the reading has ended, or the next level is an inserted one (R178). -/
theorem plainLevels_five (b : Bool) {level : Bool} {run : Nat} (h : run ≤ 5) :
    ∃ out, (∀ post, plainLevels level run (List.replicate 5 b ++ post) = out) ∨
      ∀ post, plainLevels level run (List.replicate 5 b ++ post) = out ++ plainLevels b 5 post := by
  have any : ∀ n k : Nat, k + n = 5 → ∀ post, plainLevels b k (List.replicate n b ++ post) =
      List.replicate n b ++ plainLevels b 5 post := by
    intro n
    induction n with
    | zero =>
      intro k hk post
      obtain rfl : k = 5 := hk
      rfl
    | succ n ih =>
      intro k hk post
      simp [List.replicate_succ, plainLevels, show k ≠ 5 by omega, ih (k + 1) (by omega)]
  have ended : ∀ n k : Nat, 1 ≤ k → k ≤ 5 → 5 < k + n → ∃ out, ∀ post,
      plainLevels b k (List.replicate n b ++ post) = out := by
    intro n
    induction n with
    | zero => intro k _ _ _; omega
    | succ n ih =>
      intro k h1 h2 h3
      by_cases hk : k = 5
      · exact ⟨[], fun post => by simp [List.replicate_succ, plainLevels, hk]⟩
      · obtain ⟨out, e⟩ := ih (k + 1) (by omega) (by omega) (by omega)
        exact ⟨b :: out, fun post => by simp [List.replicate_succ, plainLevels, hk, e]⟩
  by_cases hb : b = level
  · subst hb
    rcases Nat.eq_zero_or_pos run with rfl | hr
    · exact ⟨_, .inr (any 5 0 rfl)⟩
    · obtain ⟨out, e⟩ := ended 5 run hr h (by omega)
      exact ⟨out, .inl e⟩
  · by_cases h5 : run = 5
    · refine ⟨List.replicate 4 b, .inr fun post => ?_⟩
      have := any 4 1 rfl post
      simp_all [List.replicate_succ, plainLevels]
    · refine ⟨List.replicate 5 b, .inr fun post => ?_⟩
      have := any 4 1 rfl post
      simp_all [List.replicate_succ, plainLevels]

/-- A frame whose bits end in five equal ones is sent with one more bit, inserted. A sixth equal level in its place ends
the reading after the frame's last bit (R178). -/
theorem plainLevels_sixth {bits pre : List Bool} {b : Bool} (post : List Bool)
    (e : insertBits true 0 bits = pre ++ List.replicate 5 b ++ [!b]) :
    plainLevels true 0 (pre ++ List.replicate 6 b ++ post) = bits := by
  have sent (tail : List Bool) : ∃ l r, plainLevels true 0 (pre ++ (List.replicate 5 b ++ (!b) :: tail)) =
      bits ++ plainLevels l r tail := by
    obtain ⟨l, r, -, h⟩ := plainLevels_insertBits bits tail (level := true) (run := 0) (by decide)
    exact ⟨l, r, by rw [← h, e]; simp⟩
  have six : pre ++ List.replicate 6 b ++ post = pre ++ (List.replicate 5 b ++ b :: post) := by
    simp [List.replicate_succ]
  rw [six]
  obtain ⟨l, r, h0⟩ := sent []
  obtain ⟨out, h1 | ⟨l1, r1, hr, h1⟩⟩ := plainLevels_append pre (level := true) (run := 0) (by decide)
  · simpa [h1, plainLevels] using h0
  · obtain ⟨out2, h2 | h2⟩ := plainLevels_five b (level := l1) hr
    · rw [h1, h2] at h0 ⊢
      simpa [plainLevels] using h0
    · rw [h1, h2] at h0 ⊢
      simpa [plainLevels] using h0

/-- A frame as it is sent is read beyond its last bit, into whatever follows: no framing error (R178). -/
theorem plainLevels_sent (bits post : List Bool) (x : Bool) :
    ∃ tail, plainLevels true 0 (insertBits true 0 bits ++ x :: post) = bits ++ x :: tail := by
  obtain ⟨l, r, hr, h⟩ := plainLevels_insertBits bits (x :: post) (level := true) (run := 0) (by decide)
  exact ⟨_, by rw [h, plainLevels, if_neg (by omega)]⟩

end Sys2Proof.Machine
end

