-- ==== Sys2Proof/Laws/State.lean ====
section
/-! SUPPORT. The small operations that update one block, field by field: what each leaves and what it writes. -/

namespace Sys2Proof.Machine

@[simp] theorem countStale_pins (s : State) : (countStale s).pins = s.pins := rfl
@[simp] theorem countStale_ctl (s : State) : (countStale s).ctl = s.ctl := rfl
@[simp] theorem countStale_port (s : State) :
    (countStale s).port =
      { s.port with stale := incSat s.port.stale } := rfl
@[simp] theorem countStale_cfg (s : State) : (countStale s).cfg = s.cfg := rfl
@[simp] theorem countStale_sens (s : State) : (countStale s).sens = s.sens := rfl
@[simp] theorem countStale_drive (s : State) : (countStale s).drive = s.drive := rfl
@[simp] theorem countStale_track (s : State) : (countStale s).track = s.track := rfl
@[simp] theorem countStale_hand (s : State) : (countStale s).hand = s.hand := rfl
@[simp] theorem countStale_gate (s : State) : (countStale s).gate = s.gate := rfl
@[simp] theorem countStale_inv (s : State) : (countStale s).inv = s.inv := rfl
@[simp] theorem countStale_reg (s : State) : (countStale s).reg = s.reg := rfl
@[simp] theorem countStale_comp (s : State) : (countStale s).comp = s.comp := rfl
@[simp] theorem countStale_feed (s : State) : (countStale s).feed = s.feed := rfl
@[simp] theorem countStale_flt (s : State) : (countStale s).flt = s.flt := rfl
@[simp] theorem countStale_sweep (s : State) : (countStale s).sweep = s.sweep := rfl
@[simp] theorem countStale_pending (s : State) : (countStale s).pending = s.pending := rfl

@[simp] theorem countForeign_pins (s : State) : (countForeign s).pins = s.pins := rfl
@[simp] theorem countForeign_ctl (s : State) : (countForeign s).ctl = s.ctl := rfl
@[simp] theorem countForeign_port (s : State) :
    (countForeign s).port =
      { s.port with foreign := incSat s.port.foreign } := rfl
@[simp] theorem countForeign_cfg (s : State) : (countForeign s).cfg = s.cfg := rfl
@[simp] theorem countForeign_sens (s : State) : (countForeign s).sens = s.sens := rfl
@[simp] theorem countForeign_drive (s : State) : (countForeign s).drive = s.drive := rfl
@[simp] theorem countForeign_track (s : State) : (countForeign s).track = s.track := rfl
@[simp] theorem countForeign_hand (s : State) : (countForeign s).hand = s.hand := rfl
@[simp] theorem countForeign_gate (s : State) : (countForeign s).gate = s.gate := rfl
@[simp] theorem countForeign_inv (s : State) : (countForeign s).inv = s.inv := rfl
@[simp] theorem countForeign_reg (s : State) : (countForeign s).reg = s.reg := rfl
@[simp] theorem countForeign_comp (s : State) : (countForeign s).comp = s.comp := rfl
@[simp] theorem countForeign_feed (s : State) : (countForeign s).feed = s.feed := rfl
@[simp] theorem countForeign_flt (s : State) : (countForeign s).flt = s.flt := rfl
@[simp] theorem countForeign_sweep (s : State) : (countForeign s).sweep = s.sweep := rfl
@[simp] theorem countForeign_pending (s : State) : (countForeign s).pending = s.pending := rfl

@[simp] theorem countCheckError_pins (s : State) : (countCheckError s).pins = s.pins := rfl
@[simp] theorem countCheckError_ctl (s : State) : (countCheckError s).ctl = s.ctl := rfl
@[simp] theorem countCheckError_port (s : State) :
    (countCheckError s).port =
      { s.port with checkErrors := incSat s.port.checkErrors } := rfl
@[simp] theorem countCheckError_cfg (s : State) : (countCheckError s).cfg = s.cfg := rfl
@[simp] theorem countCheckError_sens (s : State) : (countCheckError s).sens = s.sens := rfl
@[simp] theorem countCheckError_drive (s : State) : (countCheckError s).drive = s.drive := rfl
@[simp] theorem countCheckError_track (s : State) : (countCheckError s).track = s.track := rfl
@[simp] theorem countCheckError_hand (s : State) : (countCheckError s).hand = s.hand := rfl
@[simp] theorem countCheckError_gate (s : State) : (countCheckError s).gate = s.gate := rfl
@[simp] theorem countCheckError_inv (s : State) : (countCheckError s).inv = s.inv := rfl
@[simp] theorem countCheckError_reg (s : State) : (countCheckError s).reg = s.reg := rfl
@[simp] theorem countCheckError_comp (s : State) : (countCheckError s).comp = s.comp := rfl
@[simp] theorem countCheckError_feed (s : State) : (countCheckError s).feed = s.feed := rfl
@[simp] theorem countCheckError_flt (s : State) : (countCheckError s).flt = s.flt := rfl
@[simp] theorem countCheckError_sweep (s : State) : (countCheckError s).sweep = s.sweep := rfl
@[simp] theorem countCheckError_pending (s : State) : (countCheckError s).pending = s.pending := rfl

@[simp] theorem countOverrun_pins (s : State) : (countOverrun s).pins = s.pins := rfl
@[simp] theorem countOverrun_ctl (s : State) : (countOverrun s).ctl = s.ctl := rfl
@[simp] theorem countOverrun_port (s : State) :
    (countOverrun s).port =
      { s.port with overruns := incSat s.port.overruns } := rfl
@[simp] theorem countOverrun_cfg (s : State) : (countOverrun s).cfg = s.cfg := rfl
@[simp] theorem countOverrun_sens (s : State) : (countOverrun s).sens = s.sens := rfl
@[simp] theorem countOverrun_drive (s : State) : (countOverrun s).drive = s.drive := rfl
@[simp] theorem countOverrun_track (s : State) : (countOverrun s).track = s.track := rfl
@[simp] theorem countOverrun_hand (s : State) : (countOverrun s).hand = s.hand := rfl
@[simp] theorem countOverrun_gate (s : State) : (countOverrun s).gate = s.gate := rfl
@[simp] theorem countOverrun_inv (s : State) : (countOverrun s).inv = s.inv := rfl
@[simp] theorem countOverrun_reg (s : State) : (countOverrun s).reg = s.reg := rfl
@[simp] theorem countOverrun_comp (s : State) : (countOverrun s).comp = s.comp := rfl
@[simp] theorem countOverrun_feed (s : State) : (countOverrun s).feed = s.feed := rfl
@[simp] theorem countOverrun_flt (s : State) : (countOverrun s).flt = s.flt := rfl
@[simp] theorem countOverrun_sweep (s : State) : (countOverrun s).sweep = s.sweep := rfl
@[simp] theorem countOverrun_pending (s : State) : (countOverrun s).pending = s.pending := rfl

@[simp] theorem countClamp_pins (s : State) : (countClamp s).pins = s.pins := rfl
@[simp] theorem countClamp_ctl (s : State) : (countClamp s).ctl = s.ctl := rfl
@[simp] theorem countClamp_port (s : State) : (countClamp s).port = s.port := rfl
@[simp] theorem countClamp_cfg (s : State) : (countClamp s).cfg = { s.cfg with clamps := incSat s.cfg.clamps } := rfl
@[simp] theorem countClamp_sens (s : State) : (countClamp s).sens = s.sens := rfl
@[simp] theorem countClamp_drive (s : State) : (countClamp s).drive = s.drive := rfl
@[simp] theorem countClamp_track (s : State) : (countClamp s).track = s.track := rfl
@[simp] theorem countClamp_hand (s : State) : (countClamp s).hand = s.hand := rfl
@[simp] theorem countClamp_gate (s : State) : (countClamp s).gate = s.gate := rfl
@[simp] theorem countClamp_inv (s : State) : (countClamp s).inv = s.inv := rfl
@[simp] theorem countClamp_reg (s : State) : (countClamp s).reg = s.reg := rfl
@[simp] theorem countClamp_comp (s : State) : (countClamp s).comp = s.comp := rfl
@[simp] theorem countClamp_feed (s : State) : (countClamp s).feed = s.feed := rfl
@[simp] theorem countClamp_flt (s : State) : (countClamp s).flt = s.flt := rfl
@[simp] theorem countClamp_sweep (s : State) : (countClamp s).sweep = s.sweep := rfl
@[simp] theorem countClamp_pending (s : State) : (countClamp s).pending = s.pending := rfl

@[simp] theorem send_pins (dst : Nat) (body : FrameBody) (s : State) : (send dst body s).pins = s.pins := rfl
@[simp] theorem send_ctl (dst : Nat) (body : FrameBody) (s : State) : (send dst body s).ctl = s.ctl := rfl
@[simp] theorem send_port (dst : Nat) (body : FrameBody) (s : State) :
    (send dst body s).port =
      s.port.post dst body := rfl
@[simp] theorem send_cfg (dst : Nat) (body : FrameBody) (s : State) : (send dst body s).cfg = s.cfg := rfl
@[simp] theorem send_sens (dst : Nat) (body : FrameBody) (s : State) : (send dst body s).sens = s.sens := rfl
@[simp] theorem send_drive (dst : Nat) (body : FrameBody) (s : State) : (send dst body s).drive = s.drive := rfl
@[simp] theorem send_track (dst : Nat) (body : FrameBody) (s : State) : (send dst body s).track = s.track := rfl
@[simp] theorem send_hand (dst : Nat) (body : FrameBody) (s : State) : (send dst body s).hand = s.hand := rfl
@[simp] theorem send_gate (dst : Nat) (body : FrameBody) (s : State) : (send dst body s).gate = s.gate := rfl
@[simp] theorem send_inv (dst : Nat) (body : FrameBody) (s : State) : (send dst body s).inv = s.inv := rfl
@[simp] theorem send_reg (dst : Nat) (body : FrameBody) (s : State) : (send dst body s).reg = s.reg := rfl
@[simp] theorem send_comp (dst : Nat) (body : FrameBody) (s : State) : (send dst body s).comp = s.comp := rfl
@[simp] theorem send_feed (dst : Nat) (body : FrameBody) (s : State) : (send dst body s).feed = s.feed := rfl
@[simp] theorem send_flt (dst : Nat) (body : FrameBody) (s : State) : (send dst body s).flt = s.flt := rfl
@[simp] theorem send_sweep (dst : Nat) (body : FrameBody) (s : State) : (send dst body s).sweep = s.sweep := rfl
@[simp] theorem send_pending (dst : Nat) (body : FrameBody) (s : State) : (send dst body s).pending = s.pending := rfl

@[simp] theorem sendAll_pins (dsts : List Nat) (body : FrameBody) (s : State) :
    (sendAll dsts body s).pins =
      s.pins := rfl
@[simp] theorem sendAll_ctl (dsts : List Nat) (body : FrameBody) (s : State) :
    (sendAll dsts body s).ctl =
      s.ctl := rfl
@[simp] theorem sendAll_port (dsts : List Nat) (body : FrameBody) (s : State) :
    (sendAll dsts body s).port =
      s.port.postAll dsts body := rfl
@[simp] theorem sendAll_cfg (dsts : List Nat) (body : FrameBody) (s : State) :
    (sendAll dsts body s).cfg =
      s.cfg := rfl
@[simp] theorem sendAll_sens (dsts : List Nat) (body : FrameBody) (s : State) :
    (sendAll dsts body s).sens =
      s.sens := rfl
@[simp] theorem sendAll_drive (dsts : List Nat) (body : FrameBody) (s : State) :
    (sendAll dsts body s).drive =
      s.drive := rfl
@[simp] theorem sendAll_track (dsts : List Nat) (body : FrameBody) (s : State) :
    (sendAll dsts body s).track =
      s.track := rfl
@[simp] theorem sendAll_hand (dsts : List Nat) (body : FrameBody) (s : State) :
    (sendAll dsts body s).hand =
      s.hand := rfl
@[simp] theorem sendAll_gate (dsts : List Nat) (body : FrameBody) (s : State) :
    (sendAll dsts body s).gate =
      s.gate := rfl
@[simp] theorem sendAll_inv (dsts : List Nat) (body : FrameBody) (s : State) :
    (sendAll dsts body s).inv =
      s.inv := rfl
@[simp] theorem sendAll_reg (dsts : List Nat) (body : FrameBody) (s : State) :
    (sendAll dsts body s).reg =
      s.reg := rfl
@[simp] theorem sendAll_comp (dsts : List Nat) (body : FrameBody) (s : State) :
    (sendAll dsts body s).comp =
      s.comp := rfl
@[simp] theorem sendAll_feed (dsts : List Nat) (body : FrameBody) (s : State) :
    (sendAll dsts body s).feed =
      s.feed := rfl
@[simp] theorem sendAll_flt (dsts : List Nat) (body : FrameBody) (s : State) :
    (sendAll dsts body s).flt =
      s.flt := rfl
@[simp] theorem sendAll_sweep (dsts : List Nat) (body : FrameBody) (s : State) :
    (sendAll dsts body s).sweep =
      s.sweep := rfl
@[simp] theorem sendAll_pending (dsts : List Nat) (body : FrameBody) (s : State) :
    (sendAll dsts body s).pending =
      s.pending := rfl

@[simp] theorem raise_pins (q : Request) (s : State) : (raise q s).pins = s.pins := rfl
@[simp] theorem raise_ctl (q : Request) (s : State) : (raise q s).ctl = s.ctl := rfl
@[simp] theorem raise_port (q : Request) (s : State) : (raise q s).port = s.port := rfl
@[simp] theorem raise_cfg (q : Request) (s : State) : (raise q s).cfg = s.cfg := rfl
@[simp] theorem raise_sens (q : Request) (s : State) : (raise q s).sens = s.sens := rfl
@[simp] theorem raise_drive (q : Request) (s : State) : (raise q s).drive = s.drive := rfl
@[simp] theorem raise_track (q : Request) (s : State) : (raise q s).track = s.track := rfl
@[simp] theorem raise_hand (q : Request) (s : State) : (raise q s).hand = s.hand := rfl
@[simp] theorem raise_gate (q : Request) (s : State) : (raise q s).gate = s.gate := rfl
@[simp] theorem raise_inv (q : Request) (s : State) : (raise q s).inv = s.inv := rfl
@[simp] theorem raise_reg (q : Request) (s : State) : (raise q s).reg = s.reg := rfl
@[simp] theorem raise_comp (q : Request) (s : State) : (raise q s).comp = s.comp := rfl
@[simp] theorem raise_feed (q : Request) (s : State) : (raise q s).feed = s.feed := rfl
@[simp] theorem raise_flt (q : Request) (s : State) :
    (raise q s).flt =
      if s.ctl.st.faultsPend then (s.flt.count q.code).pend q else s.flt.count q.code := rfl
@[simp] theorem raise_sweep (q : Request) (s : State) : (raise q s).sweep = s.sweep := rfl
@[simp] theorem raise_pending (q : Request) (s : State) : (raise q s).pending = s.pending := rfl

@[simp] theorem mapRec_pins (t : Tag) (f : Record → Record) (s : State) : (mapRec t f s).pins = s.pins := rfl
@[simp] theorem mapRec_ctl (t : Tag) (f : Record → Record) (s : State) : (mapRec t f s).ctl = s.ctl := rfl
@[simp] theorem mapRec_port (t : Tag) (f : Record → Record) (s : State) : (mapRec t f s).port = s.port := rfl
@[simp] theorem mapRec_cfg (t : Tag) (f : Record → Record) (s : State) : (mapRec t f s).cfg = s.cfg := rfl
@[simp] theorem mapRec_sens (t : Tag) (f : Record → Record) (s : State) : (mapRec t f s).sens = s.sens := rfl
@[simp] theorem mapRec_drive (t : Tag) (f : Record → Record) (s : State) : (mapRec t f s).drive = s.drive := rfl
@[simp] theorem mapRec_track (t : Tag) (f : Record → Record) (s : State) :
    (mapRec t f s).track =
      { s.track with queue := s.track.queue.map fun r => if r.tag = t then f r else r } := rfl
@[simp] theorem mapRec_hand (t : Tag) (f : Record → Record) (s : State) : (mapRec t f s).hand = s.hand := rfl
@[simp] theorem mapRec_gate (t : Tag) (f : Record → Record) (s : State) : (mapRec t f s).gate = s.gate := rfl
@[simp] theorem mapRec_inv (t : Tag) (f : Record → Record) (s : State) : (mapRec t f s).inv = s.inv := rfl
@[simp] theorem mapRec_reg (t : Tag) (f : Record → Record) (s : State) : (mapRec t f s).reg = s.reg := rfl
@[simp] theorem mapRec_comp (t : Tag) (f : Record → Record) (s : State) : (mapRec t f s).comp = s.comp := rfl
@[simp] theorem mapRec_feed (t : Tag) (f : Record → Record) (s : State) : (mapRec t f s).feed = s.feed := rfl
@[simp] theorem mapRec_flt (t : Tag) (f : Record → Record) (s : State) : (mapRec t f s).flt = s.flt := rfl
@[simp] theorem mapRec_sweep (t : Tag) (f : Record → Record) (s : State) : (mapRec t f s).sweep = s.sweep := rfl
@[simp] theorem mapRec_pending (t : Tag) (f : Record → Record) (s : State) : (mapRec t f s).pending = s.pending := rfl

@[simp] theorem setSensor_pins (k : Nat) (f : Sensor → Sensor) (s : State) : (setSensor k f s).pins = s.pins := rfl
@[simp] theorem setSensor_ctl (k : Nat) (f : Sensor → Sensor) (s : State) : (setSensor k f s).ctl = s.ctl := rfl
@[simp] theorem setSensor_port (k : Nat) (f : Sensor → Sensor) (s : State) : (setSensor k f s).port = s.port := rfl
@[simp] theorem setSensor_cfg (k : Nat) (f : Sensor → Sensor) (s : State) : (setSensor k f s).cfg = s.cfg := rfl
@[simp] theorem setSensor_sens (k : Nat) (f : Sensor → Sensor) (s : State) :
    (setSensor k f s).sens =
      { s.sens with sensors := s.sens.sensors.modify k f } := rfl
@[simp] theorem setSensor_drive (k : Nat) (f : Sensor → Sensor) (s : State) : (setSensor k f s).drive = s.drive := rfl
@[simp] theorem setSensor_track (k : Nat) (f : Sensor → Sensor) (s : State) : (setSensor k f s).track = s.track := rfl
@[simp] theorem setSensor_hand (k : Nat) (f : Sensor → Sensor) (s : State) : (setSensor k f s).hand = s.hand := rfl
@[simp] theorem setSensor_gate (k : Nat) (f : Sensor → Sensor) (s : State) : (setSensor k f s).gate = s.gate := rfl
@[simp] theorem setSensor_inv (k : Nat) (f : Sensor → Sensor) (s : State) : (setSensor k f s).inv = s.inv := rfl
@[simp] theorem setSensor_reg (k : Nat) (f : Sensor → Sensor) (s : State) : (setSensor k f s).reg = s.reg := rfl
@[simp] theorem setSensor_comp (k : Nat) (f : Sensor → Sensor) (s : State) : (setSensor k f s).comp = s.comp := rfl
@[simp] theorem setSensor_feed (k : Nat) (f : Sensor → Sensor) (s : State) : (setSensor k f s).feed = s.feed := rfl
@[simp] theorem setSensor_flt (k : Nat) (f : Sensor → Sensor) (s : State) : (setSensor k f s).flt = s.flt := rfl
@[simp] theorem setSensor_sweep (k : Nat) (f : Sensor → Sensor) (s : State) : (setSensor k f s).sweep = s.sweep := rfl
@[simp] theorem setSensor_pending (k : Nat) (f : Sensor → Sensor) (s : State) :
    (setSensor k f s).pending =
      s.pending := rfl

@[simp] theorem withHold_pins (hold : List HoldEntry) (s : State) : (s.withHold hold).pins = s.pins := rfl
@[simp] theorem withHold_ctl (hold : List HoldEntry) (s : State) : (s.withHold hold).ctl = s.ctl := rfl
@[simp] theorem withHold_port (hold : List HoldEntry) (s : State) : (s.withHold hold).port = s.port := rfl
@[simp] theorem withHold_cfg (hold : List HoldEntry) (s : State) : (s.withHold hold).cfg = s.cfg := rfl
@[simp] theorem withHold_sens (hold : List HoldEntry) (s : State) : (s.withHold hold).sens = s.sens := rfl
@[simp] theorem withHold_drive (hold : List HoldEntry) (s : State) :
    (s.withHold hold).drive =
      { s.drive with hold := hold } := rfl
@[simp] theorem withHold_track (hold : List HoldEntry) (s : State) : (s.withHold hold).track = s.track := rfl
@[simp] theorem withHold_hand (hold : List HoldEntry) (s : State) : (s.withHold hold).hand = s.hand := rfl
@[simp] theorem withHold_gate (hold : List HoldEntry) (s : State) : (s.withHold hold).gate = s.gate := rfl
@[simp] theorem withHold_inv (hold : List HoldEntry) (s : State) : (s.withHold hold).inv = s.inv := rfl
@[simp] theorem withHold_reg (hold : List HoldEntry) (s : State) : (s.withHold hold).reg = s.reg := rfl
@[simp] theorem withHold_comp (hold : List HoldEntry) (s : State) : (s.withHold hold).comp = s.comp := rfl
@[simp] theorem withHold_feed (hold : List HoldEntry) (s : State) : (s.withHold hold).feed = s.feed := rfl
@[simp] theorem withHold_flt (hold : List HoldEntry) (s : State) : (s.withHold hold).flt = s.flt := rfl
@[simp] theorem withHold_sweep (hold : List HoldEntry) (s : State) : (s.withHold hold).sweep = s.sweep := rfl
@[simp] theorem withHold_pending (hold : List HoldEntry) (s : State) : (s.withHold hold).pending = s.pending := rfl

@[simp] theorem setChan_a_pins (f : Chan → Chan) (s : State) : (setChan .a f s).pins = s.pins := rfl
@[simp] theorem setChan_a_ctl (f : Chan → Chan) (s : State) : (setChan .a f s).ctl = s.ctl := rfl
@[simp] theorem setChan_a_port (f : Chan → Chan) (s : State) : (setChan .a f s).port = s.port := rfl
@[simp] theorem setChan_a_cfg (f : Chan → Chan) (s : State) : (setChan .a f s).cfg = s.cfg := rfl
@[simp] theorem setChan_a_sens (f : Chan → Chan) (s : State) : (setChan .a f s).sens = s.sens := rfl
@[simp] theorem setChan_a_drive (f : Chan → Chan) (s : State) :
    (setChan .a f s).drive =
      { s.drive with chA := f s.drive.chA } := rfl
@[simp] theorem setChan_a_track (f : Chan → Chan) (s : State) : (setChan .a f s).track = s.track := rfl
@[simp] theorem setChan_a_hand (f : Chan → Chan) (s : State) : (setChan .a f s).hand = s.hand := rfl
@[simp] theorem setChan_a_gate (f : Chan → Chan) (s : State) : (setChan .a f s).gate = s.gate := rfl
@[simp] theorem setChan_a_inv (f : Chan → Chan) (s : State) : (setChan .a f s).inv = s.inv := rfl
@[simp] theorem setChan_a_reg (f : Chan → Chan) (s : State) : (setChan .a f s).reg = s.reg := rfl
@[simp] theorem setChan_a_comp (f : Chan → Chan) (s : State) : (setChan .a f s).comp = s.comp := rfl
@[simp] theorem setChan_a_feed (f : Chan → Chan) (s : State) : (setChan .a f s).feed = s.feed := rfl
@[simp] theorem setChan_a_flt (f : Chan → Chan) (s : State) : (setChan .a f s).flt = s.flt := rfl
@[simp] theorem setChan_a_sweep (f : Chan → Chan) (s : State) : (setChan .a f s).sweep = s.sweep := rfl
@[simp] theorem setChan_a_pending (f : Chan → Chan) (s : State) : (setChan .a f s).pending = s.pending := rfl

@[simp] theorem setChan_b_pins (f : Chan → Chan) (s : State) : (setChan .b f s).pins = s.pins := rfl
@[simp] theorem setChan_b_ctl (f : Chan → Chan) (s : State) : (setChan .b f s).ctl = s.ctl := rfl
@[simp] theorem setChan_b_port (f : Chan → Chan) (s : State) : (setChan .b f s).port = s.port := rfl
@[simp] theorem setChan_b_cfg (f : Chan → Chan) (s : State) : (setChan .b f s).cfg = s.cfg := rfl
@[simp] theorem setChan_b_sens (f : Chan → Chan) (s : State) : (setChan .b f s).sens = s.sens := rfl
@[simp] theorem setChan_b_drive (f : Chan → Chan) (s : State) :
    (setChan .b f s).drive =
      { s.drive with chB := f s.drive.chB } := rfl
@[simp] theorem setChan_b_track (f : Chan → Chan) (s : State) : (setChan .b f s).track = s.track := rfl
@[simp] theorem setChan_b_hand (f : Chan → Chan) (s : State) : (setChan .b f s).hand = s.hand := rfl
@[simp] theorem setChan_b_gate (f : Chan → Chan) (s : State) : (setChan .b f s).gate = s.gate := rfl
@[simp] theorem setChan_b_inv (f : Chan → Chan) (s : State) : (setChan .b f s).inv = s.inv := rfl
@[simp] theorem setChan_b_reg (f : Chan → Chan) (s : State) : (setChan .b f s).reg = s.reg := rfl
@[simp] theorem setChan_b_comp (f : Chan → Chan) (s : State) : (setChan .b f s).comp = s.comp := rfl
@[simp] theorem setChan_b_feed (f : Chan → Chan) (s : State) : (setChan .b f s).feed = s.feed := rfl
@[simp] theorem setChan_b_flt (f : Chan → Chan) (s : State) : (setChan .b f s).flt = s.flt := rfl
@[simp] theorem setChan_b_sweep (f : Chan → Chan) (s : State) : (setChan .b f s).sweep = s.sweep := rfl
@[simp] theorem setChan_b_pending (f : Chan → Chan) (s : State) : (setChan .b f s).pending = s.pending := rfl

@[simp] theorem emergencyStop_pins (s : State) : (emergencyStop s).pins = s.pins := rfl
@[simp] theorem emergencyStop_ctl (s : State) : (emergencyStop s).ctl = s.ctl := rfl
@[simp] theorem emergencyStop_port (s : State) : (emergencyStop s).port = s.port := rfl
@[simp] theorem emergencyStop_cfg (s : State) : (emergencyStop s).cfg = s.cfg := rfl
@[simp] theorem emergencyStop_sens (s : State) : (emergencyStop s).sens = s.sens := rfl
@[simp] theorem emergencyStop_drive (s : State) :
    (emergencyStop s).drive =
      { s.drive with chA := s.drive.chA.halt, chB := s.drive.chB.halt } := rfl
@[simp] theorem emergencyStop_track (s : State) : (emergencyStop s).track = s.track := rfl
@[simp] theorem emergencyStop_hand (s : State) : (emergencyStop s).hand = s.hand := rfl
@[simp] theorem emergencyStop_gate (s : State) : (emergencyStop s).gate = s.gate := rfl
@[simp] theorem emergencyStop_inv (s : State) : (emergencyStop s).inv = s.inv := rfl
@[simp] theorem emergencyStop_reg (s : State) : (emergencyStop s).reg = s.reg := rfl
@[simp] theorem emergencyStop_comp (s : State) : (emergencyStop s).comp = s.comp := rfl
@[simp] theorem emergencyStop_feed (s : State) : (emergencyStop s).feed = s.feed := rfl
@[simp] theorem emergencyStop_flt (s : State) : (emergencyStop s).flt = s.flt := rfl
@[simp] theorem emergencyStop_sweep (s : State) : (emergencyStop s).sweep = s.sweep := rfl
@[simp] theorem emergencyStop_pending (s : State) : (emergencyStop s).pending = s.pending := rfl

@[simp] theorem reply_pins (reason : StatusReason) (s : State) : (reply reason s).pins = s.pins := rfl
@[simp] theorem reply_ctl (reason : StatusReason) (s : State) : (reply reason s).ctl = s.ctl := rfl
@[simp] theorem reply_port (reason : StatusReason) (s : State) :
    (reply reason s).port =
      s.port.post s.engAddr (.status (s.statusOf reason none)) := rfl
@[simp] theorem reply_cfg (reason : StatusReason) (s : State) : (reply reason s).cfg = s.cfg := rfl
@[simp] theorem reply_sens (reason : StatusReason) (s : State) : (reply reason s).sens = s.sens := rfl
@[simp] theorem reply_drive (reason : StatusReason) (s : State) : (reply reason s).drive = s.drive := rfl
@[simp] theorem reply_track (reason : StatusReason) (s : State) : (reply reason s).track = s.track := rfl
@[simp] theorem reply_hand (reason : StatusReason) (s : State) : (reply reason s).hand = s.hand := rfl
@[simp] theorem reply_gate (reason : StatusReason) (s : State) : (reply reason s).gate = s.gate := rfl
@[simp] theorem reply_inv (reason : StatusReason) (s : State) : (reply reason s).inv = s.inv := rfl
@[simp] theorem reply_reg (reason : StatusReason) (s : State) : (reply reason s).reg = s.reg := rfl
@[simp] theorem reply_comp (reason : StatusReason) (s : State) : (reply reason s).comp = s.comp := rfl
@[simp] theorem reply_feed (reason : StatusReason) (s : State) : (reply reason s).feed = s.feed := rfl
@[simp] theorem reply_flt (reason : StatusReason) (s : State) : (reply reason s).flt = s.flt := rfl
@[simp] theorem reply_sweep (reason : StatusReason) (s : State) : (reply reason s).sweep = s.sweep := rfl
@[simp] theorem reply_pending (reason : StatusReason) (s : State) : (reply reason s).pending = s.pending := rfl

@[simp] theorem reportFault_pins (q : Request) (s : State) : (reportFault q s).pins = s.pins := rfl
@[simp] theorem reportFault_ctl (q : Request) (s : State) : (reportFault q s).ctl = s.ctl := rfl
@[simp] theorem reportFault_port (q : Request) (s : State) :
    (reportFault q s).port =
      s.port.post s.engAddr (.fault q) := rfl
@[simp] theorem reportFault_cfg (q : Request) (s : State) : (reportFault q s).cfg = s.cfg := rfl
@[simp] theorem reportFault_sens (q : Request) (s : State) : (reportFault q s).sens = s.sens := rfl
@[simp] theorem reportFault_drive (q : Request) (s : State) : (reportFault q s).drive = s.drive := rfl
@[simp] theorem reportFault_track (q : Request) (s : State) : (reportFault q s).track = s.track := rfl
@[simp] theorem reportFault_hand (q : Request) (s : State) : (reportFault q s).hand = s.hand := rfl
@[simp] theorem reportFault_gate (q : Request) (s : State) : (reportFault q s).gate = s.gate := rfl
@[simp] theorem reportFault_inv (q : Request) (s : State) : (reportFault q s).inv = s.inv := rfl
@[simp] theorem reportFault_reg (q : Request) (s : State) : (reportFault q s).reg = s.reg := rfl
@[simp] theorem reportFault_comp (q : Request) (s : State) : (reportFault q s).comp = s.comp := rfl
@[simp] theorem reportFault_feed (q : Request) (s : State) : (reportFault q s).feed = s.feed := rfl
@[simp] theorem reportFault_flt (q : Request) (s : State) : (reportFault q s).flt = s.flt := rfl
@[simp] theorem reportFault_sweep (q : Request) (s : State) : (reportFault q s).sweep = s.sweep := rfl
@[simp] theorem reportFault_pending (q : Request) (s : State) : (reportFault q s).pending = s.pending := rfl

@[simp] theorem setState_pins (n : StationState) (s : State) : (setState n s).pins = s.pins := rfl
@[simp] theorem setState_ctl (n : StationState) (s : State) : (setState n s).ctl = { s.ctl with st := n } := rfl
@[simp] theorem setState_port (n : StationState) (s : State) : (setState n s).port = s.port := rfl
@[simp] theorem setState_cfg (n : StationState) (s : State) : (setState n s).cfg = s.cfg := rfl
@[simp] theorem setState_sens (n : StationState) (s : State) : (setState n s).sens = s.sens := rfl
@[simp] theorem setState_drive (n : StationState) (s : State) : (setState n s).drive = s.drive := rfl
@[simp] theorem setState_track (n : StationState) (s : State) : (setState n s).track = s.track := rfl
@[simp] theorem setState_hand (n : StationState) (s : State) : (setState n s).hand = s.hand := rfl
@[simp] theorem setState_gate (n : StationState) (s : State) : (setState n s).gate = s.gate := rfl
@[simp] theorem setState_inv (n : StationState) (s : State) : (setState n s).inv = s.inv := rfl
@[simp] theorem setState_reg (n : StationState) (s : State) : (setState n s).reg = s.reg := rfl
@[simp] theorem setState_comp (n : StationState) (s : State) : (setState n s).comp = s.comp := rfl
@[simp] theorem setState_feed (n : StationState) (s : State) : (setState n s).feed = s.feed := rfl
@[simp] theorem setState_flt (n : StationState) (s : State) : (setState n s).flt = s.flt := rfl
@[simp] theorem setState_sweep (n : StationState) (s : State) : (setState n s).sweep = s.sweep := rfl
@[simp] theorem setState_pending (n : StationState) (s : State) : (setState n s).pending = s.pending := rfl

@[simp] theorem pushContext_pins (c : Context) (s : State) : (pushContext c s).pins = s.pins := rfl
@[simp] theorem pushContext_ctl (c : Context) (s : State) : (pushContext c s).ctl = s.ctl := rfl
@[simp] theorem pushContext_port (c : Context) (s : State) : (pushContext c s).port = s.port := rfl
@[simp] theorem pushContext_cfg (c : Context) (s : State) : (pushContext c s).cfg = s.cfg := rfl
@[simp] theorem pushContext_sens (c : Context) (s : State) : (pushContext c s).sens = s.sens := rfl
@[simp] theorem pushContext_drive (c : Context) (s : State) : (pushContext c s).drive = s.drive := rfl
@[simp] theorem pushContext_track (c : Context) (s : State) : (pushContext c s).track = s.track := rfl
@[simp] theorem pushContext_hand (c : Context) (s : State) : (pushContext c s).hand = s.hand := rfl
@[simp] theorem pushContext_gate (c : Context) (s : State) : (pushContext c s).gate = s.gate := rfl
@[simp] theorem pushContext_inv (c : Context) (s : State) : (pushContext c s).inv = s.inv := rfl
@[simp] theorem pushContext_reg (c : Context) (s : State) : (pushContext c s).reg = s.reg := rfl
@[simp] theorem pushContext_comp (c : Context) (s : State) : (pushContext c s).comp = s.comp := rfl
@[simp] theorem pushContext_feed (c : Context) (s : State) : (pushContext c s).feed = s.feed := rfl
@[simp] theorem pushContext_flt (c : Context) (s : State) :
    (pushContext c s).flt =
      { s.flt with stack := c :: s.flt.stack } := rfl
@[simp] theorem pushContext_sweep (c : Context) (s : State) : (pushContext c s).sweep = s.sweep := rfl
@[simp] theorem pushContext_pending (c : Context) (s : State) : (pushContext c s).pending = s.pending := rfl

@[simp] theorem pinSensor_pins (k : Nat) (on : Bool) (s : State) :
    (pinSensor k on s).pins =
      { s.pins with sensors := withBit s.pins.sensors k on } := rfl
@[simp] theorem pinSensor_ctl (k : Nat) (on : Bool) (s : State) : (pinSensor k on s).ctl = s.ctl := rfl
@[simp] theorem pinSensor_port (k : Nat) (on : Bool) (s : State) : (pinSensor k on s).port = s.port := rfl
@[simp] theorem pinSensor_cfg (k : Nat) (on : Bool) (s : State) : (pinSensor k on s).cfg = s.cfg := rfl
@[simp] theorem pinSensor_sens (k : Nat) (on : Bool) (s : State) : (pinSensor k on s).sens = s.sens := rfl
@[simp] theorem pinSensor_drive (k : Nat) (on : Bool) (s : State) : (pinSensor k on s).drive = s.drive := rfl
@[simp] theorem pinSensor_track (k : Nat) (on : Bool) (s : State) : (pinSensor k on s).track = s.track := rfl
@[simp] theorem pinSensor_hand (k : Nat) (on : Bool) (s : State) : (pinSensor k on s).hand = s.hand := rfl
@[simp] theorem pinSensor_gate (k : Nat) (on : Bool) (s : State) : (pinSensor k on s).gate = s.gate := rfl
@[simp] theorem pinSensor_inv (k : Nat) (on : Bool) (s : State) : (pinSensor k on s).inv = s.inv := rfl
@[simp] theorem pinSensor_reg (k : Nat) (on : Bool) (s : State) : (pinSensor k on s).reg = s.reg := rfl
@[simp] theorem pinSensor_comp (k : Nat) (on : Bool) (s : State) : (pinSensor k on s).comp = s.comp := rfl
@[simp] theorem pinSensor_feed (k : Nat) (on : Bool) (s : State) : (pinSensor k on s).feed = s.feed := rfl
@[simp] theorem pinSensor_flt (k : Nat) (on : Bool) (s : State) : (pinSensor k on s).flt = s.flt := rfl
@[simp] theorem pinSensor_sweep (k : Nat) (on : Bool) (s : State) : (pinSensor k on s).sweep = s.sweep := rfl
@[simp] theorem pinSensor_pending (k : Nat) (on : Bool) (s : State) : (pinSensor k on s).pending = s.pending := rfl

@[simp] theorem pinLine_pins (n : Nat) (high : Bool) (s : State) :
    (pinLine n high s).pins =
      { s.pins with lines := withBit s.pins.lines n high } := rfl
@[simp] theorem pinLine_ctl (n : Nat) (high : Bool) (s : State) : (pinLine n high s).ctl = s.ctl := rfl
@[simp] theorem pinLine_port (n : Nat) (high : Bool) (s : State) : (pinLine n high s).port = s.port := rfl
@[simp] theorem pinLine_cfg (n : Nat) (high : Bool) (s : State) : (pinLine n high s).cfg = s.cfg := rfl
@[simp] theorem pinLine_sens (n : Nat) (high : Bool) (s : State) : (pinLine n high s).sens = s.sens := rfl
@[simp] theorem pinLine_drive (n : Nat) (high : Bool) (s : State) : (pinLine n high s).drive = s.drive := rfl
@[simp] theorem pinLine_track (n : Nat) (high : Bool) (s : State) : (pinLine n high s).track = s.track := rfl
@[simp] theorem pinLine_hand (n : Nat) (high : Bool) (s : State) : (pinLine n high s).hand = s.hand := rfl
@[simp] theorem pinLine_gate (n : Nat) (high : Bool) (s : State) : (pinLine n high s).gate = s.gate := rfl
@[simp] theorem pinLine_inv (n : Nat) (high : Bool) (s : State) : (pinLine n high s).inv = s.inv := rfl
@[simp] theorem pinLine_reg (n : Nat) (high : Bool) (s : State) : (pinLine n high s).reg = s.reg := rfl
@[simp] theorem pinLine_comp (n : Nat) (high : Bool) (s : State) : (pinLine n high s).comp = s.comp := rfl
@[simp] theorem pinLine_feed (n : Nat) (high : Bool) (s : State) : (pinLine n high s).feed = s.feed := rfl
@[simp] theorem pinLine_flt (n : Nat) (high : Bool) (s : State) : (pinLine n high s).flt = s.flt := rfl
@[simp] theorem pinLine_sweep (n : Nat) (high : Bool) (s : State) : (pinLine n high s).sweep = s.sweep := rfl
@[simp] theorem pinLine_pending (n : Nat) (high : Bool) (s : State) : (pinLine n high s).pending = s.pending := rfl

@[simp] theorem listAtGate_pins (t : Tag) (s : State) : (listAtGate t s).pins = s.pins := rfl
@[simp] theorem listAtGate_ctl (t : Tag) (s : State) : (listAtGate t s).ctl = s.ctl := rfl
@[simp] theorem listAtGate_port (t : Tag) (s : State) : (listAtGate t s).port = s.port := rfl
@[simp] theorem listAtGate_cfg (t : Tag) (s : State) : (listAtGate t s).cfg = s.cfg := rfl
@[simp] theorem listAtGate_sens (t : Tag) (s : State) : (listAtGate t s).sens = s.sens := rfl
@[simp] theorem listAtGate_drive (t : Tag) (s : State) : (listAtGate t s).drive = s.drive := rfl
@[simp] theorem listAtGate_track (t : Tag) (s : State) : (listAtGate t s).track = s.track := rfl
@[simp] theorem listAtGate_hand (t : Tag) (s : State) : (listAtGate t s).hand = s.hand := rfl
@[simp] theorem listAtGate_gate (t : Tag) (s : State) :
    (listAtGate t s).gate =
      { s.gate with list := s.gate.list ++ [t] } := rfl
@[simp] theorem listAtGate_inv (t : Tag) (s : State) : (listAtGate t s).inv = s.inv := rfl
@[simp] theorem listAtGate_reg (t : Tag) (s : State) : (listAtGate t s).reg = s.reg := rfl
@[simp] theorem listAtGate_comp (t : Tag) (s : State) : (listAtGate t s).comp = s.comp := rfl
@[simp] theorem listAtGate_feed (t : Tag) (s : State) : (listAtGate t s).feed = s.feed := rfl
@[simp] theorem listAtGate_flt (t : Tag) (s : State) : (listAtGate t s).flt = s.flt := rfl
@[simp] theorem listAtGate_sweep (t : Tag) (s : State) : (listAtGate t s).sweep = s.sweep := rfl
@[simp] theorem listAtGate_pending (t : Tag) (s : State) : (listAtGate t s).pending = s.pending := rfl

@[simp] theorem startRunout_pins (s : State) : (startRunout s).pins = s.pins := rfl
@[simp] theorem startRunout_ctl (s : State) : (startRunout s).ctl = s.ctl := rfl
@[simp] theorem startRunout_port (s : State) : (startRunout s).port = s.port := rfl
@[simp] theorem startRunout_cfg (s : State) : (startRunout s).cfg = s.cfg := rfl
@[simp] theorem startRunout_sens (s : State) : (startRunout s).sens = s.sens := rfl
@[simp] theorem startRunout_drive (s : State) : (startRunout s).drive = s.drive := rfl
@[simp] theorem startRunout_track (s : State) : (startRunout s).track = s.track := rfl
@[simp] theorem startRunout_hand (s : State) : (startRunout s).hand = s.hand := rfl
@[simp] theorem startRunout_gate (s : State) : (startRunout s).gate = s.gate := rfl
@[simp] theorem startRunout_inv (s : State) :
    (startRunout s).inv =
      { s.inv with seq := if s.revD = 0 then .stopping else .runout, runout := 0 } := rfl
@[simp] theorem startRunout_reg (s : State) : (startRunout s).reg = s.reg := rfl
@[simp] theorem startRunout_comp (s : State) : (startRunout s).comp = s.comp := rfl
@[simp] theorem startRunout_feed (s : State) : (startRunout s).feed = s.feed := rfl
@[simp] theorem startRunout_flt (s : State) : (startRunout s).flt = s.flt := rfl
@[simp] theorem startRunout_sweep (s : State) : (startRunout s).sweep = s.sweep := rfl
@[simp] theorem startRunout_pending (s : State) : (startRunout s).pending = s.pending := rfl

@[simp] theorem addLate_pins (e : TrayEntry) (s : State) : (addLate e s).pins = s.pins := rfl
@[simp] theorem addLate_ctl (e : TrayEntry) (s : State) : (addLate e s).ctl = s.ctl := rfl
@[simp] theorem addLate_port (e : TrayEntry) (s : State) : (addLate e s).port = s.port := rfl
@[simp] theorem addLate_cfg (e : TrayEntry) (s : State) : (addLate e s).cfg = s.cfg := rfl
@[simp] theorem addLate_sens (e : TrayEntry) (s : State) : (addLate e s).sens = s.sens := rfl
@[simp] theorem addLate_drive (e : TrayEntry) (s : State) : (addLate e s).drive = s.drive := rfl
@[simp] theorem addLate_track (e : TrayEntry) (s : State) : (addLate e s).track = s.track := rfl
@[simp] theorem addLate_hand (e : TrayEntry) (s : State) : (addLate e s).hand = s.hand := rfl
@[simp] theorem addLate_gate (e : TrayEntry) (s : State) : (addLate e s).gate = s.gate := rfl
@[simp] theorem addLate_inv (e : TrayEntry) (s : State) : (addLate e s).inv = s.inv := rfl
@[simp] theorem addLate_reg (e : TrayEntry) (s : State) : (addLate e s).reg = s.reg := rfl
@[simp] theorem addLate_comp (e : TrayEntry) (s : State) :
    (addLate e s).comp =
      { s.comp with late := s.comp.late ++ [e] } := rfl
@[simp] theorem addLate_feed (e : TrayEntry) (s : State) : (addLate e s).feed = s.feed := rfl
@[simp] theorem addLate_flt (e : TrayEntry) (s : State) : (addLate e s).flt = s.flt := rfl
@[simp] theorem addLate_sweep (e : TrayEntry) (s : State) : (addLate e s).sweep = s.sweep := rfl
@[simp] theorem addLate_pending (e : TrayEntry) (s : State) : (addLate e s).pending = s.pending := rfl

@[simp] theorem waitingFor_pins (waiting : List Instr) (s : State) : (s.waitingFor waiting).pins = s.pins := rfl
@[simp] theorem waitingFor_ctl (waiting : List Instr) (s : State) : (s.waitingFor waiting).ctl = s.ctl := rfl
@[simp] theorem waitingFor_port (waiting : List Instr) (s : State) : (s.waitingFor waiting).port = s.port := rfl
@[simp] theorem waitingFor_cfg (waiting : List Instr) (s : State) : (s.waitingFor waiting).cfg = s.cfg := rfl
@[simp] theorem waitingFor_sens (waiting : List Instr) (s : State) : (s.waitingFor waiting).sens = s.sens := rfl
@[simp] theorem waitingFor_drive (waiting : List Instr) (s : State) : (s.waitingFor waiting).drive = s.drive := rfl
@[simp] theorem waitingFor_track (waiting : List Instr) (s : State) : (s.waitingFor waiting).track = s.track := rfl
@[simp] theorem waitingFor_hand (waiting : List Instr) (s : State) : (s.waitingFor waiting).hand = s.hand := rfl
@[simp] theorem waitingFor_gate (waiting : List Instr) (s : State) : (s.waitingFor waiting).gate = s.gate := rfl
@[simp] theorem waitingFor_inv (waiting : List Instr) (s : State) : (s.waitingFor waiting).inv = s.inv := rfl
@[simp] theorem waitingFor_reg (waiting : List Instr) (s : State) : (s.waitingFor waiting).reg = s.reg := rfl
@[simp] theorem waitingFor_comp (waiting : List Instr) (s : State) : (s.waitingFor waiting).comp = s.comp := rfl
@[simp] theorem waitingFor_feed (waiting : List Instr) (s : State) : (s.waitingFor waiting).feed = s.feed := rfl
@[simp] theorem waitingFor_flt (waiting : List Instr) (s : State) : (s.waitingFor waiting).flt = s.flt := rfl
@[simp] theorem waitingFor_sweep (waiting : List Instr) (s : State) : (s.waitingFor waiting).sweep = s.sweep := rfl
@[simp] theorem waitingFor_pending (waiting : List Instr) (s : State) :
    (s.waitingFor waiting).pending =
      waiting := rfl

@[simp] theorem bufferFrame_pins (c : Instr) (s : State) : (bufferFrame c s).pins = s.pins := rfl
@[simp] theorem bufferFrame_ctl (c : Instr) (s : State) : (bufferFrame c s).ctl = s.ctl := rfl
@[simp] theorem bufferFrame_port (c : Instr) (s : State) :
    (bufferFrame c s).port = { s.port with rx := s.port.rx ++ [c] } := rfl
@[simp] theorem bufferFrame_cfg (c : Instr) (s : State) : (bufferFrame c s).cfg = s.cfg := rfl
@[simp] theorem bufferFrame_sens (c : Instr) (s : State) : (bufferFrame c s).sens = s.sens := rfl
@[simp] theorem bufferFrame_drive (c : Instr) (s : State) : (bufferFrame c s).drive = s.drive := rfl
@[simp] theorem bufferFrame_track (c : Instr) (s : State) : (bufferFrame c s).track = s.track := rfl
@[simp] theorem bufferFrame_hand (c : Instr) (s : State) : (bufferFrame c s).hand = s.hand := rfl
@[simp] theorem bufferFrame_gate (c : Instr) (s : State) : (bufferFrame c s).gate = s.gate := rfl
@[simp] theorem bufferFrame_inv (c : Instr) (s : State) : (bufferFrame c s).inv = s.inv := rfl
@[simp] theorem bufferFrame_reg (c : Instr) (s : State) : (bufferFrame c s).reg = s.reg := rfl
@[simp] theorem bufferFrame_comp (c : Instr) (s : State) : (bufferFrame c s).comp = s.comp := rfl
@[simp] theorem bufferFrame_feed (c : Instr) (s : State) : (bufferFrame c s).feed = s.feed := rfl
@[simp] theorem bufferFrame_flt (c : Instr) (s : State) : (bufferFrame c s).flt = s.flt := rfl
@[simp] theorem bufferFrame_sweep (c : Instr) (s : State) : (bufferFrame c s).sweep = s.sweep := rfl
@[simp] theorem bufferFrame_pending (c : Instr) (s : State) : (bufferFrame c s).pending = s.pending := rfl

/-! ### Records: their tags stand through every change (R4, R25, R31, R36, R103) -/

@[simp] theorem travel_tag (len : Nat) (r : Record) : (r.travel len).tag = r.tag := rfl
@[simp] theorem advance_tag (s : State) (k : Nat) (r : Record) : (Record.advance s k r).tag = r.tag := rfl
@[simp] theorem confirmAt_tag (s : State) (k : Nat) (r : Record) : (Record.confirmAt s k r).tag = r.tag := rfl
@[simp] theorem ghostConfirmAt_tag (s : State) (k : Nat) (r : Record) : (Record.ghostConfirmAt s k r).tag = r.tag := rfl
@[simp] theorem rearm_tag (s : State) (r : Record) : (Record.rearm s r).tag = r.tag := rfl
@[simp] theorem rebase_tag (s : State) (v : Nat) (r : Record) : (Record.rebase s v r).tag = r.tag := rfl
@[simp] theorem misroute_tag (r : Record) : (r.misroute).tag = r.tag := rfl

@[simp] theorem withRoute_tag (s : State) (route : Route) (r : Record) : (Record.withRoute s route r).tag = r.tag := by
  unfold Record.withRoute; dsimp only; split <;> rfl

@[simp] theorem breakIn_tag (set : Nat) (r : Record) : (r.breakIn set).tag = r.tag := by
  unfold Record.breakIn; split <;> rfl

@[simp] theorem skipMarked_tag (r : Record) : r.skipMarked.tag = r.tag := by
  unfold Record.skipMarked; split <;> rfl

@[simp] theorem spoil_tag (r : Record) : r.spoil.tag = r.tag := rfl

/-! ### The pending requests when a record leaves (R145) -/

@[simp] theorem without_code (t : Tag) (q : Request) : (q.without t).code = q.code := by
  unfold Request.without; split <;> rfl

@[simp] theorem faults_without_codes (f : FaultUnit) (t : Tag) :
    (f.without t).pending.map Request.code = f.pending.map Request.code := by
  simp [FaultUnit.without, Function.comp_def]

@[simp] theorem faults_without_stack (f : FaultUnit) (t : Tag) : (f.without t).stack = f.stack := rfl
@[simp] theorem faults_without_counters (f : FaultUnit) (t : Tag) : (f.without t).counters = f.counters := rfl
@[simp] theorem faults_without_restartNeeded (f : FaultUnit) (t : Tag) :
    (f.without t).restartNeeded = f.restartNeeded := rfl

@[simp] theorem faults_clearPath_codes (f : FaultUnit) :
    f.clearPath.pending.map Request.code = f.pending.map Request.code := by
  simp [FaultUnit.clearPath, Function.comp_def]

@[simp] theorem faults_clearPath_stack (f : FaultUnit) : f.clearPath.stack = f.stack := rfl
@[simp] theorem faults_clearPath_counters (f : FaultUnit) : f.clearPath.counters = f.counters := rfl
@[simp] theorem faults_clearPath_restartNeeded (f : FaultUnit) : f.clearPath.restartNeeded = f.restartNeeded := rfl

end Sys2Proof.Machine
end

