-- ==== Sys2Proof/Laws/Queue.lean ====
section
/-! SUPPORT. Looking records and sensors up after an update: the record of a tag in a sound queue (R11), the records and
sensors a change leaves as they were. -/

namespace Sys2Proof.Machine

/-- In a queue with no tag twice a record is the one its tag names (R11, R15). -/
theorem find?_tag_of_mem {l : List Record} (h : (l.map Record.tag).Nodup) {r : Record} (hr : r ∈ l) :
    l.find? (fun x => x.tag == r.tag) = some r := by
  induction l with
  | nil => cases hr
  | cons a l ih =>
    simp only [List.map_cons, List.nodup_cons] at h
    rcases List.mem_cons.mp hr with rfl | hm
    · simp
    · have : a.tag ≠ r.tag := fun e => h.1 (e ▸ List.mem_map_of_mem hm)
      simp [this, ih h.2 hm]

/-- The record with a tag (R15). -/
theorem rec?_of_mem {s : State} (h : s.queueSound) {r : Record} (hr : r ∈ s.track.queue) : s.rec? r.tag = some r :=
  find?_tag_of_mem h.2 hr

/-- The record a lookup finds has the tag looked for and stands in the queue. -/
theorem rec?_some {s : State} {t : Tag} {r : Record} (h : s.rec? t = some r) : r ∈ s.track.queue ∧ r.tag = t :=
  ⟨List.mem_of_find?_eq_some h, by simpa using List.find?_some h⟩

/-- A change of the record of a tag that keeps tags is found under its tag. -/
theorem rec?_mapRec {t : Tag} {f : Record → Record} (hf : ∀ r, (f r).tag = r.tag) (s : State) :
    (mapRec t f s).rec? t = (s.rec? t).map f := by
  simp only [State.rec?, mapRec]
  induction s.track.queue with
  | nil => rfl
  | cons a l ih =>
    by_cases e : a.tag = t
    · simp [e, hf]
    · simp [e, ih]

/-- The records of other tags are untouched by a change of one record. -/
theorem rec?_mapRec_ne {t u : Tag} {f : Record → Record} (hf : ∀ r, (f r).tag = r.tag) (h : u ≠ t) (s : State) :
    (mapRec t f s).rec? u = s.rec? u := by
  simp only [State.rec?, mapRec]
  induction s.track.queue with
  | nil => rfl
  | cons a l ih =>
    by_cases e : a.tag = t
    · have : a.tag ≠ u := fun e' => h (e'.symm.trans e)
      simp [e, hf, ih, show t ≠ u from fun e' => h e'.symm]
    · simp only [List.map_cons, if_neg e, List.find?_cons, ih]

/-- With no tag twice, changing the record of a tag changes that record alone. -/
theorem map_tag_of_mem {l : List Record} (h : (l.map Record.tag).Nodup) {r : Record} (hr : r ∈ l) (f : Record → Record) :
    (l.map fun x => if x.tag = r.tag then f x else x) = l.map fun x => if x.tag = r.tag then f r else x := by
  refine List.map_congr_left fun x hx => ?_
  split
  · rename_i e
    have := find?_tag_of_mem h hx
    rw [e, find?_tag_of_mem h hr] at this
    rw [Option.some.inj this]
  · rfl

/-- Sensor k after a change of it that keeps what a getter reads. -/
theorem sensor_setSensor {β : Type} (g : Sensor → β) {f : Sensor → Sensor} (hf : ∀ q, g (f q) = g q) (k j : Nat)
    (s : State) : g ((setSensor k f s).sensor j) = g (s.sensor j) := by
  simp only [State.sensor, setSensor, List.getD_eq_getElem?_getD, List.getElem?_modify]
  cases s.sens.sensors[j]? with
  | none => simp
  | some q =>
    by_cases e : k = j <;> simp [e, hf]

/-- The uncovered distance of a sensor is untouched by a change that keeps it. -/
theorem gapAt_setSensor {f : Sensor → Sensor} (hf : ∀ q, (f q).uncovered = q.uncovered) (k j : Nat) (s : State) :
    (setSensor k f s).gapAt j = s.gapAt j := by
  unfold State.gapAt
  rw [sensor_setSensor Sensor.uncovered hf]

/-- In a queue with no tag twice a search by tag and condition finds the record that has both. -/
theorem find?_tag_and_of_mem {q : Record → Bool} {l : List Record} {t : Tag} {r : Record}
    (hn : (l.map Record.tag).Nodup) (hr : r ∈ l) (ht : r.tag = t) (hq : q r = true) :
    l.find? (fun x => x.tag == t && q x) = some r := by
  induction l with
  | nil => cases hr
  | cons a l ih =>
    simp only [List.map_cons, List.nodup_cons] at hn
    rcases List.mem_cons.mp hr with rfl | hm
    · simp [ht, hq]
    · have : a.tag ≠ t := fun e => hn.1 (e.trans ht.symm ▸ List.mem_map_of_mem hm)
      simpa [this] using ih hn.2 hm

/-- The tags of the queue after a change of one record that keeps tags. -/
theorem tags_mapRec {f : Record → Record} (hf : ∀ r, (f r).tag = r.tag) (t : Tag) (s : State) :
    (mapRec t f s).track.queue.map Record.tag = s.track.queue.map Record.tag := by
  simp only [mapRec, List.map_map]
  refine List.map_congr_left fun x _ => ?_
  simp only [Function.comp]
  split
  · exact hf x
  · rfl

end Sys2Proof.Machine
end

