-- ==== Sys2Proof/Laws/Ops.lean ====
section
/-! SUPPORT. What each shared operation can do, said once: the blocks it touches and what of them it leaves. -/

namespace Sys2Proof.Machine

/-! ### The transmit queue (R184) -/

theorem insertByClass_length (e : TxEntry) (l : List TxEntry) : (insertByClass e l).length = l.length + 1 := by
  induction l with
  | nil => rfl
  | cons x xs ih =>
    unfold insertByClass
    split <;> simp [ih]

theorem worstClass_mem {l : List TxEntry} {c : Nat} (h : worstClass l = some c) :
    ∃ e ∈ l, e.sending = false ∧ e.cls = c := by
  induction l generalizing c with
  | nil => cases h
  | cons x xs ih =>
    unfold worstClass at h
    split at h
    · obtain ⟨e, he, h2⟩ := ih h
      exact ⟨e, List.mem_cons_of_mem _ he, h2⟩
    · rename_i hx
      cases hw : worstClass xs with
      | none =>
        rw [hw] at h
        exact ⟨x, List.mem_cons_self, by simpa using hx, Option.some.inj h⟩
      | some d =>
        rw [hw] at h
        obtain ⟨e, he, h2, h3⟩ := ih hw
        have hc : max x.cls d = c := Option.some.inj h
        rcases Nat.le_total x.cls d with hle | hle
        · exact ⟨e, List.mem_cons_of_mem _ he, h2, by omega⟩
        · exact ⟨x, List.mem_cons_self, by simpa using hx, by omega⟩

theorem dropNewest_length {c : Nat} {l : List TxEntry} (h : ∃ e ∈ l, e.sending = false ∧ e.cls = c) :
    (dropNewest c l).length + 1 = l.length := by
  induction l with
  | nil =>
    obtain ⟨e, he, -⟩ := h
    cases he
  | cons x xs ih =>
    unfold dropNewest
    split
    · rename_i ha
      have : ∃ e ∈ xs, e.sending = false ∧ e.cls = c := by
        simpa [TxEntry.evictable] using ha
      have := ih this
      simp only [List.length_cons]
      omega
    · rename_i ha
      split
      · rfl
      · rename_i hx
        exfalso
        obtain ⟨e, he, hs, hc⟩ := h
        have hev : e.evictable c = true := by simp [TxEntry.evictable, hs, hc]
        rcases List.mem_cons.mp he with rfl | hm
        · exact hx hev
        · exact ha (List.any_eq_true.mpr ⟨e, hm, hev⟩)

/-- Queueing a frame changes the queue and the drop counter; the queue grows only up to 12 frames (R184). -/
theorem enqueue_spec (p : Port) (f : Frame) :
    ∃ (tx : List TxEntry) (d : Nat), p.enqueue f = { p with tx := tx, drops := d } ∧
      (tx.length = p.tx.length ∨ (p.tx.length < 12 ∧ tx.length = p.tx.length + 1)) ∧ (d = p.drops ∨ d = incSat p.drops) := by
  unfold Port.enqueue
  split
  · rename_i h
    exact ⟨_, _, rfl, .inr ⟨h, insertByClass_length _ _⟩, .inl rfl⟩
  · split
    · exact ⟨_, _, rfl, .inl rfl, .inr rfl⟩
    · rename_i c hw
      split
      · refine ⟨_, _, rfl, .inl ?_, .inr rfl⟩
        rw [insertByClass_length]
        exact dropNewest_length (worstClass_mem hw)
      · exact ⟨_, _, rfl, .inl rfl, .inr rfl⟩

/-- The parts of the port that queueing a frame does not touch. -/
def Port.rest (p : Port) : List Instr × Bool × Nat × Nat × Nat × Nat :=
  (p.rx, p.linkReported, p.overruns, p.checkErrors, p.foreign, p.stale)

@[simp] theorem enqueue_rest (p : Port) (f : Frame) : (p.enqueue f).rest = p.rest := by
  obtain ⟨tx, d, h, -⟩ := enqueue_spec p f
  rw [h]
  rfl

@[simp] theorem post_rest (p : Port) (dst : Nat) (b : FrameBody) : (p.post dst b).rest = p.rest := by
  unfold Port.post
  split
  · rfl
  · exact enqueue_rest _ _

@[simp] theorem postAll_rest (p : Port) (l : List Nat) (b : FrameBody) : (p.postAll l b).rest = p.rest := by
  unfold Port.postAll
  induction l generalizing p with
  | nil => rfl
  | cons a l ih => exact (ih _).trans (post_rest p a b)

theorem enqueue_bound {p : Port} {f : Frame} (h : p.tx.length ≤ 12) : (p.enqueue f).tx.length ≤ 12 := by
  obtain ⟨tx, d, e, hl, -⟩ := enqueue_spec p f
  rw [e]
  show tx.length ≤ 12
  omega

theorem post_bound {p : Port} {dst : Nat} {b : FrameBody} (h : p.tx.length ≤ 12) : (p.post dst b).tx.length ≤ 12 := by
  unfold Port.post
  split
  · exact h
  · exact enqueue_bound h

theorem postAll_bound {p : Port} {l : List Nat} {b : FrameBody} (h : p.tx.length ≤ 12) :
    (p.postAll l b).tx.length ≤ 12 := by
  unfold Port.postAll
  induction l generalizing p with
  | nil => exact h
  | cons a l ih => exact ih (post_bound h)

/-! ### Faults (R139 to R141) -/

/-- Raising a fault counts its code, and adds at most one request, of a code that had none (R140, R141). -/
theorem raise_spec (q : Request) (s : State) :
    ∃ pending : List Request, raise q s = { s with flt := { s.flt.count q.code with pending := pending } } ∧
      (pending = s.flt.pending ∨
        (pending = s.flt.pending ++ [q] ∧ s.ctl.st.faultsPend = true ∧ s.flt.pendingOf q.code = none)) := by
  unfold raise
  split
  · rename_i h
    unfold FaultUnit.pend
    have e : (s.flt.count q.code).pendingOf q.code = s.flt.pendingOf q.code := rfl
    rw [e]
    cases hp : s.flt.pendingOf q.code with
    | some x => exact ⟨_, rfl, .inl rfl⟩
    | none => exact ⟨_, rfl, .inr ⟨rfl, h, rfl⟩⟩
  · exact ⟨_, rfl, .inl rfl⟩

/-- No code comes to be pending twice (R141). -/
theorem raise_pending_nodup {q : Request} {s : State} (h : (s.flt.pending.map Request.code).Nodup) :
    ((raise q s).flt.pending.map Request.code).Nodup := by
  obtain ⟨p, e, hp⟩ := raise_spec q s
  rw [e]
  show (p.map Request.code).Nodup
  rcases hp with rfl | ⟨rfl, -, hn⟩
  · exact h
  · rw [List.map_append, List.nodup_append]
    refine ⟨h, by simp, ?_⟩
    intro a ha b hb hab
    simp only [List.map_cons, List.map_nil, List.mem_singleton] at hb
    obtain ⟨x, hx, rfl⟩ := List.mem_map.mp ha
    have := List.find?_eq_none.mp hn x hx
    exact this (by simp [hab, hb])

/-! ### READY to deferred upstreams (R82) -/

/-- Sending READY touches the port and the deferred-upstream set only; an entry stays or is gone (R82). -/
theorem sendReady_spec (p : Deferral → Bool) (side : UpSide) (s : State) :
    ∃ (port : Port) (d1 d2 : Option Deferral),
      sendReady p side s = { s with port := port, hand := { s.hand with deferred1 := d1, deferred2 := d2 } } ∧
      (d1 = s.hand.deferred1 ∨ d1 = none) ∧ (d2 = s.hand.deferred2 ∨ d2 = none) ∧
      (port = s.port ∨ port = s.port.post (s.sideAddr side) .ready) := by
  unfold sendReady
  split
  · cases side
    · exact ⟨_, _, _, rfl, .inr rfl, .inl rfl, .inr rfl⟩
    · exact ⟨_, _, _, rfl, .inl rfl, .inr rfl, .inr rfl⟩
  · exact ⟨_, _, _, rfl, .inl rfl, .inl rfl, .inl rfl⟩

/-- The same for both upstreams. -/
theorem sendReadies_spec (p : Deferral → Bool) (s : State) :
    ∃ (port : Port) (d1 d2 : Option Deferral),
      sendReadies p s = { s with port := port, hand := { s.hand with deferred1 := d1, deferred2 := d2 } } ∧
      (d1 = s.hand.deferred1 ∨ d1 = none) ∧ (d2 = s.hand.deferred2 ∨ d2 = none) ∧
      ∃ a b : List Nat, port = (s.port.postAll a .ready).postAll b .ready := by
  obtain ⟨p1, a1, a2, e1, h1, h2, h3⟩ := sendReady_spec p .up1 s
  obtain ⟨p2, b1, b2, e2, g1, g2, g3⟩ := sendReady_spec p .up2 (sendReady p .up1 s)
  refine ⟨p2, b1, b2, ?_, ?_, ?_, ?_⟩
  · unfold sendReadies
    rw [e2, e1]
  · rw [e1] at g1
    rcases g1 with rfl | rfl
    · exact h1
    · exact .inr rfl
  · rw [e1] at g2
    rcases g2 with rfl | rfl
    · exact h2
    · exact .inr rfl
  · rw [e1] at g3
    rcases h3 with rfl | rfl <;> rcases g3 with rfl | rfl
    · exact ⟨[], [], rfl⟩
    · exact ⟨[], [_], rfl⟩
    · exact ⟨[_], [], rfl⟩
    · exact ⟨[_], [_], rfl⟩

/-! ### The hold set (R59 to R67) -/

/-- Yielding demand touches the two generators only, and only where the hold set is empty (R61). -/
theorem yieldDemand_spec (s : State) :
    ∃ a b : Chan,
      s.yieldDemand = { s with drive := { s.drive with chA := a, chB := b } } ∧
      (a = s.drive.chA ∧ b = s.drive.chB ∨
        s.drive.hold = [] ∧ a = s.drive.chA.loseDemand ∧ b = s.drive.chB.loseDemand) := by
  unfold State.yieldDemand
  split
  · rename_i h
    exact ⟨_, _, rfl, .inr ⟨h, rfl, rfl⟩⟩
  · exact ⟨_, _, rfl, .inl ⟨rfl, rfl⟩⟩

/-- Adding an own reason touches the port, the hold set and, where the hold set was empty, the demand of the two generators
(R61). -/
theorem addReason_spec (r : OwnReason) (s : State) :
    ∃ (port : Port) (hold : List HoldEntry) (a b : Chan),
      addReason r s =
        { s with port := port, drive := { s.drive with chA := a, chB := b, hold := hold } } ∧ hold ≠ [] ∧
      (a = s.drive.chA ∧ b = s.drive.chB ∨
        s.drive.hold = [] ∧ a = s.drive.chA.loseDemand ∧ b = s.drive.chB.loseDemand) := by
  unfold addReason
  split
  · rename_i e he
    refine ⟨_, _, _, _, rfl, ?_, .inl ⟨rfl, rfl⟩⟩
    have hm : e ∈ s.drive.hold := List.mem_of_find?_eq_some he
    intro h
    rw [List.map_eq_nil_iff] at h
    rw [h] at hm
    cases hm
  · obtain ⟨a, b, h, hab⟩ := yieldDemand_spec s
    rw [h]
    exact ⟨_, _, _, _, rfl, by simp, hab⟩

/-- An entry's release touches the port, the hold set and the deferred-upstream set only (R62, R64, R66). -/
theorem releaseEntry_spec (e : HoldEntry) (s : State) :
    ∃ (port : Port) (d1 d2 : Option Deferral),
      releaseEntry e s = { s with
        port := port
        hand := { s.hand with deferred1 := d1, deferred2 := d2 }
        drive := { s.drive with hold := s.drive.hold.filter fun x => x.origin != e.origin } } ∧
      (d1 = s.hand.deferred1 ∨ d1 = none) ∧ (d2 = s.hand.deferred2 ∨ d2 = none) ∧
      ∃ a b : List Nat, port = ((s.port.postAll e.fwd (.go e.origin)).postAll a .ready).postAll b .ready := by
  unfold releaseEntry tellHoldEmpty
  split
  · obtain ⟨p, d1, d2, h, h1, h2, a, b, h3⟩ := sendReadies_spec Deferral.isHeld
      (sendAll e.fwd (.go e.origin) (s.withHold (s.drive.hold.filter fun x => x.origin != e.origin)))
    exact ⟨p, d1, d2, h, h1, h2, a, b, h3⟩
  · exact ⟨_, _, _, rfl, .inl rfl, .inl rfl, [], [], rfl⟩

/-- Removing an own reason touches the port, the hold set and the deferred-upstream set only (R62). -/
theorem removeReason_spec (r : OwnReason) (s : State) :
    ∃ (port : Port) (d1 d2 : Option Deferral) (hold : List HoldEntry),
      removeReason r s = { s with
        port := port
        hand := { s.hand with deferred1 := d1, deferred2 := d2 }
        drive := { s.drive with hold := hold } } ∧
      (d1 = s.hand.deferred1 ∨ d1 = none) ∧ (d2 = s.hand.deferred2 ∨ d2 = none) := by
  unfold removeReason
  split
  · exact ⟨_, _, _, _, rfl, .inl rfl, .inl rfl⟩
  · rename_i e _
    split
    · exact ⟨_, _, _, _, rfl, .inl rfl, .inl rfl⟩
    · split
      · exact ⟨_, _, _, _, rfl, .inl rfl, .inl rfl⟩
      · obtain ⟨p, d1, d2, h, h1, h2, -⟩ := releaseEntry_spec e s
        exact ⟨p, d1, d2, _, h, h1, h2⟩

/-- The end of an image wait touches the port, the hold set, the deferred-upstream set and the image wait timer only
(R115, R116). -/
theorem reviewImageWait_spec (s : State) :
    ∃ (port : Port) (d1 d2 : Option Deferral) (hold : List HoldEntry) (timer : Timer),
      reviewImageWait s = { s with
        port := port
        hand := { s.hand with deferred1 := d1, deferred2 := d2 }
        drive := { s.drive with hold := hold }
        reg := { s.reg with timer := timer } } ∧
      (timer = s.reg.timer ∨ timer = .idle) := by
  unfold reviewImageWait
  split
  · exact ⟨_, _, _, _, _, rfl, .inl rfl⟩
  · obtain ⟨p, d1, d2, h, e, -⟩ := removeReason_spec .imageWait { s with reg := { s.reg with timer := .idle } }
    exact ⟨p, d1, d2, h, .idle, e, .inr rfl⟩

/-! ### The broken set list (R20 to R22) -/

/-- A set joins the list, which keeps its bound (R20). -/
theorem pushBroken_spec {set : Nat} {l : List Nat} (h : l.length ≤ 8) :
    set ∈ pushBroken set l ∧ (pushBroken set l).length ≤ 8 ∧ ∀ x ∈ pushBroken set l, x = set ∨ x ∈ l := by
  unfold pushBroken
  refine ⟨by simp, ?_, ?_⟩
  · split <;> simp <;> omega
  · intro x hx
    split at hx
    · rcases List.mem_append.mp hx with hm | hm
      · exact .inr (List.mem_of_mem_drop hm)
      · exact .inl (by simpa using hm)
    · rcases List.mem_append.mp hx with hm | hm
      · exact .inr hm
      · exact .inl (by simpa using hm)

/-! ### The step generators (R53 to R57) -/

/-- Losing demand: a generator that runs ramps down, or stands at ramp index 0; any other is as it was (R54). -/
theorem loseDemand_spec (c : Chan) :
    c.loseDemand = { c with run := c.loseDemand.run } ∧
      (((c.run = .rampUp ∨ c.run = .atSpeed) ∧
          c.loseDemand.run = if c.ramp = 0 then .stopped else .rampDown) ∨
        (c.run ≠ .rampUp ∧ c.run ≠ .atSpeed ∧ c.loseDemand.run = c.run)) := by
  obtain ⟨run, ramp, dir, want, period⟩ := c
  unfold Chan.loseDemand
  cases run <;> by_cases h0 : ramp = 0 <;> simp [h0]

/-- Losing demand again changes nothing: a ramp-down that has begun is the one that is finished (R55). -/
@[simp] theorem loseDemand_loseDemand (c : Chan) : c.loseDemand.loseDemand = c.loseDemand := by
  obtain ⟨run, ramp, dir, want, period⟩ := c
  unfold Chan.loseDemand
  cases run <;> by_cases h0 : ramp = 0 <;> simp [h0]

/-- Beginning: only a standing generator with no direction wanted begins, at ramp index 0 (R53, R55). -/
theorem beginRamp_spec (c : Chan) (len : Nat) :
    (c.run = .stopped ∧ c.want = none ∧
        c.beginRamp len = { c with run := if len = 0 then .atSpeed else .rampUp, ramp := 0 }) ∨
      (¬ (c.run = .stopped ∧ c.want = none) ∧ c.beginRamp len = c) := by
  unfold Chan.beginRamp
  split
  · rename_i h
    left
    refine ⟨h.1, h.2, ?_⟩
    split <;> rfl
  · rename_i h
    exact .inr ⟨h, rfl⟩

/-- A direction wanted is applied by a standing generator only (R55, R57). -/
theorem applyWant_spec (c : Chan) :
    c.applyWant = { c with dir := c.applyWant.dir, want := c.applyWant.want } ∧
      ((c.run = .stopped ∧ c.applyWant.want = none ∧ c.applyWant.dir = c.want.getD c.dir) ∨
        (c.run ≠ .stopped ∧ c.applyWant = c)) := by
  obtain ⟨run, ramp, dir, want, period⟩ := c
  unfold Chan.applyWant
  by_cases h : run = .stopped
  · cases want <;> simp [h]
  · simp [h]

/-- An emergency stop: standing at ramp index 0, a direction wanted applied (R56). -/
theorem halt_spec (c : Chan) :
    c.halt = { run := .stopped, ramp := 0, dir := c.want.getD c.dir, want := none, period := 0 } := by
  unfold Chan.halt Chan.applyWant
  cases hw : c.want <;> simp [hw]

/-! ### The gate (R96, R97) -/

/-- Serving the gate list touches the move, the output and the position only (R96). -/
theorem serveGate_spec (s : State) :
    ∃ (position output : Route) (move : Move),
      serveGate s = { s with gate := { s.gate with position := position, output := output, move := move } } := by
  have hs : ∀ target, ∃ (position output : Route) (move : Move),
      startMove target s = { s with gate := { s.gate with position := position, output := output, move := move } } := by
    intro target
    unfold startMove
    by_cases h : s.gateSw = 0
    · exact ⟨target, target, .none, by simp [h]⟩
    · exact ⟨s.gate.position, target, .moving target 0, by simp [h]⟩
  have same : ∃ (position output : Route) (move : Move),
      s = { s with gate := { s.gate with position := position, output := output, move := move } } :=
    ⟨_, _, _, rfl⟩
  unfold serveGate
  split
  · exact same
  · split
    · exact hs _
    · exact same
  · split
    · exact same
    · split
      · exact same
      · unfold makeMove
        split
        · exact hs _
        · exact ⟨s.gate.position, s.gate.output, .waiting _, rfl⟩

/-! ### Records joining and leaving (R11, R12, R14) -/

theorem serveGate_track (s : State) : (serveGate s).track = s.track := by
  obtain ⟨a, b, c, e⟩ := serveGate_spec s
  rw [e]

theorem reviewImageWait_track (s : State) : (reviewImageWait s).track = s.track := by
  obtain ⟨p, d1, d2, h, t, e, -⟩ := reviewImageWait_spec s
  rw [e]

/-- A record that leaves takes its tag, and only its tag, from the queue (R14). -/
theorem leaveQueue_queue (r : Record) (s : State) :
    (leaveQueue r s).track = { s.track with queue := s.track.queue.filter fun x => x.tag != r.tag } := by
  unfold leaveQueue
  rw [serveGate_track, reviewImageWait_track]

/-- The end of a record's offer: the queue holds it as OFFERED and nothing is owed for it (R69, R70). -/
theorem sendOffer_spec (r : Record) (s : State) :
    sendOffer r s = { s with
      port := s.port.post (s.downstream r) (.offer r.asOffer)
      track := { s.track with
        queue := s.track.queue.map fun x =>
          if x.tag = r.tag then { x with stage := .offered, offerOwed := false } else x } } := rfl

end Sys2Proof.Machine
end

