-- ==== Sys2Proof/Laws/PerInstr.lean ====
section
/-! SUPPORT. A law of every command as syntax: a well-formed command that is a frame comes from an address 1 to 62 and
goes to an address that is not 0 (R178). -/

namespace Sys2Proof.Laws.Addressed

/-- The header of a well-formed frame command is well formed. -/
def Statement (i : Instr) : Prop := i.wf = true → ∀ h ∈ i.header?, h.wf = true

/-- A command that is no frame has no header. -/
theorem of_none {i : Instr} (e : i.header? = none) : Statement i := fun _ _ m => nomatch e.symm.trans m

/-- A frame command's header is the one it carries. -/
theorem of_some {i : Instr} {h : Header} (e : i.header? = some h) (w : i.wf = true → h.wf = true) : Statement i :=
  fun hi _ m => Option.some.inj (e.symm.trans m) ▸ w hi

theorem left {a b : Bool} (h : (a && b) = true) : a = true := (Bool.and_eq_true_iff.mp h).1

theorem fullReset (addrStraps : BitVec 6) (roleStraps : BitVec 3) : Statement (.fullReset addrStraps roleStraps) :=
  of_none rfl

theorem selftestComplete (stuck : BitVec 6) (levels : BitVec 6) : Statement (.selftestComplete stuck levels) :=
  of_none rfl

theorem step (ch : Channel) : Statement (.step ch) :=
  of_none rfl

theorem leadEdge (k : Fin 6) : Statement (.leadEdge k) :=
  of_none rfl

theorem trailEdge (k : Fin 6) : Statement (.trailEdge k) :=
  of_none rfl

theorem lineActive (n : Fin 4) : Statement (.lineActive n) :=
  of_none rfl

theorem lineInactive (n : Fin 4) : Statement (.lineInactive n) :=
  of_none rfl

theorem pickStart : Statement (.pickStart) :=
  of_none rfl

theorem ghostLaunch : Statement (.ghostLaunch) :=
  of_none rfl

theorem slotExamination : Statement (.slotExamination) :=
  of_none rfl

theorem drainEnd : Statement (.drainEnd) :=
  of_none rfl

theorem pauseEnd : Statement (.pauseEnd) :=
  of_none rfl

theorem sweepEnd : Statement (.sweepEnd) :=
  of_none rfl

theorem holdWaitExpiry : Statement (.holdWaitExpiry) :=
  of_none rfl

theorem returnWaitExpiry : Statement (.returnWaitExpiry) :=
  of_none rfl

theorem imageWaitExpiry : Statement (.imageWaitExpiry) :=
  of_none rfl

theorem ejectComplete : Statement (.ejectComplete) :=
  of_none rfl

theorem dumpComplete : Statement (.dumpComplete) :=
  of_none rfl

theorem pageSyncPulseEnd : Statement (.pageSyncPulseEnd) :=
  of_none rfl

theorem faultDispatch : Statement (.faultDispatch) :=
  of_none rfl

theorem frameError (levels : List Bool) : Statement (.frameError levels) :=
  of_none rfl

theorem halt (h : Header) (code : Byte) : Statement (.halt h code) :=
  of_some rfl left

theorem pass (h : Header) (t : FrameTag) : Statement (.pass h t) :=
  of_some rfl left

theorem arrived (h : Header) (t : FrameTag) : Statement (.arrived h t) :=
  of_some rfl left

theorem hold (h : Header) (origin : Byte) : Statement (.hold h origin) :=
  of_some rfl left

theorem go (h : Header) (origin : Byte) : Statement (.go h origin) :=
  of_some rfl left

theorem broken (h : Header) (set : Half) : Statement (.broken h set) :=
  of_some rfl id

theorem offer (h : Header) (o : SheetFields) : Statement (.offer h o) :=
  of_some rfl left

theorem take (h : Header) (t : FrameTag) : Statement (.take h t) :=
  of_some rfl left

theorem defer (h : Header) (t : FrameTag) (reason : Byte) : Statement (.defer h t reason) :=
  of_some rfl fun w => left (left w)

theorem ready (h : Header) : Statement (.ready h) :=
  of_some rfl id

theorem configure (h : Header) (start : BitVec 7) (endMark : Bool) (values : List Half) : Statement (.configure h start endMark values) :=
  of_some rfl left

theorem start (h : Header) : Statement (.start h) :=
  of_some rfl id

theorem drain (h : Header) : Statement (.drain h) :=
  of_some rfl id

theorem resume (h : Header) : Statement (.resume h) :=
  of_some rfl id

theorem clearpath (h : Header) : Statement (.clearpath h) :=
  of_some rfl id

theorem restart (h : Header) (addrStraps : BitVec 6) (roleStraps : BitVec 3) : Statement (.restart h addrStraps roleStraps) :=
  of_some rfl id

theorem feed (h : Header) (o : SheetFields) : Statement (.feed h o) :=
  of_some rfl left

theorem image (h : Header) (t : FrameTag) (side : Byte) : Statement (.image h t side) :=
  of_some rfl fun w => left (left w)

theorem sweep (h : Header) (g : Byte) (n : Byte) (origin : Byte) : Statement (.sweep h g n origin) :=
  of_some rfl id

theorem query (h : Header) (selector : BitVec 3) (clear : Bool) : Statement (.query h selector clear) :=
  of_some rfl left

theorem frameSendStart : Statement (.frameSendStart) :=
  of_none rfl

theorem arbitrationLost : Statement (.arbitrationLost) :=
  of_none rfl

theorem frameSent : Statement (.frameSent) :=
  of_none rfl

theorem link : Statement (.link) :=
  of_none rfl

theorem resetPinHeldLow : Statement (.resetPinHeldLow) :=
  of_none rfl

end Sys2Proof.Laws.Addressed
end

