-- ==== Sys2Proof/Laws/Station.lean ====
section
/-! SUPPORT. What no operation of the blocks touches: the pins, Station Control's own state, the Configuration Store and
the queue of waiting commands. One lemma per operation; only the operations of Machine/Control.lean, Faults.lean and
Configure.lean that change the state of the station or a parameter are absent. -/

namespace Sys2Proof.Machine

/-- The pins, Station Control, the Configuration Store and the waiting commands. -/
def State.calm (s : State) : Pins × Control × ConfigStore × List Instr := (s.pins, s.ctl, s.cfg, s.pending)

theorem pins_of_calm {s t : State} (h : t.calm = s.calm) : t.pins = s.pins := congrArg (fun x => x.1) h

theorem ctl_of_calm {s t : State} (h : t.calm = s.calm) : t.ctl = s.ctl := congrArg (fun x => x.2.1) h

theorem cfg_of_calm {s t : State} (h : t.calm = s.calm) : t.cfg = s.cfg := congrArg (fun x => x.2.2.1) h

theorem pending_of_calm {s t : State} (h : t.calm = s.calm) : t.pending = s.pending := congrArg (fun x => x.2.2.2) h

/-- An update of the other blocks keeps them. -/
@[simp] theorem calm_update (s : State) (port : Port) (sens : SensorUnit) (drive : Drive) (track : Track)
    (hand : Handoff) (gate : Gate) (inv : Inverter) (reg : Registration) (comp : Compile) (feed : FeedUnit)
    (flt : FaultUnit) (sweep : Sweep) :
    State.calm ⟨s.pins, s.ctl, port, s.cfg, sens, drive, track, hand, gate, inv, reg, comp, feed, flt, sweep,
      s.pending⟩ = s.calm := rfl

/-- What a block does with a record keeps whatever its action keeps. -/
theorem onRec_keeps {β : Type} (g : State → β) {f : Record → State → State} (h : ∀ r s, g (f r s) = g s) (t : Tag)
    (s : State) : g (onRec t f s) = g s := by
  unfold onRec
  split
  · exact h _ _
  · rfl

/-- A fold keeps whatever each of its steps keeps. -/
theorem foldl_keeps {α β : Type} (g : State → β) {f : State → α → State} (h : ∀ s a, g (f s a) = g s) (l : List α)
    (s : State) : g (l.foldl f s) = g s := by
  induction l generalizing s with
  | nil => rfl
  | cons a l ih => exact (ih _).trans (h s a)


/-! ### Machine/Ops.lean -/

@[simp] theorem countStale_calm (s : State) : (countStale s).calm = s.calm := by
  unfold countStale; simp

@[simp] theorem countForeign_calm (s : State) : (countForeign s).calm = s.calm := by
  unfold countForeign; simp

@[simp] theorem countCheckError_calm (s : State) : (countCheckError s).calm = s.calm := by
  unfold countCheckError; simp

@[simp] theorem countOverrun_calm (s : State) : (countOverrun s).calm = s.calm := by
  unfold countOverrun; simp

@[simp] theorem send_calm (dst : Nat) (body : FrameBody) (s : State) : (send dst body s).calm = s.calm := by
  unfold send; simp

@[simp] theorem sendAll_calm (dsts : List Nat) (body : FrameBody) (s : State) :
    (sendAll dsts body s).calm = s.calm := by
  unfold sendAll; simp

@[simp] theorem raise_calm (q : Request) (s : State) : (raise q s).calm = s.calm := by
  unfold raise; (repeat' split) <;> simp

@[simp] theorem mapRec_calm (t : Tag) (f : Record → Record) (s : State) : (mapRec t f s).calm = s.calm := by
  unfold mapRec; simp

@[simp] theorem setSensor_calm (k : Nat) (f : Sensor → Sensor) (s : State) : (setSensor k f s).calm = s.calm := by
  unfold setSensor; simp

@[simp] theorem sendReady_calm (p : Deferral → Bool) (side : UpSide) (s : State) :
    (sendReady p side s).calm = s.calm := by
  unfold sendReady; (repeat' split) <;> simp

@[simp] theorem sendReadies_calm (p : Deferral → Bool) (s : State) : (sendReadies p s).calm = s.calm := by
  unfold sendReadies; simp

@[simp] theorem sendDuplicateReadies_calm (s : State) : (sendDuplicateReadies s).calm = s.calm := by
  unfold sendDuplicateReadies; dsimp only; simp

@[simp] theorem withHold_calm (s : State) (hold : List HoldEntry) : (s.withHold hold).calm = s.calm := by
  unfold State.withHold; simp

@[simp] theorem yieldDemand_calm (s : State) : s.yieldDemand.calm = s.calm := by
  unfold State.yieldDemand; split <;> simp

@[simp] theorem addReason_calm (r : OwnReason) (s : State) : (addReason r s).calm = s.calm := by
  unfold addReason; (repeat' split) <;> simp

@[simp] theorem tellHoldEmpty_calm (s : State) : (tellHoldEmpty s).calm = s.calm := by
  unfold tellHoldEmpty; (repeat' split) <;> simp

@[simp] theorem releaseEntry_calm (e : HoldEntry) (s : State) : (releaseEntry e s).calm = s.calm := by
  unfold releaseEntry; simp

@[simp] theorem removeReason_calm (r : OwnReason) (s : State) : (removeReason r s).calm = s.calm := by
  unfold removeReason; (repeat' split) <;> simp

@[simp] theorem extendHolds_calm (nb : Nat) (s : State) : (extendHolds nb s).calm = s.calm := by
  unfold extendHolds; simp

@[simp] theorem clearHold_calm (s : State) : (clearHold s).calm = s.calm := by
  unfold clearHold; simp

@[simp] theorem setChan_calm (ch : Channel) (f : Chan → Chan) (s : State) : (setChan ch f s).calm = s.calm := by
  unfold setChan; (repeat' split) <;> simp

@[simp] theorem emergencyStop_calm (s : State) : (emergencyStop s).calm = s.calm := by
  unfold emergencyStop; simp

@[simp] theorem reply_calm (reason : StatusReason) (s : State) : (reply reason s).calm = s.calm := by
  unfold reply; simp

@[simp] theorem replyConfig_calm (failing : Option Nat) (s : State) : (replyConfig failing s).calm = s.calm := by
  unfold replyConfig; (repeat' split) <;> simp

/-! ### Machine/Tray.lean -/

@[simp] theorem beginOperation_calm (s : State) : (beginOperation s).calm = s.calm := by
  unfold beginOperation; (repeat' split) <;> simp

@[simp] theorem binWait_calm (s : State) : (binWait s).calm = s.calm := by
  unfold binWait; (repeat' split) <;> simp

@[simp] theorem beginOrWait_calm (s : State) : (beginOrWait s).calm = s.calm := by
  unfold beginOrWait; (repeat' split) <;> simp

@[simp] theorem orderEject_calm (split : Bool) (s : State) : (orderEject split s).calm = s.calm := by
  unfold orderEject; simp

@[simp] theorem orderDump_calm (reason : DumpReason) (s : State) : (orderDump reason s).calm = s.calm := by
  unfold orderDump; simp

@[simp] theorem binFreed_calm (s : State) : (binFreed s).calm = s.calm := by
  unfold binFreed; (repeat' split) <;> simp

@[simp] theorem answerTray_calm (set : Nat) (reason : DumpReason) (s : State) :
    (answerTray set reason s).calm = s.calm := by
  unfold answerTray; (repeat' split) <;> simp

@[simp] theorem answerBroken_calm (set : Nat) (reason : DumpReason) (s : State) :
    (answerBroken set reason s).calm = s.calm := by
  unfold answerBroken; (repeat' split) <;> simp

@[simp] theorem reviewImageWait_calm (s : State) : (reviewImageWait s).calm = s.calm := by
  unfold reviewImageWait; (repeat' split) <;> simp

@[simp] theorem reviewMarks_calm (s : State) : (reviewMarks s).calm = s.calm := by
  unfold reviewMarks; simp

@[simp] theorem markSet_calm (set : Nat) (s : State) : (markSet set s).calm = s.calm := by
  unfold markSet; simp

@[simp] theorem addBroken_calm (set : Nat) (reason : DumpReason) (s : State) :
    (addBroken set reason s).calm = s.calm := by
  unfold addBroken; (repeat' split) <;> simp

@[simp] theorem breakSet_calm (set : Nat) (reason : DumpReason) (s : State) :
    (breakSet set reason s).calm = s.calm := by
  unfold breakSet; (repeat' split) <;> simp

/-! ### Machine/Gate.lean -/

@[simp] theorem startMove_calm (target : Route) (s : State) : (startMove target s).calm = s.calm := by
  unfold startMove; (repeat' split) <;> simp

@[simp] theorem makeMove_calm (target : Route) (s : State) : (makeMove target s).calm = s.calm := by
  unfold makeMove; (repeat' split) <;> simp

@[simp] theorem serveGate_calm (s : State) : (serveGate s).calm = s.calm := by
  unfold serveGate; (repeat' split) <;> simp

@[simp] theorem gateStep_calm (ch : Channel) (s : State) : (gateStep ch s).calm = s.calm := by
  unfold gateStep; (repeat' split) <;> simp

@[simp] theorem freeOccupant_calm (s : State) : (freeOccupant s).calm = s.calm := by
  unfold freeOccupant; simp

@[simp] theorem setRoute_calm (t : Tag) (route : Route) (s : State) : (setRoute t route s).calm = s.calm := by
  unfold setRoute; simp

@[simp] theorem takeLoop_calm (t : Tag) (s : State) : (takeLoop t s).calm = s.calm := by
  unfold takeLoop; (repeat' split) <;> simp

@[simp] theorem takeMisroute_calm (t : Tag) (s : State) : (takeMisroute t s).calm = s.calm := by
  unfold takeMisroute; (repeat' split) <;> simp

@[simp] theorem releaseMisroute_calm (t : Tag) (s : State) : (releaseMisroute t s).calm = s.calm := by
  unfold releaseMisroute; (repeat' split) <;> simp

@[simp] theorem commitMain_calm (r : Record) (s : State) : (commitMain r s).calm = s.calm := by
  unfold commitMain; (repeat' split) <;> simp

@[simp] theorem refuseOrder_calm (r : Record) (s : State) : (refuseOrder r s).calm = s.calm := by
  unfold refuseOrder; simp

@[simp] theorem interruptBill_calm (c seq : Nat) (s : State) : (interruptBill c seq s).calm = s.calm := by
  unfold interruptBill; dsimp only; simp

@[simp] theorem listAtGate_calm (t : Tag) (s : State) : (listAtGate t s).calm = s.calm := by
  unfold listAtGate; simp

@[simp] theorem routeFresh_calm (r : Record) (s : State) : (routeFresh r s).2.calm = s.calm := by
  unfold routeFresh; (repeat' split) <;> simp

@[simp] theorem routeAtExit_calm (r : Record) (s : State) : (routeAtExit r s).2.calm = s.calm := by
  unfold routeAtExit; (repeat' split) <;> simp

@[simp] theorem decideRoute_calm (r : Record) (s : State) : (decideRoute r s).calm = s.calm := by
  unfold decideRoute; dsimp only; (repeat' split) <;> simp

@[simp] theorem occupyGate_calm (t : Tag) (s : State) : (occupyGate t s).calm = s.calm := by
  unfold occupyGate; simp

@[simp] theorem misrouteToTray_calm (set : Nat) (s : State) : (misrouteToTray set s).calm = s.calm := by
  unfold misrouteToTray; (repeat' split) <;> simp

@[simp] theorem spoilMisrouted_calm (r : Record) (s : State) : (spoilMisrouted r s).calm = s.calm := by
  unfold spoilMisrouted; dsimp only; (repeat' split) <;> simp

@[simp] theorem answerMisroute_calm (r : Record) (branch : Route) (s : State) :
    (answerMisroute r branch s).calm = s.calm := by
  unfold answerMisroute; (repeat' split) <;> simp

@[simp] theorem routeFault_calm (r : Record) (s : State) : (routeFault r s).calm = s.calm := by
  unfold routeFault; dsimp only; simp

@[simp] theorem checkGhost_calm (r : Record) (s : State) : (checkGhost r s).calm = s.calm := by
  unfold checkGhost; (repeat' split) <;> simp

@[simp] theorem purgeBinFull_calm (t : Tag) (s : State) : (purgeBinFull t s).calm = s.calm := by
  unfold purgeBinFull; refine onRec_keeps State.calm (fun r s => ?_) t s
  (repeat' split) <;> simp

@[simp] theorem atGate_calm (r : Record) (s : State) : (atGate r s).calm = s.calm := by
  unfold atGate; dsimp only; (repeat' split) <;> simp

/-! ### Machine/Registration.lean -/

@[simp] theorem joinImages_calm (e : ImageEntry) (s : State) : (joinImages e s).calm = s.calm := by
  unfold joinImages; dsimp only; (repeat' split) <;> simp

@[simp] theorem dropImages_calm (r : Record) (s : State) : (dropImages r s).calm = s.calm := by
  unfold dropImages; simp

@[simp] theorem giveSync_calm (r : Record) (s : State) : (giveSync r s).calm = s.calm := by
  unfold giveSync; simp

@[simp] theorem setImage_calm (t : Tag) (i : ImageState) (s : State) : (setImage t i s).calm = s.calm := by
  unfold setImage; simp

@[simp] theorem raiseImage_calm (r : Record) (s : State) : (raiseImage r s).calm = s.calm := by
  unfold raiseImage; simp

@[simp] theorem syncAction_calm (r : Record) (s : State) : (syncAction r s).calm = s.calm := by
  unfold syncAction; (repeat' split) <;> simp

@[simp] theorem beginImageWait_calm (t : Tag) (s : State) : (beginImageWait t s).calm = s.calm := by
  unfold beginImageWait; (repeat' split) <;> simp

@[simp] theorem decideImage_calm (r : Record) (s : State) : (decideImage r s).calm = s.calm := by
  unfold decideImage; (repeat' split) <;> simp

@[simp] theorem atRegSensor_calm (t : Tag) (before : Nat) (s : State) : (atRegSensor t before s).calm = s.calm := by
  unfold atRegSensor; refine onRec_keeps State.calm (fun r s => ?_) t s
  have h : ∀ x : State, (onRec t syncAction x).calm = x.calm :=
    onRec_keeps State.calm (fun r s => syncAction_calm r s) t
  dsimp only; (repeat' split) <;> simp [h]

@[simp] theorem missedReg_calm (r : Record) (s : State) : (missedReg r s).calm = s.calm := by
  unfold missedReg; simp

@[simp] theorem expireImage_calm (r : Record) (s : State) : (expireImage r s).calm = s.calm := by
  unfold expireImage; simp

@[simp] theorem expireImages_calm (rs : List Record) (s : State) : (expireImages rs s).calm = s.calm :=
  foldl_keeps State.calm (fun s r => by split <;> simp) rs s

@[simp] theorem takeImage_calm (e : ImageEntry) (s : State) : (takeImage e s).calm = s.calm := by
  unfold takeImage; (repeat' split) <;> simp

/-! ### Machine/Handoff.lean -/

@[simp] theorem leaveQueue_calm (r : Record) (s : State) : (leaveQueue r s).calm = s.calm := by
  unfold leaveQueue; (repeat' split) <;> simp

@[simp] theorem joinBroken_calm (r : Record) (s : State) : (joinBroken r s).calm = s.calm := by
  unfold joinBroken; (repeat' split) <;> simp

@[simp] theorem joinSpeed_calm (r : Record) (s : State) : (joinSpeed r s).calm = s.calm := by
  unfold joinSpeed; (repeat' split) <;> simp

@[simp] theorem countGhost_calm (r : Record) (s : State) : (countGhost r s).calm = s.calm := by
  unfold countGhost; (repeat' split) <;> simp

@[simp] theorem appendRecord_calm (r : Record) (s : State) : (appendRecord r s).calm = s.calm := by
  unfold appendRecord; simp

@[simp] theorem joinQueue_calm (r : Record) (s : State) : (joinQueue r s).calm = s.calm := by
  unfold joinQueue; simp

@[simp] theorem noteSet_calm (side : Side) (ghost : Bool) (set : Nat) (last : Bool) (s : State) :
    (noteSet side ghost set last s).calm = s.calm := by
  unfold noteSet; (repeat' split) <;> simp

@[simp] theorem sendOffer_calm (r : Record) (s : State) : (sendOffer r s).calm = s.calm := by
  unfold sendOffer; simp

@[simp] theorem offerIfDue_calm (t : Tag) (s : State) : (offerIfDue t s).calm = s.calm := by
  unfold offerIfDue; refine onRec_keeps State.calm (fun r s => ?_) t s
  (repeat' split) <;> simp

@[simp] theorem sendOffers_calm (s : State) : (sendOffers s).calm = s.calm := by
  unfold sendOffers; split
  · exact foldl_keeps State.calm (fun (s : State) (r : Record) => offerIfDue_calm r.tag s) _ s
  · rfl

@[simp] theorem passRecord_calm (r : Record) (s : State) : (passRecord r s).calm = s.calm := by
  unfold passRecord; simp

@[simp] theorem passIfTaken_calm (r : Record) (s : State) : (passIfTaken r s).calm = s.calm := by
  unfold passIfTaken; split <;> simp

/-- No PASS for a record that its downstream has not taken (R73), and none in a state that issues no steps (R90). -/
theorem passIfTaken_of_not {r : Record} {s : State} (h : s.taken r = false ∨ s.ctl.st.steps = false) :
    passIfTaken r s = s := by
  unfold passIfTaken
  rcases h with h | h <;> simp [h]

@[simp] theorem deferOffer_calm (side : UpSide) (o : Offer) (reason : DeferReason) (s : State) :
    (deferOffer side o reason s).calm = s.calm := by
  unfold deferOffer; dsimp only; (repeat' split) <;> simp

@[simp] theorem takeOffer_calm (side : UpSide) (o : Offer) (s : State) : (takeOffer side o s).calm = s.calm := by
  unfold takeOffer; simp

@[simp] theorem takeSide_calm (side : UpSide) (contested : Bool) (s : State) :
    (takeSide side contested s).calm = s.calm := by
  unfold takeSide; (repeat' split) <;> simp

@[simp] theorem takeFree_calm (s : State) : (takeFree s).calm = s.calm := by
  unfold takeFree; (repeat' split) <;> simp

@[simp] theorem examineSlot_calm (side : UpSide) (s : State) : (examineSlot side s).calm = s.calm := by
  unfold examineSlot; (repeat' split) <;> simp

@[simp] theorem examineSlots_calm (s : State) : (examineSlots s).calm = s.calm := by
  unfold examineSlots; simp

@[simp] theorem takeOfferFrame_calm (src : Nat) (o : Offer) (s : State) : (takeOfferFrame src o s).calm = s.calm := by
  unfold takeOfferFrame; dsimp only; (repeat' split) <;> simp

@[simp] theorem enterRecord_calm (r : Record) (s : State) : (enterRecord r s).calm = s.calm := by
  unfold enterRecord; dsimp only; simp

@[simp] theorem endHoldWait_calm (t : Tag) (s : State) : (endHoldWait t s).calm = s.calm := by
  unfold endHoldWait; (repeat' split) <;> simp

@[simp] theorem beginHoldWait_calm (t : Tag) (s : State) : (beginHoldWait t s).calm = s.calm := by
  unfold beginHoldWait; simp

/-! ### Machine/Thresholds.lean -/

@[simp] theorem testEntry_calm (t : Tag) (s : State) : (testEntry t s).calm = s.calm := by
  unfold testEntry; refine onRec_keeps State.calm (fun r s => ?_) t s
  dsimp only; (repeat' split) <;> simp

@[simp] theorem testOffer_calm (t : Tag) (s : State) : (testOffer t s).calm = s.calm := by
  unfold testOffer; refine onRec_keeps State.calm (fun r s => ?_) t s
  dsimp only; (repeat' split) <;> simp

@[simp] theorem testStop_calm (t : Tag) (s : State) : (testStop t s).calm = s.calm := by
  unfold testStop; refine onRec_keeps State.calm (fun r s => ?_) t s
  dsimp only; (repeat' split) <;> simp

@[simp] theorem testReturnStop_calm (t : Tag) (s : State) : (testReturnStop t s).calm = s.calm := by
  unfold testReturnStop; refine onRec_keeps State.calm (fun r s => ?_) t s
  dsimp only; (repeat' split) <;> simp

@[simp] theorem testExit_calm (t : Tag) (s : State) : (testExit t s).calm = s.calm := by
  unfold testExit; refine onRec_keeps State.calm (fun r s => ?_) t s
  dsimp only; (repeat' split) <;> simp

@[simp] theorem testExitTrail_calm (t : Tag) (s : State) : (testExitTrail t s).calm = s.calm := by
  unfold testExitTrail; refine onRec_keeps State.calm (fun r s => ?_) t s
  (repeat' split) <;> simp

@[simp] theorem testDeadline_calm (t : Tag) (s : State) : (testDeadline t s).calm = s.calm := by
  unfold testDeadline; refine onRec_keeps State.calm (fun r s => ?_) t s
  dsimp only; (repeat' split) <;> simp

@[simp] theorem testDecision_calm (t : Tag) (s : State) : (testDecision t s).calm = s.calm := by
  unfold testDecision; refine onRec_keeps State.calm (fun r s => ?_) t s
  dsimp only; (repeat' split) <;> simp

@[simp] theorem testGate_calm (t : Tag) (s : State) : (testGate t s).calm = s.calm := by
  unfold testGate; refine onRec_keeps State.calm (fun r s => ?_) t s
  dsimp only; (repeat' split) <;> simp

@[simp] theorem testGhostGate_calm (t : Tag) (s : State) : (testGhostGate t s).calm = s.calm := by
  unfold testGhostGate; refine onRec_keeps State.calm (fun r s => ?_) t s
  (repeat' split) <;> simp

@[simp] theorem syncHere_calm (r : Record) (s : State) : (syncHere r s).calm = s.calm := by
  unfold syncHere; split <;> simp

@[simp] theorem testSync_calm (t : Tag) (s : State) : (testSync t s).calm = s.calm := by
  unfold testSync; refine onRec_keeps State.calm (fun r s => ?_) t s
  dsimp only; (repeat' split) <;> simp

@[simp] theorem testCompileStop_calm (t : Tag) (s : State) : (testCompileStop t s).calm = s.calm := by
  unfold testCompileStop; refine onRec_keeps State.calm (fun r s => ?_) t s
  dsimp only; (repeat' split) <;> simp

@[simp] theorem testPurge_calm (t : Tag) (s : State) : (testPurge t s).calm = s.calm := by
  unfold testPurge; refine onRec_keeps State.calm (fun r s => ?_) t s
  (repeat' split) <;> simp

@[simp] theorem testThresholds_calm (t : Tag) (s : State) : (testThresholds t s).calm = s.calm := by
  unfold testThresholds; simp

@[simp] theorem handConfirmation_calm (k : Nat) (r : Record) (before : Nat) (s : State) :
    (handConfirmation k r before s).calm = s.calm := by
  unfold handConfirmation; dsimp only; (repeat' split) <;> simp

@[simp] theorem confirmGhost_calm (fuel : Nat) (t : Tag) (s : State) : (confirmGhost fuel t s).calm = s.calm := by
  induction fuel generalizing s with
  | zero => rfl
  | succ n ih => unfold confirmGhost; (repeat' split) <;> simp [ih]

/-! ### Machine/Settle.lean -/

@[simp] theorem settleStop_calm (before s : State) : (settleStop before s).calm = s.calm := by
  unfold settleStop; (repeat' split) <;> simp

@[simp] theorem settleTray_calm (before s : State) : (settleTray before s).calm = s.calm := by
  unfold settleTray; (repeat' split) <;> simp

@[simp] theorem settleLoop_calm (before s : State) : (settleLoop before s).calm = s.calm := by
  unfold settleLoop; (repeat' split) <;> simp

@[simp] theorem settleSlots_calm (before s : State) : (settleSlots before s).calm = s.calm := by
  unfold settleSlots; split <;> simp

@[simp] theorem settleHolds_calm (before s : State) : (settleHolds before s).calm = s.calm := by
  unfold settleHolds; simp

@[simp] theorem reverseLoop_calm (s : State) : (reverseLoop s).calm = s.calm := by
  unfold reverseLoop; (repeat' split) <;> simp

@[simp] theorem settleReversal_calm (s : State) : (settleReversal s).calm = s.calm := by
  unfold settleReversal; (repeat' split) <;> simp

@[simp] theorem settleStops_calm (s : State) : (settleStops s).calm = s.calm := by
  unfold settleStops; dsimp only; (repeat' split) <;> simp

@[simp] theorem settleTimers_calm (s : State) : (settleTimers s).calm = s.calm := by
  unfold settleTimers; (repeat' split) <;> simp

@[simp] theorem settleStarts_calm (s : State) : (settleStarts s).calm = s.calm := by
  unfold settleStarts; (repeat' split) <;> simp

@[simp] theorem settlePeriods_calm (s : State) : (settlePeriods s).calm = s.calm := by
  unfold settlePeriods; simp

@[simp] theorem settleDrive_calm (s : State) : (settleDrive s).calm = s.calm := by
  unfold settleDrive; simp

@[simp] theorem settle_calm (before s : State) : (settle before s).calm = s.calm := by
  unfold settle; simp

/-! ### Machine/Compile.lean -/

@[simp] theorem applyEntry_calm (e : TrayEntry) (s : State) : (applyEntry e s).calm = s.calm := by
  unfold applyEntry; dsimp only; (repeat' split) <;> simp

@[simp] theorem breakSuspect_calm (e : TrayEntry) (s : State) : (breakSuspect e s).calm = s.calm := by
  unfold breakSuspect; (repeat' split) <;> simp

@[simp] theorem addLate_calm (e : TrayEntry) (s : State) : (addLate e s).calm = s.calm := by
  unfold addLate; simp

@[simp] theorem enterTray_calm (r : Record) (suspect : Bool) (s : State) : (enterTray r suspect s).calm = s.calm := by
  unfold enterTray; dsimp only; (repeat' split) <;> simp

@[simp] theorem applyLate_calm (late : List TrayEntry) (s : State) : (applyLate late s).calm = s.calm := by
  induction late generalizing s with
  | nil => rfl
  | cons e rest ih => unfold applyLate; dsimp only; split <;> simp [ih]

@[simp] theorem completeEject_calm (s : State) : (completeEject s).calm = s.calm := by
  unfold completeEject; (repeat' split) <;> simp

@[simp] theorem completeDump_calm (s : State) : (completeDump s).calm = s.calm := by
  unfold completeDump; simp

/-! ### Machine/Tracking.lean -/

@[simp] theorem moveRecords_calm (ch : Channel) (s : State) : (moveRecords ch s).calm = s.calm := by
  unfold moveRecords; simp

@[simp] theorem moveSensors_calm (ch : Channel) (s : State) : (moveSensors ch s).calm = s.calm := by
  unfold moveSensors; simp

@[simp] theorem moveRunout_calm (ch : Channel) (s : State) : (moveRunout ch s).calm = s.calm := by
  unfold moveRunout; (repeat' split) <;> simp

@[simp] theorem missAt_calm (k : Nat) (r : Record) (s : State) : (missAt k r s).calm = s.calm := by
  unfold missAt; dsimp only
  have h : ∀ x : State, (onRec r.tag missedReg x).calm = x.calm :=
    onRec_keeps State.calm (fun r s => missedReg_calm r s) r.tag
  (repeat' split) <;> simp [h]

@[simp] theorem testLate_calm (t : Tag) (s : State) : (testLate t s).calm = s.calm := by
  unfold testLate; refine onRec_keeps State.calm (fun r s => ?_) t s
  (repeat' split) <;> simp

@[simp] theorem testRearm_calm (t : Tag) (s : State) : (testRearm t s).calm = s.calm := by
  unfold testRearm; refine onRec_keeps State.calm (fun r s => ?_) t s
  (repeat' split) <;> simp

@[simp] theorem testStall_calm (t : Tag) (s : State) (k : Nat) : (testStall t s k).calm = s.calm := by
  unfold testStall; refine onRec_keeps State.calm (fun r s => ?_) t s
  (repeat' split) <;> simp

@[simp] theorem testStalls_calm (t : Tag) (s : State) : (testStalls t s).calm = s.calm := by
  unfold testStalls; exact foldl_keeps State.calm (fun s k => testStall_calm t s k) _ s

@[simp] theorem startRunout_calm (s : State) : (startRunout s).calm = s.calm := by
  unfold startRunout; (repeat' split) <;> simp

@[simp] theorem testRunout_calm (t : Tag) (s : State) : (testRunout t s).calm = s.calm := by
  unfold testRunout; refine onRec_keeps State.calm (fun r s => ?_) t s
  (repeat' split) <;> simp

@[simp] theorem testTray_calm (t : Tag) (s : State) : (testTray t s).calm = s.calm := by
  unfold testTray; refine onRec_keeps State.calm (fun r s => ?_) t s
  (repeat' split) <;> simp

@[simp] theorem testRecord_calm (t : Tag) (s : State) : (testRecord t s).calm = s.calm := by
  unfold testRecord; simp

@[simp] theorem moveStep_calm (ch : Channel) (s : State) : (moveStep ch s).calm = s.calm := by
  unfold moveStep; simp

@[simp] theorem stepChannel_calm (ch : Channel) (s : State) : (stepChannel ch s).calm = s.calm := by
  unfold stepChannel; exact (foldl_keeps State.calm (fun x t => testRecord_calm t x) _ _).trans (moveStep_calm ch s)

@[simp] theorem checkGap_calm (k p : Nat) (t : Tag) (s : State) : (checkGap k p t s).calm = s.calm := by
  unfold checkGap; refine onRec_keeps State.calm (fun r s => ?_) t s
  (repeat' split) <;> simp

@[simp] theorem confirmEdge_calm (k : Nat) (r : Record) (s : State) : (confirmEdge k r s).calm = s.calm := by
  unfold confirmEdge; simp

@[simp] theorem earlyEdge_calm (k : Nat) (r : Record) (s : State) : (earlyEdge k r s).calm = s.calm := by
  unfold earlyEdge; simp

@[simp] theorem checkLead_calm (k : Nat) (s : State) : (checkLead k s).calm = s.calm := by
  unfold checkLead; (repeat' split) <;> simp

@[simp] theorem sweepLead_calm (k : Nat) (s : State) : (sweepLead k s).calm = s.calm := by
  unfold sweepLead; dsimp only; (repeat' split) <;> simp

@[simp] theorem takeLead_calm (k : Nat) (s : State) : (takeLead k s).calm = s.calm := by
  unfold takeLead; dsimp only; (repeat' split) <;> simp

@[simp] theorem handGate_calm (k : Nat) (s : State) : (handGate k s).calm = s.calm := by
  unfold handGate; (repeat' split) <;> simp

@[simp] theorem handInvert_calm (k : Nat) (r : Record) (s : State) : (handInvert k r s).calm = s.calm := by
  unfold handInvert; (repeat' split) <;> simp

@[simp] theorem handCompile_calm (k : Nat) (r : Record) (q : Sensor) (short : Bool) (s : State) :
    (handCompile k r q short s).calm = s.calm := by
  unfold handCompile; (repeat' split) <;> simp

@[simp] theorem takeOwned_calm (k : Nat) (q : Sensor) (r : Record) (s : State) :
    (takeOwned k q r s).calm = s.calm := by
  unfold takeOwned; dsimp only; (repeat' split) <;> simp

@[simp] theorem takeTrail_calm (k : Nat) (s : State) : (takeTrail k s).calm = s.calm := by
  unfold takeTrail; dsimp only; (repeat' split) <;> simp

/-! ### Machine/Feed.lean -/

@[simp] theorem feedHeard_calm (o : FeedOrder) (s : State) : (feedHeard o s).calm = s.calm := by
  unfold feedHeard; (repeat' split) <;> simp

@[simp] theorem supplyOut_calm (s : State) : (supplyOut s).calm = s.calm := by
  unfold supplyOut; (repeat' split) <;> simp

@[simp] theorem startPick_calm (o : FeedOrder) (s : State) : (startPick o s).calm = s.calm := by
  unfold startPick; simp

@[simp] theorem refusePick_calm (o : FeedOrder) (s : State) : (refusePick o s).calm = s.calm := by
  unfold refusePick; simp

@[simp] theorem pickFrom_calm (orders : List FeedOrder) (s : State) : (pickFrom orders s).calm = s.calm := by
  induction orders generalizing s with
  | nil => rfl
  | cons o rest ih => unfold pickFrom; dsimp only; (repeat' split) <;> simp [ih]

/-! ### Machine/Control.lean -/

@[simp] theorem examinePick_calm (s : State) : (examinePick s).calm = s.calm := by
  unfold examinePick; split <;> simp

@[simp] theorem raiseHandoff_calm (t : Option Tag) (s : State) : (raiseHandoff t s).calm = s.calm := by
  unfold raiseHandoff; split
  · rfl
  · exact onRec_keeps State.calm (fun r s => raise_calm _ s) _ s

@[simp] theorem endImageWait_calm (s : State) : (endImageWait s).calm = s.calm := by
  unfold endImageWait; simp

/-! ### Machine/Faults.lean -/

@[simp] theorem reportFault_calm (q : Request) (s : State) : (reportFault q s).calm = s.calm := by
  unfold reportFault; simp

@[simp] theorem spoilInvolved_calm (q : Request) (t : Tag) (s : State) : (spoilInvolved q t s).calm = s.calm := by
  unfold spoilInvolved; split <;> simp

@[simp] theorem spoil_calm (q : Request) (s : State) : (spoil q s).calm = s.calm := by
  unfold spoil; (repeat' split) <;> simp

@[simp] theorem pushContext_calm (c : Context) (s : State) : (pushContext c s).calm = s.calm := by
  unfold pushContext; simp

@[simp] theorem tellHalt_calm (q : Request) (s : State) : (tellHalt q s).calm = s.calm := by
  unfold tellHalt; (repeat' split) <;> simp

@[simp] theorem takeRequest_calm (q : Request) (s : State) : (takeRequest q s).calm = s.calm := by
  unfold takeRequest; dsimp only; (repeat' split) <;> simp

@[simp] theorem haltHeard_calm (s : State) : (haltHeard s).calm = s.calm := by
  unfold haltHeard; (repeat' split) <;> simp

@[simp] theorem purgeTray_calm (s : State) : (purgeTray s).calm = s.calm := by
  unfold purgeTray; (repeat' split) <;> simp

@[simp] theorem purgeLate_calm (s : State) : (purgeLate s).calm = s.calm := by
  unfold purgeLate; simp

@[simp] theorem clearTray_calm (s : State) : (clearTray s).calm = s.calm := by
  unfold clearTray; dsimp only; simp

@[simp] theorem clearSheets_calm (s : State) : (clearSheets s).calm = s.calm := by
  unfold clearSheets; simp

@[simp] theorem clearPath_calm (s : State) : (clearPath s).calm = s.calm := by
  unfold clearPath; simp

@[simp] theorem clearCommand_calm (s : State) : (clearCommand s).calm = s.calm := by
  unfold clearCommand; (repeat' split) <;> simp

/-! ### Machine/Configure.lean -/

@[simp] theorem endPulse_calm (s : State) : (endPulse s).calm = s.calm := by
  unfold endPulse; simp

@[simp] theorem freshSensors_calm (old : Nat) (s : State) : (freshSensors old s).calm = s.calm := by
  unfold freshSensors; simp

@[simp] theorem sendJoin_calm (s : State) : (sendJoin s).calm = s.calm := by
  unfold sendJoin; simp

/-! ### Machine/SheetFrames.lean -/

@[simp] theorem passHeard_calm (src : Nat) (t : FrameTag) (s : State) : (passHeard src t s).calm = s.calm := by
  unfold passHeard; (repeat' split) <;> simp

@[simp] theorem arrivedHeard_calm (src : Nat) (t : FrameTag) (s : State) : (arrivedHeard src t s).calm = s.calm := by
  unfold arrivedHeard; (repeat' split) <;> simp

@[simp] theorem offerHeard_calm (src : Nat) (o : SheetFields) (s : State) : (offerHeard src o s).calm = s.calm := by
  unfold offerHeard; simp

@[simp] theorem endReturnWait_calm (t : Tag) (s : State) : (endReturnWait t s).calm = s.calm := by
  unfold endReturnWait; (repeat' split) <;> simp

@[simp] theorem passIfThere_calm (r : Record) (s : State) : (passIfThere r s).calm = s.calm := by
  unfold passIfThere; (repeat' split) <;> simp

@[simp] theorem takeRecord_calm (r : Record) (s : State) : (takeRecord r s).calm = s.calm := by
  unfold takeRecord; simp

@[simp] theorem takeHeard_calm (src : Nat) (t : FrameTag) (s : State) : (takeHeard src t s).calm = s.calm := by
  unfold takeHeard; (repeat' split) <;> simp

@[simp] theorem deferHeard_calm (src : Nat) (t : FrameTag) (s : State) : (deferHeard src t s).calm = s.calm := by
  unfold deferHeard; (repeat' split) <;> simp

@[simp] theorem oweOffers_calm (src : Nat) (s : State) : (oweOffers src s).calm = s.calm := by
  unfold oweOffers; simp

@[simp] theorem readyHeard_calm (src : Nat) (s : State) : (readyHeard src s).calm = s.calm := by
  unfold readyHeard; (repeat' split) <;> simp

@[simp] theorem recordHold_calm (src origin : Nat) (s : State) : (recordHold src origin s).calm = s.calm := by
  unfold recordHold; dsimp only; simp

@[simp] theorem holdHeard_calm (src origin : Nat) (s : State) : (holdHeard src origin s).calm = s.calm := by
  unfold holdHeard; (repeat' split) <;> simp

@[simp] theorem goHeard_calm (origin : Nat) (s : State) : (goHeard origin s).calm = s.calm := by
  unfold goHeard; (repeat' split) <;> simp

@[simp] theorem imageHeard_calm (t : FrameTag) (side : Nat) (s : State) : (imageHeard t side s).calm = s.calm := by
  unfold imageHeard; (repeat' split) <;> simp

/-! ### Machine/PathSweep.lean -/

@[simp] theorem launchGhost_calm (s : State) : (launchGhost s).calm = s.calm := by
  unfold launchGhost; dsimp only; simp

@[simp] theorem examineLaunch_calm (s : State) : (examineLaunch s).calm = s.calm := by
  unfold examineLaunch; (repeat' split) <;> simp

end Sys2Proof.Machine
end

