-- ==== Sys2Proof/Laws/Settle.lean ====
section
/-! SUPPORT. What settling an event does where nothing waits for it: the channels and the timers only. -/

namespace Sys2Proof.Machine

/-- With no OFFER owed none is sent (R69). -/
theorem sendOffers_of_none_owed {s : State} (h : ∀ r ∈ s.track.queue, r.offerOwed = false) : sendOffers s = s := by
  have one : ∀ (l : List Record) (t : State), (∀ r ∈ l, r ∈ s.track.queue) → t = s →
      l.foldl (fun s r => offerIfDue r.tag s) t = s := by
    intro l
    induction l with
    | nil => intro t _ e; simpa using e
    | cons r l ih =>
      intro t hl e
      subst e
      refine ih _ (fun x hx => hl x (List.mem_cons_of_mem _ hx)) ?_
      unfold offerIfDue onRec
      dsimp only
      split
      · rename_i x hx
        have hm : x.offerOwed = false := h x (List.mem_of_find?_eq_some hx)
        simp [hm]
      · rfl
  unfold sendOffers
  split
  · exact one _ _ (fun _ hr => hr) rfl
  · rfl

/-- READY goes to no upstream whose entry the condition does not meet (R82). -/
theorem sendReady_of_not {p : Deferral → Bool} {side : UpSide} {s : State} (h : s.owesReady p side = false) :
    sendReady p side s = s := by
  unfold sendReady
  simp [h]

/-- With no upstream deferred for a duplicate no READY is sent for one (R82). -/
theorem sendDuplicateReadies_of_none {s : State} (h1 : ∀ d ∈ s.hand.deferred1, d.reason ≠ .duplicate)
    (h2 : ∀ d ∈ s.hand.deferred2, d.reason ≠ .duplicate) : sendDuplicateReadies s = s := by
  have o1 : s.owesReady (s.dupGone .up1) .up1 = false := by
    unfold State.owesReady State.deferral
    dsimp only
    split
    · rename_i d hd
      simp [State.dupGone, h1 d hd]
    · rfl
  have o2 : s.owesReady (s.dupGone .up2) .up2 = false := by
    unfold State.owesReady State.deferral
    dsimp only
    split
    · rename_i d hd
      simp [State.dupGone, h2 d hd]
    · rfl
  unfold sendDuplicateReadies
  dsimp only
  rw [sendReady_of_not o1, sendReady_of_not o2]

/-- With no offer waiting an examination of the slots does nothing (R80). -/
theorem examineSlots_of_none {s : State} (h : s.noOffers) : examineSlots s = s := by
  have h1 : s.slot .up1 = none := h.1
  have h2 : s.slot .up2 = none := h.2
  simp [examineSlots, examineSlot, takeFree, State.slotFree, h1, h2]

/-- The slots are examined as an event settles only where a LOOP record has gone, and only an offer that waits can then
be answered (R100). -/
theorem settleSlots_of_none {b s : State} (h : s.loopEnded b = false ∨ s.noOffers) : settleSlots b s = s := by
  unfold settleSlots
  rcases h with h | h
  · simp [h]
  · rw [examineSlots_of_none h, ite_self]

/-- Only an INVERT station has LOOP records to lose (R100). -/
theorem loopEnded_of_role {b s : State} (h : s.role ≠ .invert) : s.loopEnded b = false := by
  simp [State.loopEnded, h]

/-- A change that keeps every record's tag, and whether it is a LOOP record, ends none (R100). -/
theorem loopEnded_mapped {b s : State} {f : Record → Record} (ht : ∀ r, (f r).tag = r.tag)
    (hl : ∀ r, (f r).isLoop = r.isLoop) (hq : s.track.queue = b.track.queue.map f) : s.loopEnded b = false := by
  unfold State.loopEnded
  rw [hq]
  simp only [List.any_map, Bool.and_eq_false_iff, List.any_eq_false]
  refine .inr fun r hr => ?_
  cases e : r.isLoop with
  | false => simp
  | true =>
    simp only [Bool.true_and, Bool.not_eq_true', Bool.not_eq_false]
    exact List.any_eq_true.mpr ⟨r, hr, by simp [ht, hl, e]⟩

/-- An event that changes no record ends no LOOP record (R100). -/
theorem loopEnded_same {b s : State} (h : s.track.queue = b.track.queue) : s.loopEnded b = false :=
  loopEnded_mapped (f := id) (fun _ => rfl) (fun _ => rfl) (by simpa using h)

/-- An event that leaves nothing owed, makes no own reason due and has no offer to examine settles in the Drive Unit
alone. -/
theorem settle_quiet {b s : State} (hq : s.quiet) (hs : s.stopDue = none ∨ s.stopDue = b.stopDue)
    (ht : s.trayDue = b.trayDue) (hl : s.loopDue = false ∨ s.loopDue = b.loopDue)
    (hx : s.loopEnded b = false ∨ s.noOffers) : settle b s = settleDrive s := by
  obtain ⟨h0, h1, h2, -⟩ := hq
  unfold settle settleHolds
  rw [sendOffers_of_none_owed h0]
  have e1 : settleStop b s = s := by
    unfold settleStop
    rcases hs with e | e
    · rw [e]
    · rw [e]
      split
      · rfl
      · rename_i t et
        simp [et]
  have e2 : settleTray b s = s := by
    unfold settleTray
    rw [ht]
    cases b.trayDue <;> simp
  have e3 : settleLoop b s = s := by
    unfold settleLoop
    rcases hl with e | e
    · simp [e]
    · rw [e]
      cases b.loopDue <;> simp
  rw [e1, e2, e3, settleSlots_of_none hx, sendDuplicateReadies_of_none h1 h2]

/-- The downstream of a record is read off its route, the role and the parameters (R69, R95). -/
theorem downstream_congr {b s : State} {q r : Record} (hr : q.route = r.route) (hc : s.ctl.strap = b.ctl.strap)
    (hp : s.cfg.params = b.cfg.params) : s.downstream q = b.downstream r := by
  unfold State.downstream State.role State.dn1 State.dn2 State.par
  rw [hr, hc, hp]

/-- Whether a record is taken is read off its exit stage besides (R72, R73). -/
theorem untaken_congr {b s : State} {q r : Record} (hs : q.stage = r.stage) (hr : q.route = r.route)
    (hc : s.ctl.strap = b.ctl.strap) (hp : s.cfg.params = b.cfg.params) : s.untaken q = b.untaken r := by
  simp only [State.untaken, State.taken, hs, downstream_congr hr hc hp]

/-- The same for an event that changes neither the records, nor the sequence, nor the tray's operation, nor the role, nor
the parameters. -/
theorem settle_same {b s : State} (hq : s.quiet) (ht : s.track = b.track) (hc : s.ctl.strap = b.ctl.strap)
    (hp : s.cfg.params = b.cfg.params) (hi : s.inv = b.inv) (ho : s.comp.op = b.comp.op) :
    settle b s = settleDrive s := by
  refine settle_quiet hq (.inr ?_) ?_ (.inr ?_) (.inl (loopEnded_same (congrArg _ ht)))
  · simp only [State.stopDue, State.role, ht, hc, untaken_congr rfl rfl hc hp]
    rfl
  · simp only [State.trayDue, State.role, ht, hc, ho]
    rfl
  · simp only [State.loopDue, ht, hi]

/-- With no earlier frame in the receive buffer a sound frame that the port hears is taken in the event of its
completion (R180). -/
theorem receive_heard {c : Instr} {h : Header} {take : State → State} {s : State} (hh : s.hearsFrom h)
    (hc : sound c = true) : receive c h take s = take s := by
  obtain ⟨h1, h2, h3, h4, h5⟩ := hh
  have ha : s.hears h = true := by
    unfold State.hears State.portClosed State.addressed
    rcases h5 with e5 | e5 <;> simp_all
  have hb : s.bufferFull = false := by simp [State.bufferFull, h3]
  unfold receive
  simp [ha, hb, hc, h3]

/-- A frame from a sender its kind admits, in a state that takes it, is handed to its owning block (R182). -/
theorem admit_taken {h : Header} {k : Rules} {body : State → State} {s : State}
    (hw : s.admits k.who h.src.toNat = true) (hr : s.refusesKind k.admission = false)
    (hl : s.ctl.st ≠ .lockdown ∨ k.admission = .always) : admitFrame h k body s = body s := by
  unfold admitFrame
  rw [if_neg (by simp [hw, hr]), if_neg (by rintro ⟨e1, e2⟩; exact hl.elim (· e1) e2)]

/-- A frame of ENGADDR. -/
theorem admit_engine {h : Header} {a : Admission} {body : State → State} {s : State} (hh : s.hearsEngine h)
    (hr : s.refusesKind a = false) (hl : s.ctl.st ≠ .lockdown ∨ a = .always) :
    admitFrame h ⟨.engine, a⟩ body s = body s :=
  admit_taken (by simp [State.admits, hh.2]) hr hl

/-- A handoff frame of an upstream. -/
theorem admit_upstream {h : Header} {body : State → State} {s : State} (hh : s.hearsUpstream h)
    (h1 : s.ctl.st ≠ .lockdown) (h2 : s.ctl.st ≠ .unconfigured) :
    admitFrame h ⟨.upstream, .handoff⟩ body s = body s := by
  refine admit_taken ?_ (by simp [State.refusesKind, h2]) (.inl h1)
  have h0 := hh.2.1
  rcases hh.2.2 with e | e <;> rw [e] at h0 <;> simp [State.admits, named, e, h0]

/-- A handoff frame of a downstream. -/
theorem admit_downstream {h : Header} {body : State → State} {s : State} (hh : s.hearsDownstream h)
    (h1 : s.ctl.st ≠ .lockdown) (h2 : s.ctl.st ≠ .unconfigured) :
    admitFrame h ⟨.downstream, .handoff⟩ body s = body s := by
  refine admit_taken ?_ (by simp [State.refusesKind, h2]) (.inl h1)
  have h0 := hh.2.1
  rcases hh.2.2 with e | e <;> rw [e] at h0 <;> simp [State.admits, named, e, h0]

/-- A HOLD or GO of a configured neighbour. -/
theorem admit_neighbour {h : Header} {body : State → State} {s : State} (hh : s.hearsNeighbour h)
    (h1 : s.ctl.st ≠ .lockdown) (h2 : s.ctl.st ≠ .unconfigured) :
    admitFrame h ⟨.neighbours, .handoff⟩ body s = body s := by
  refine admit_taken ?_ (by simp [State.refusesKind, h2]) (.inl h1)
  have h0 := hh.2.1
  rcases hh.2.2 with e | e | e | e <;> rw [e] at h0 <;> simp [State.admits, named, e, h0]

/-- A HALT or BROKEN of any station. -/
theorem admit_anyone {h : Header} {body : State → State} {s : State} (h1 : s.ctl.st ≠ .lockdown) :
    admitFrame h ⟨.anyone, .plain⟩ body s = body s :=
  admit_taken rfl rfl (.inl h1)

/-- A stepping state is neither LOCKDOWN nor UNCONFIGURED. -/
theorem steps_listens {st : StationState} (h : st.steps = true) : st ≠ .lockdown ∧ st ≠ .unconfigured := by
  constructor <;> rintro rfl <;> cases h

/-- In a stepping state raised requests become pending (R141). -/
theorem steps_faultsPend {st : StationState} (h : st.steps = true) : st.faultsPend = true := by
  cases st <;> first | rfl | cases h

/-! ### Events that change records without moving them -/

/-- What the own reasons that become due read of a record (R72, R108, R135). -/
def Record.face (r : Record) : Tag × Place × Option Route × Reached × ExitStage :=
  (r.tag, r.place, r.route, r.reached, r.stage)

/-- Looking a record up after a change that the condition does not see. -/
theorem find?_map_of_same {p : Record → Bool} {f : Record → Record} (hf : ∀ r, p (f r) = p r) (l : List Record) :
    (l.map f).find? p = (l.find? p).map f := by
  induction l with
  | nil => rfl
  | cons a l ih =>
    simp only [List.map_cons, List.find?_cons, hf]
    cases p a <;> simp [ih]

/-- An event that changes records in nothing the due reasons read settles in the Drive Unit alone. -/
theorem settle_mapped {b s : State} {f : Record → Record} (hq : s.quiet) (hf : ∀ r, (f r).face = r.face)
    (ht : s.track.queue = b.track.queue.map f) (hc : s.ctl.strap = b.ctl.strap)
    (hp : s.cfg.params = b.cfg.params) (hi : s.inv.seq = b.inv.seq ∧ s.inv.loop = b.inv.loop)
    (ho : s.comp.op = b.comp.op) (hx : s.loopEnded b = false ∨ s.noOffers) :
    settle b s = settleDrive s := by
  have h1 : ∀ r, (f r).tag = r.tag := fun r => congrArg (·.1) (hf r)
  have h2 : ∀ r, (f r).place = r.place := fun r => congrArg (·.2.1) (hf r)
  have h3 : ∀ r, (f r).route = r.route := fun r => congrArg (·.2.2.1) (hf r)
  have h4 : ∀ r, (f r).reached = r.reached := fun r => congrArg (·.2.2.2.1) (hf r)
  have h5 : ∀ r, (f r).stage = r.stage := fun r => congrArg (·.2.2.2.2) (hf r)
  have hro : s.role = b.role := by unfold State.role; rw [hc]
  refine settle_quiet hq (.inr ?_) ?_ (.inr ?_) hx
  · unfold State.stopDue
    rw [hro, ht]
    by_cases hr : b.role = Role.exit
    · rw [if_pos hr, if_pos hr]
    · rw [if_neg hr, if_neg hr, find?_map_of_same (fun r => by simp only [h2, h3])]
      cases List.find? _ b.track.queue with
      | none => rfl
      | some r => simp only [Option.map_some, h1, h4, untaken_congr (h5 r) (h3 r) hc hp]
  · unfold State.trayDue
    rw [hro, ho, ht, List.any_map]
    congr 2
    funext r
    simp [h3, h4]
  · simp only [State.loopDue, hi.1, hi.2, ht, List.any_map]
    congr 2
    funext r
    simp [h1, h2]

/-- A change of records that owes no OFFER leaves the state quiet. -/
theorem quiet_mapped {b s : State} {f : Record → Record} (hq : b.quiet) (hf : ∀ r, (f r).offerOwed = r.offerOwed)
    (ht : s.track.queue = b.track.queue.map f) (h1 : s.hand.deferred1 = b.hand.deferred1)
    (h2 : s.hand.deferred2 = b.hand.deferred2) (hi : s.inv.seq = b.inv.seq) : s.quiet := by
  refine ⟨?_, ?_, ?_, ?_⟩
  · rw [ht]
    intro r hr
    obtain ⟨x, hx, rfl⟩ := List.mem_map.mp hr
    rw [hf]
    exact hq.1 x hx
  · rw [h1]
    exact hq.2.1
  · rw [h2]
    exact hq.2.2.1
  · rw [hi]
    exact hq.2.2.2

/-- READY goes to no upstream when neither deferral meets the condition (R82). -/
theorem sendReadies_of_none {p : Deferral → Bool} {s : State} (h1 : ∀ d ∈ s.hand.deferred1, p d = false)
    (h2 : ∀ d ∈ s.hand.deferred2, p d = false) : sendReadies p s = s := by
  have o1 : s.owesReady p .up1 = false := by
    unfold State.owesReady State.deferral
    dsimp only
    split
    · rename_i d hd
      exact h1 d hd
    · rfl
  have o2 : s.owesReady p .up2 = false := by
    unfold State.owesReady State.deferral
    dsimp only
    split
    · rename_i d hd
      exact h2 d hd
    · rfl
  unfold sendReadies
  rw [sendReady_of_not o1, sendReady_of_not o2]

/-! ### Entering a state where nothing waits (R80, R87) -/

/-- With no order that can be picked an examination of the pick does nothing (R87). -/
theorem examinePick_of_none {s : State} (h : s.role ≠ .feed ∨ s.feed.orders = []) : examinePick s = s := by
  unfold examinePick
  split
  · rcases h with h | h
    · cases ho : s.feed.orders with
      | nil => rfl
      | cons o rest => simp [pickFrom, State.pickReady, h]
    · rw [h]
      rfl
  · rfl

/-- A state entered with nothing waiting in it: the entry alone. -/
theorem changeState_of_none {n : StationState} {s : State} (hn : s.ctl.st ≠ n) (h : (enterState n s).nothingWaits) :
    changeState n s = enterState n s := by
  rw [changeState, if_neg hn, examineSlots_of_none h.1, examinePick_of_none h.2]

/-- A state the station is in already is not entered. -/
theorem changeState_same {n : StationState} {s : State} (hn : s.ctl.st = n) : changeState n s = s := by
  rw [changeState, if_pos hn]

end Sys2Proof.Machine
end

