-- ==== Sys2Proof/Laws/Track.lean ====
section
/-! SUPPORT. The thresholds of a record that reaches none (R26), and the lines a pin event touches (R164). -/

namespace Sys2Proof.Machine

/-- A FORWARD record of a TRANSPORT station that reaches no threshold is left alone by every test (R26). -/
theorem testThresholds_of_none {s : State} {t : Tag} {r : Record} (hr : s.rec? t = some r) (ht : s.role = .transport)
    (hd : r.dir = .forward) (hg : r.marks.ghost = false) (hn : s.noThreshold r r.pos) : testThresholds t s = s := by
  obtain ⟨n1, n2, n3, n4⟩ := hn
  have hx : s.testsReverse r = false := by simp [State.testsReverse, ht]
  have e1 : testEntry t s = s := by
    simp only [testEntry, onRec, hr]
    rw [if_neg]
    rintro ⟨-, h1, h2⟩
    rcases n1 with h | h
    · simp [h] at h1
    · omega
  have e2 : testOffer t s = s := by
    simp only [testOffer, onRec, hr, hx]
    rw [if_neg, if_neg (by simp)]
    rintro ⟨-, h1, h2⟩
    rcases n2 with h | h
    · simp [h] at h1
    · omega
  have e3 : testStop t s = s := by
    simp only [testStop, onRec, hr]
    rw [if_neg]
    rintro ⟨-, h1, h2⟩
    rcases n3 with h | h
    · simp [h] at h1
    · omega
  have e4 : testReturnStop t s = s := by
    simp only [testReturnStop, onRec, hr, hx]
    rw [if_neg (by simp)]
  have e5 : testExit t s = s := by
    simp only [testExit, onRec, hr, hx]
    rw [if_neg, if_neg (by simp)]
    rintro ⟨-, h1, h2⟩
    omega
  have e6 : testExitTrail t s = s := by
    simp only [testExitTrail, onRec, hr]
    rw [if_neg]
    simp only [State.trailOut, hd, decide_eq_true_iff]
    rintro ⟨-, h1, h2⟩
    omega
  have e7 : testDeadline t s = s := by
    simp only [testDeadline, onRec, hr, hx]
    rw [if_neg, if_neg (by simp)]
    rintro ⟨-, h1, h2⟩
    omega
  have e8 : testDecision t s = s := by
    simp only [testDecision, onRec, hr]
    split <;> simp [ht]
  have e9 : testGate t s = s := by
    simp only [testGate, onRec, hr]
    split <;> simp [ht]
  have e10 : testGhostGate t s = s := by
    simp only [testGhostGate, onRec, hr]
    split <;> simp [hg]
  have e11 : testSync t s = s := by
    simp only [testSync, onRec, hr]
    split <;> simp [ht]
  have e12 : testCompileStop t s = s := by
    simp only [testCompileStop, onRec, hr]
    simp [ht]
  have e13 : testPurge t s = s := by
    simp only [testPurge, onRec, hr]
    simp [ht]
  simp only [testThresholds, e1, e2, e3, e4, e5, e6, e7, e8, e9, e10, e11, e12, e13]

/-- One bit of a pin field set or cleared, the others as they were. -/
theorem withBit_getLsbD {w : Nat} (x : BitVec w) (k : Nat) (hk : k < w) (on : Bool) (j : Nat) :
    (withBit x k on).getLsbD j = if j = k then on else x.getLsbD j := by
  unfold withBit
  by_cases hj : j < w
  · cases on <;> by_cases h : j = k
    · subst h
      simp [BitVec.getLsbD_twoPow, hk]
    · simp [BitVec.getLsbD_twoPow, h, Ne.symm h, hj]
    · subst h
      simp [BitVec.getLsbD_twoPow, hk]
    · simp [BitVec.getLsbD_twoPow, h, Ne.symm h]
  · have h : j ≠ k := by omega
    have hx : x.getLsbD j = false := BitVec.getLsbD_of_ge x j (by omega)
    cases on <;> simp [h, hx, BitVec.getLsbD_twoPow, Ne.symm h]

/-- What the lines read after a pin event of line n (R164). -/
theorem lineReads_pinLine (s : State) (n : Fin 4) (high : Bool) (f : LineFunction) (m : Nat) :
    (pinLine n high s).lineReads f m =
      if m = n.val then (decide (s.lineFunction n = f) && (high == s.lineActiveHigh n)) else s.lineReads f m := by
  simp only [State.lineReads, pinLine, withBit_getLsbD _ _ n.isLt]
  split
  · rename_i h
    subst h
    rfl
  · rfl

/-- A pin event of a line changes no function but the line's own (R164). -/
theorem functionActive_pinLine {s : State} {n : Fin 4} {f : LineFunction} (h : s.lineFunction n ≠ f) (high : Bool) :
    (pinLine n high s).functionActive f = s.functionActive f := by
  simp only [State.functionActive, lineReads_pinLine]
  congr 1
  funext m
  split
  · rename_i e
    subst e
    simp [h, State.lineReads]
  · rfl

end Sys2Proof.Machine
end

