-- ==== Sys2Proof/Tests/Slice0.lean ====
section
/-! SUPPORT. The tests: commands that WellFormed refuses, single commands checked against the spec's own figures, and
for every statement with hypotheses a state and operands that meet them all. -/

namespace Sys2Proof.Tests

open Sys2Proof Sys2Proof.Machine

/-! ### Small states -/

/-- A table for every role: five sensors (entry, GATE, REG, INVERT on the ALT branch in zone B, COMPILE), neighbours 9,
8, 11 and 12, exit boundary 6000 pu, and the lines INTERLOCK, PAUSE, BIN_FULL and SUPPLY_EMPTY, active high. -/
def table : List Nat :=
  [1, 9, 8, 11, 12, 5] ++ [500, 2000, 3000, 4000, 5000, 0] ++ [0, 0, 0, 2, 1, 0] ++ [0, 1, 2, 3, 4, 0] ++
  [0, 0, 0, 1, 0, 0] ++ [6000, 5000] ++ (paramDefaults.drop 32).take 56 ++ [257, 258, 259, 260]

/-- The station of address 10 with these role straps, in this state, with the derived points of `table`. -/
def at_ (strap : Nat) (st : StationState) : State :=
  { State.reset with
    ctl := { Control.reset 10 strap with st := st, selftest := false }
    cfg := { ConfigStore.reset with
      params := table, stopDistance := 32, stopPoint := 5918, compileStop := 4918, returnStop := 5082 } }

/-- The state a command leaves. -/
def after (c : Instr) (s : State) : State :=
  match exec c s with
  | .next t => t
  | _ => s

/-- The state a step leaves. -/
def next_ (s : State) : State :=
  match step s with
  | .next t => t
  | _ => s

def selftest (address strap : Nat) (restarted : Bool) : State :=
  { State.reset with ctl := { Control.reset address strap with restarted := restarted } }

def eng : Header := ⟨1, 10⟩
def up : Header := ⟨9, 10⟩
def dn : Header := ⟨11, 10⟩

def tag_ (set seq : Nat) : FrameTag := { set := BitVec.ofNat 16 set, last := false, seq := BitVec.ofNat 6 seq }

/-- An A4 sheet of 2100 pu by its short side, SIMPLEX, without marks. -/
def sheet_ (set seq : Nat) : SheetFields := { tag := tag_ set seq, side := 0, speed := 0, marks := 0, length := 2100 }

def offer (set seq : Nat) : Offer := offerOf (sheet_ set seq)

def order (set seq : Nat) : FeedOrder := Machine.orderOf (sheet_ set seq)

def queue_ (l : List Record) (s : State) : State := { s with track := { s.track with queue := l } }

/-- A record inside the path at this position, with sensor 1 next and its window there. -/
def inPath (set seq pos : Nat) : Record :=
  { freshRecord (offer set seq) .inside .up1 (some 1) 0 with
    lead := pos * 256, odo := pos * 256, ref := 500, window := some ⟨1980, 2064⟩
    reached := { Reached.none with entry := true } }

def expected (set seq : Nat) : Record := freshRecord (offer set seq) .expected .up1 none 0

def offered (set seq pos : Nat) : Record := { inPath set seq pos with next := none, window := none, stage := .offered }

def deferred_ (set seq pos : Nat) : Record := { offered set seq pos with stage := .deferred }

def atExit (set seq : Nat) : Record :=
  { offered set seq 6000 with
    reached := { Reached.none with entry := true, offer := true, stop := true, exit := true } }

def exiting (set seq pos : Nat) : Record :=
  { atExit set seq with lead := pos * 256, place := .exiting, stage := .taken 11 }

/-- A queue that moves on channel A. -/
def moving (strap : Nat) (l : List Record) : State :=
  let s := queue_ l (at_ strap .running)
  { s with drive := { s.drive with chA := { Chan.reset with run := .atSpeed, ramp := 64, period := 400 } } }

def covered (k : Nat) (owner : Option Tag) (confirmed : Bool) (s : State) : State :=
  setSensor k (fun q => { q with covered := true, owner := owner, confirmed := confirmed }) s

def entry (origin : Nat) : HoldEntry :=
  { origin := origin
    own := if origin = 10 then { Reasons.none with handoffWait := true } else Reasons.none
    via := if origin = 10 then none else some 11
    fwd := [] }

def holds (origins : List Nat) (s : State) : State := s.withHold (origins.map entry)

def others (n : Nat) : List Nat := (List.range n).map fun i => 30 + i

def ownTwoEntry : HoldEntry :=
  { origin := 10, own := { Reasons.none with handoffWait := true, imageWait := true }, via := none, fwd := [9] }

def ownTwo : State := (at_ 1 .running).withHold [ownTwoEntry]

def pins_ (lines : BitVec 4) (s : State) : State := { s with pins := { s.pins with lines := lines } }

def binWaits (op : Operation) : State :=
  pins_ 4#4 { at_ 4 .running with comp := { Compile.reset with
    traySet := some 7, count := 3, op := op, dumpReason := some .broken, binReported := true } }

def withOrders : State := { at_ 0 .running with feed := { FeedUnit.reset with orders := [order 2 3] } }

def launching : State :=
  { at_ 0 .sweeping with sweep := { Sweep.reset with
      ghosts := 5, inject := 2, origin := some 10, active := true, launching := true, nextNumber := 1 } }

/-- Two offers that no cause stops; STREAK is 4, the last side UP2 and the preference SECONDARY. -/
def twoOffers (streak : Nat) : State :=
  { at_ 1 .running with
    cfg := { (at_ 1 .running).cfg with params := table.set 65 1 }
    hand := { Handoff.reset with
      slot1 := some (offer 4 2), slot2 := some (offer 5 1), lastSide := some .up2, streak := streak } }

def waits : State :=
  { queue_ [inPath 1 1 5918] (holds [10] (at_ 1 .running)) with
    hand := { Handoff.reset with waiting := some ⟨1, 1⟩, holdTimer := .running } }

/-- The loop record of an INVERT station at the end of its run-out. -/
def turned : Record :=
  { inPath 1 1 6200 with route := some .alt, side := .first, next := none, window := none }

def returns (seq : InverterState) : State :=
  { queue_ [turned] (at_ 3 .running) with
    inv := { Inverter.reset with seq := seq, loop := some ⟨1, 1⟩, timer := .running } }

/-- A record on its way back, at AEXIT, taken by the station of this address. -/
def backTo (taker : Nat) : Record := { turned with dir := .reverse, lead := 5000 * 256, stage := .taken taker }

/-- An INVERT station in STOPPING whose loop record, its trail below AEXIT, the station of this address has taken. -/
def stopping (taker : Nat) (st : StationState) : State :=
  let s := returns .stopping
  { queue_ [{ turned with lead := 6700 * 256, stage := .taken taker }] s with ctl := { s.ctl with st := st } }

def waitingSheet (set seq : Nat) : Record := { inPath set seq 3000 with image := some .waiting }

def readySheet : Record := { inPath 1 1 3000 with image := some .ready }

def imageWaits : State :=
  { queue_ [waitingSheet 1 1, waitingSheet 1 2] (at_ 2 .running) with
    reg := { Registration.reset with timer := .running }
    drive := { Drive.reset with hold := [ownTwoEntry] } }

def tray (op : Operation) (keepOpen : Bool) : State :=
  { at_ 4 .running with comp := { Compile.reset with
      traySet := some 7, count := 5, nextSeq := 6, op := op, timer := .running, keepOpen := keepOpen } }

def queued : State :=
  { at_ 1 .running with port := { Port.reset with tx := [⟨⟨1, .ready⟩, false⟩] } }

def sendingOne : State := after .frameSendStart queued

/-- The bare request of a code. -/
def bareOf (c : FaultCode) : Request := requestBare c none false none

def pending_ (c : FaultCode) (s : State) : State := { s with flt := { s.flt with pending := [bareOf c] } }

/-- These pending faults at a RUNNING TRANSPORT station. -/
def faults (l : List FaultCode) : State :=
  { at_ 1 .running with flt := { FaultUnit.reset with pending := l.map bareOf } }

/-- GAP is not present, and TABLE's entry is this. -/
def unlisted (entry : Nat) (s : State) : State :=
  { s with cfg := { s.cfg with params := (table.set 75 0).set 85 entry } }

/-- The request of a code with TABLE substituted. -/
def asTable_ (c : FaultCode) : Request := { bareOf c with code := .table, original := some c }

/-- One pending fault at a RUNNING TRANSPORT station with the dispositions of R143. -/
def faulty (c : FaultCode) : State := pending_ c (at_ 1 .running)

def spoiling (set seq : Nat) : State :=
  { faulty .short with
    flt := { FaultUnit.reset with pending := [{ bareOf .short with involved := some ⟨set, seq⟩ }] } }

/-- One pending request at a RUNNING TRANSPORT station. -/
def asking (q : Request) : State := { at_ 1 .running with flt := { FaultUnit.reset with pending := [q] } }

def stopEntry : Context := { code := .miss, original := none, isStop := true, saved := .running }

def holdEntry : Context := { code := .speed, original := none, isStop := false, saved := .running }

def stacked (l : List Context) (restart : Bool) (s : State) : State :=
  { s with flt := { s.flt with stack := l, restartNeeded := restart } }

def fullStack (c : FaultCode) : State :=
  stacked [holdEntry, holdEntry, holdEntry] false (pending_ c (at_ 1 .running))

/-- GAP and TABLE are not present. -/
def noTable : State :=
  let s := pending_ .gap (at_ 1 .running)
  { s with cfg := { s.cfg with params := (table.set 75 0).set 85 0 } }

def unfit : State :=
  let s := at_ 1 .ready
  { s with cfg := { s.cfg with params := table.set 30 4999 } }

def routed (set seq : Nat) (route : Route) : Record := { inPath set seq 2000 with route := some route }

def gateFor (route : Route) : State :=
  { queue_ [routed 1 1 route] (at_ 3 .running) with gate := { Gate.reset with list := [⟨1, 1⟩] } }

def routedTo (set seq : Nat) : State :=
  { at_ 4 .running with comp := { Compile.reset with routedSet := some set, routedNext := seq } }

/-- Seven records beyond the entry and an OFFER waiting. -/
def sevenTake : State :=
  { queue_ ((List.range 7).map fun i => inPath 1 (i + 1) 3000) (at_ 1 .running) with
    pending := [.offer up (sheet_ 4 2)] }

def holdFull : State := { holds (others 6) (at_ 1 .running) with pending := [.hold dn 20] }

def brokenFull : State :=
  let s := at_ 1 .running
  { s with track := { s.track with broken := [1, 2, 3, 4, 5, 6, 7, 8] }, pending := [.broken up 9] }

def stackTwo : State :=
  { stacked [holdEntry, holdEntry] false (pending_ .miss (at_ 1 .running)) with pending := [.faultDispatch] }

def faultTwice : State := { faulty .early with pending := [.leadEdge 4] }

def txFull : State :=
  { at_ 1 .running with
    port := { Port.reset with tx := List.replicate 12 ⟨⟨1, .fault (bareOf .gap)⟩, false⟩ }
    pending := [.query eng 0 false] }

def imagesFull : State :=
  { at_ 2 .running with
    reg := { Registration.reset with images := (List.range 8).map fun i => ⟨⟨1, i + 1⟩, 1⟩ }
    pending := [.image eng (tag_ 2 1) 1] }

def ordersThree : State :=
  { at_ 0 .running with
    feed := { FeedUnit.reset with orders := [order 1 1, order 1 2, order 1 3] }
    pending := [.feed eng (sheet_ 1 4)] }

def holdWhileRunning : State := { moving 1 [inPath 1 1 1900] with pending := [.hold dn 20] }

/-- Frames in the receive buffer. -/
def buffered (l : List Instr) (s : State) : State := { s with port := { s.port with rx := l } }

def bufferFills : State := { buffered [.start eng] (at_ 1 .running) with pending := [.ready dn] }

/-- An offer of UP1 that waits in its slot. -/
def offering (s : State) : State := { s with hand := { s.hand with slot1 := some (offer 4 2) } }

/-- A LOOP-bound offer, waiting in the slot of UP1. -/
def loopOffer : Offer := { offer 4 2 with side := .first }

def offeringLoop (s : State) : State := { s with hand := { s.hand with slot1 := some loopOffer } }

/-- The loop record of an INVERT station with its trail out at AEXIT, an OFFER waiting for the inverter. -/
def backOut : Record := { exiting 1 1 2800 with stage := .taken 12, route := some .alt, side := .second, dir := .reverse }

def returned : State :=
  { offeringLoop (queue_ [backOut] (at_ 3 .running)) with
    inv := { Inverter.reset with seq := .returning, loop := some ⟨1, 1⟩ } }

/-- A station that has refused a SWEEP. -/
def refusing (s : State) : State := { s with sweep := { s.sweep with refused := true } }

/-- UP1 deferred for STATE and UP2 for DRAIN. -/
def deferring (s : State) : State :=
  { s with hand := { s.hand with deferred1 := some ⟨.state, none⟩, deferred2 := some ⟨.drain, none⟩ } }

/-- UP1 deferred as a duplicate of a sheet that has passed, UP2 of one that stays. -/
def duplicated : State :=
  { queue_ [exiting 1 1 8100, inPath 1 2 3000] (at_ 1 .running) with
    hand := { Handoff.reset with
      deferred1 := some ⟨.duplicate, some ⟨1, 1⟩⟩, deferred2 := some ⟨.duplicate, some ⟨1, 2⟩⟩ } }

/-- A record inside the path beyond its last sensor. -/
def onPath (set seq pos : Nat) : Record := { inPath set seq pos with next := none, window := none }

def crossing : Record := { onPath 1 1 2100 with place := .entering, reached := Reached.none }

/-- A TRANSPORT station without downstream that moves on channel A. -/
def alone (l : List Record) : State :=
  { moving 1 l with cfg := { (moving 1 l).cfg with params := table.set 3 0 } }

def atEnd (stage : ExitStage) (pos : Nat) : Record :=
  { onPath 1 1 pos with
    stage := stage, reached := { Reached.none with entry := true, offer := true, stop := true } }

def arrived (pos : Nat) : Record := { exiting 1 1 pos with arrival := true }

def toStop : Record := { onPath 1 1 5918 with reached := { Reached.none with entry := true, offer := true } }

def ghostAt (pos : Nat) : Record := { inPath 1 1 pos with marks := { Marks.none with ghost := true }, window := none }

/-- A pick that channel A moves at a FEED station. -/
def picking (l : List Record) : State :=
  { moving 0 l with feed := { FeedUnit.reset with pick := some ⟨1, 1⟩ } }

def ghostIn (pos : Nat) : Record := { ghostAt pos with source := .pick, place := .entering, next := some 0 }

def pickedAt (retries : Nat) : Record :=
  { inPath 1 1 541 with
    source := .pick, place := .entering, next := some 0, window := some ⟨480, 540⟩, retries := retries
    reached := Reached.none }

/-- A pick whose re-arming step carries it to its offer point: X is 600 pu. -/
def rearmed : State :=
  let s := picking [pickedAt 1]
  { s with cfg := { s.cfg with params := table.set 30 600 } }

/-- A station paused in its sweep. -/
def sweptOut (last : Bool) : State :=
  { stacked [{ holdEntry with saved := .sweeping }] false (deferring (at_ 1 .paused)) with
    sweep := { Sweep.reset with active := true, lastSeen := last } }

/-- A MAIN record whose trail is at the COMPILE sensor. -/
def trayBound : Record := { onPath 1 1 7100 with route := some .main }

def atTray (s : State) : State := covered 4 (some ⟨1, 1⟩) true (queue_ [trayBound] s)

/-- The EXIT station of an active sweep. -/
def checking : State := { at_ 4 .sweeping with sweep := { Sweep.reset with active := true } }

/-- A completed frame with this check. -/
def raw (cls : BitVec 3) (kind : BitVec 5) (src dst : Address) (payload : List Byte) (check : Half) : RxFrame :=
  { cls := cls, kind := kind, hdr := ⟨src, dst⟩, payload := payload, check := check }

/-- A completed frame with the check that belongs to it. -/
def good (cls : BitVec 3) (kind : BitVec 5) (src dst : Address) (payload : List Byte) : RxFrame :=
  raw cls kind src dst payload (checkOf (fieldBits cls kind ⟨src, dst⟩ payload))

/-- The levels of a frame on the line. -/
def onLine (f : RxFrame) : List Bool :=
  insertBits true 0 (false :: (fieldBits f.cls f.kind f.hdr f.payload ++ bitsOf f.check)) ++ List.replicate 8 true

/-! ### The statements' hypotheses are met -/

theorem meets_StepTakesTheFrontCommand_1 : ∃ (c : Instr) (rest : List Instr) (s : State), s.pending = c :: rest :=
  ⟨.halt up 3, [.link], { at_ 1 .running with pending := [.halt up 3, .link] }, by decide⟩

theorem meets_StepTakesTheFrontCommand_2 : ∃ (c : Instr) (rest : List Instr) (s : State), s.pending = [] ∧ s.port.rx
    = c :: rest ∧ s.ctl.resetLow = false ∧ s.ctl.st ≠ .selftest :=
  ⟨.halt up 3, [], buffered [.halt up 3] (at_ 1 .running), by decide⟩

theorem meets_StepTakesTheFrontCommand_3 : ∃ s : State, s.pending = [] ∧ (s.port.rx = [] ∨ s.ctl.resetLow = true ∨
    s.ctl.st = .selftest) :=
  ⟨State.reset, by decide⟩

theorem meets_StepTakesTheFrontCommand_4 : ∃ (c : Instr) (h : Header) (s : State), c.header? = some h ∧ sound c =
    true ∧ s.hearsFrom h :=
  ⟨.halt up 3, up, at_ 1 .running, by decide⟩

theorem meets_LockdownIsLeftOnlyByReset_1 : ∃ (c : Instr) (s t : State), s.ctl.st = .lockdown :=
  ⟨.restart eng 10 1, at_ 1 .lockdown, after (.restart eng 10 1) (at_ 1 .lockdown), by decide⟩

theorem meets_LockdownIsLeftOnlyByReset_2 : ∃ s t : State, s.ctl.st = .lockdown ∧ s.pending = [] ∧ step s = .next t
    :=
  ⟨buffered [.restart eng 10 1] (at_ 1 .lockdown), next_ (buffered [.restart eng 10 1] (at_ 1 .lockdown)), by decide, by decide, rfl⟩

theorem meets_FramesInSelftestAndLockdown_3 : ∃ (l : List Bool) (s : State), s.ctl.st = .lockdown :=
  ⟨[false], at_ 1 .lockdown, by decide⟩

theorem meets_HeldInResetNothingHappens_3a : ∃ s : State, (s.ctl.resetLow = true ∨ s.ctl.st = .selftest) :=
  ⟨State.reset, by decide⟩

theorem meets_HeldInResetNothingHappens_3b : ∃ s : State, (s.ctl.resetLow = true ∨ s.ctl.st = .selftest) :=
  ⟨after .resetPinHeldLow (at_ 3 .running), by decide⟩

theorem meets_HeldInResetNothingHappens_4 : ∃ s : State, s.ctl.resetLow = true :=
  ⟨after .resetPinHeldLow (at_ 1 .running), by decide⟩

theorem meets_HeldInResetNothingHappens_5 : ∃ s : State, s.ctl.selftest = true :=
  ⟨State.reset, by decide⟩

theorem meets_QueueBoundKept_1 : ∃ s t : State, s.queueSound ∧ step s = .next t :=
  ⟨sevenTake, next_ sevenTake, by decide, rfl⟩

theorem meets_HoldBoundKept_1 : ∃ s t : State, s.holdSound ∧ step s = .next t :=
  ⟨holdFull, next_ holdFull, by decide, rfl⟩

theorem meets_BrokenBoundKept_1 : ∃ s t : State, s.brokenSound ∧ step s = .next t :=
  ⟨brokenFull, next_ brokenFull, by decide, rfl⟩

theorem meets_FaultAndTransmitBoundsKept_1 : ∃ s t : State, s.stackSound ∧ step s = .next t :=
  ⟨stackTwo, next_ stackTwo, by decide, rfl⟩

theorem meets_FaultAndTransmitBoundsKept_2 : ∃ s t : State, s.pendingSound ∧ step s = .next t :=
  ⟨faultTwice, next_ faultTwice, by decide, rfl⟩

theorem meets_FaultAndTransmitBoundsKept_3 : ∃ s t : State, s.transmitSound ∧ step s = .next t :=
  ⟨txFull, next_ txFull, by decide, rfl⟩

theorem meets_FaultAndTransmitBoundsKept_4 : ∃ s t : State, s.classSound ∧ step s = .next t :=
  ⟨txFull, next_ txFull, by decide, rfl⟩

theorem meets_FaultAndTransmitBoundsKept_5 : ∃ s t : State, s.bufferSound ∧ step s = .next t :=
  ⟨bufferFills, next_ bufferFills, by decide, rfl⟩

theorem meets_ListBoundsKept_1 : ∃ s t : State, s.imagesSound ∧ step s = .next t :=
  ⟨imagesFull, next_ imagesFull, by decide, rfl⟩

theorem meets_ListBoundsKept_2 : ∃ s t : State, s.ordersSound ∧ step s = .next t :=
  ⟨ordersThree, next_ ordersThree, by decide, rfl⟩

theorem meets_ListBoundsKept_3 : ∃ s t : State, s.shapeSound ∧ step s = .next t :=
  ⟨State.reset, next_ State.reset, by decide, rfl⟩

theorem meets_HeldChannelsNeverRun_1 : ∃ s t : State, s.drivenSound ∧ step s = .next t :=
  ⟨holdWhileRunning, next_ holdWhileRunning, by decide, rfl⟩

theorem meets_SelftestCompleteLeavesSelftest_1 : ∃ (stuck levels : BitVec 6) (s : State), s.ctl.resetLow = false ∧
    s.ctl.st = .selftest ∧ s.ctl.selftest = true ∧ s.ctl.restarted = false ∧ 1 ≤ s.ctl.address ∧ s.ctl.address ≤ 62
    :=
  ⟨0, 0, selftest 62 1 false, by decide⟩

theorem meets_SelftestCompleteLeavesSelftest_2a : ∃ (stuck levels : BitVec 6) (s : State), s.ctl.resetLow = false ∧
    s.ctl.st = .selftest ∧ s.ctl.selftest = true ∧ (s.ctl.address = 0 ∨ 62 < s.ctl.address) :=
  ⟨0, 0, selftest 63 1 false, by decide⟩

theorem meets_SelftestCompleteLeavesSelftest_2b : ∃ (stuck levels : BitVec 6) (s : State), s.ctl.resetLow = false ∧
    s.ctl.st = .selftest ∧ s.ctl.selftest = true ∧ (s.ctl.address = 0 ∨ 62 < s.ctl.address) :=
  ⟨0, 0, selftest 0 1 true, by decide⟩

theorem meets_SelftestCompleteLeavesSelftest_3 : ∃ (stuck levels : BitVec 6) (s : State), s.ctl.resetLow = false ∧
    s.ctl.st = .selftest ∧ s.ctl.selftest = true ∧ s.ctl.restarted = true ∧ 1 ≤ s.ctl.address ∧ s.ctl.address ≤ 62 ∧
    s.drive.hold = [] ∧ s.commitCheck = none :=
  ⟨0, 0, { selftest 1 1 true with cfg := (at_ 1 .ready).cfg }, by decide⟩

theorem meets_SelftestCompleteLeavesSelftest_4 : ∃ (stuck levels : BitVec 6) (i : Nat) (s : State), s.ctl.resetLow =
    false ∧ s.ctl.st = .selftest ∧ s.ctl.selftest = true ∧ s.ctl.restarted = true ∧ 1 ≤ s.ctl.address ∧
    s.ctl.address ≤ 62 ∧ s.commitCheck = some i :=
  ⟨0, 0, 30, selftest 62 1 true, by decide⟩

theorem meets_SelftestCompleteLeavesSelftest_5 : ∃ (stuck levels : BitVec 6) (s t : State), s.ctl.resetLow = false ∧
    s.ctl.st = .selftest ∧ s.ctl.selftest = true :=
  ⟨0, 1, selftest 62 1 false, after (.selftestComplete 0 1) (selftest 62 1 false), by decide⟩

theorem meets_RestartKeepsOnlyItsOwn_1 : ∃ (h : Header) (a : BitVec 6) (r : BitVec 3) (s : State), s.hearsEngine h
    :=
  ⟨eng, 10, 1, at_ 1 .lockdown, by decide⟩

theorem meets_StepMovesWhatItDrives_1 : ∃ (s : State) (ch : Channel), s.stepsOf ch [] :=
  ⟨moving 1 [], .a, by decide⟩

theorem meets_StepMovesWhatItDrives_2 : ∃ (s : State) (ch : Channel) (r : Record) (p : Nat), s.carriesFreely ch r p
    ∧ s.noThreshold r p :=
  ⟨moving 1 [inPath 1 1 2064], .a, inPath 1 1 2064, 2064, by decide⟩

theorem meets_StepMovesWhatItDrives_3 : ∃ (s : State) (ch : Channel) (r : Record) (p : Nat), s.carriesFreely ch r p
    ∧ r.reached.entry = false ∧ r.length ≤ p ∧ s.noThreshold { r with reached := { r.reached with entry := true } }
    p :=
  ⟨moving 1 [crossing], .a, crossing, 2100, by decide⟩

theorem meets_StepMovesWhatItDrives_4a : ∃ (s : State) (ch : Channel) (r : Record) (p : Nat), s.carriesFreely ch r p
    ∧ r.reached.offer = false ∧ s.exitX ≤ p + s.offerD ∧ s.noThreshold { r with reached := { r.reached with offer :=
    true } } p ∧ r.stage = .notOffered :=
  ⟨moving 1 [onPath 1 1 5700], .a, onPath 1 1 5700, 5700, by decide⟩

theorem meets_StepMovesWhatItDrives_4b : ∃ (s : State) (ch : Channel) (r : Record) (p : Nat), s.carriesFreely ch r p
    ∧ r.reached.offer = false ∧ s.exitX ≤ p + s.offerD ∧ s.noThreshold { r with reached := { r.reached with offer :=
    true } } p ∧ r.stage = .notOffered :=
  ⟨alone [onPath 1 1 5700], .a, onPath 1 1 5700, 5700, by decide⟩

theorem meets_StepMovesWhatItDrives_5a : ∃ (s : State) (ch : Channel) (r : Record) (p : Nat), s.carriesFreely ch r p
    ∧ r.reached.entry = true ∧ r.reached.offer = true ∧ r.reached.stop = true ∧ r.reached.exit = false ∧ s.exitX ≤ p
    ∧ p < s.exitX + r.length ∧ (r.reached.deadline = true ∨ p < s.exitX + s.arrD) ∧ (r.stage = .taken s.dn1 → s.drive.hold
    = []) :=
  ⟨moving 1 [atEnd (.taken 11) 6000], .a, atEnd (.taken 11) 6000, 6000, by decide⟩

theorem meets_StepMovesWhatItDrives_5b : ∃ (s : State) (ch : Channel) (r : Record) (p : Nat), s.carriesFreely ch r p
    ∧ r.reached.entry = true ∧ r.reached.offer = true ∧ r.reached.stop = true ∧ r.reached.exit = false ∧ s.exitX ≤ p
    ∧ p < s.exitX + r.length ∧ (r.reached.deadline = true ∨ p < s.exitX + s.arrD) ∧ (r.stage = .taken s.dn1 → s.drive.hold
    = []) :=
  ⟨moving 1 [atEnd .deferred 6599], .a, atEnd .deferred 6599, 6599, by decide⟩

theorem meets_StepMovesWhatItDrives_6a : ∃ (s : State) (ch : Channel) (r : Record) (p : Nat), s.carriesFreely ch r p
    ∧ r.reached.entry = true ∧ r.reached.offer = true ∧ r.reached.stop = true ∧ r.reached.exit = true ∧
    r.reached.deadline = false ∧ s.exitX + s.arrD ≤ p ∧ (r.arrival = true → p < s.exitX + r.length) :=
  ⟨moving 1 [exiting 1 1 6600], .a, exiting 1 1 6600, 6600, by decide⟩

theorem meets_StepMovesWhatItDrives_6b : ∃ (s : State) (ch : Channel) (r : Record) (p : Nat), s.carriesFreely ch r p
    ∧ r.reached.entry = true ∧ r.reached.offer = true ∧ r.reached.stop = true ∧ r.reached.exit = true ∧
    r.reached.deadline = false ∧ s.exitX + s.arrD ≤ p ∧ (r.arrival = true → p < s.exitX + r.length) :=
  ⟨moving 1 [arrived 8099], .a, arrived 8099, 8099, by decide⟩

theorem meets_StepMovesWhatItDrives_7 : ∃ (s : State) (ch : Channel) (r : Record) (p : Nat), s.carriesFreely ch r p
    ∧ r.reached.entry = true ∧ r.reached.offer = true ∧ r.reached.stop = true ∧ r.reached.exit = true ∧ r.place =
    .exiting ∧ r.arrival = true ∧ s.exitX + r.length ≤ p ∧ s.ownHolds .imageWait = false :=
  ⟨moving 1 [arrived 8100], .a, arrived 8100, 8100, by decide⟩

theorem meets_NothingMovesOutsideTheSteppingStates_1a : ∃ (s : State) (ch : Channel), (s.ctl.st.steps = false ∨
    (s.chan ch).run = .stopped) :=
  ⟨at_ 1 .paused, .a, by decide⟩

theorem meets_NothingMovesOutsideTheSteppingStates_1b : ∃ (s : State) (ch : Channel), (s.ctl.st.steps = false ∨
    (s.chan ch).run = .stopped) :=
  ⟨at_ 1 .running, .b, by decide⟩

theorem meets_NothingMovesOutsideTheSteppingStates_2 : ∃ (s : State) (k : Fin 6), s.ctl.resetLow = false ∧ s.ctl.st
    ≠ .selftest ∧ s.ctl.st.steps = false ∧ k.val < s.scount ∧ s.quiet ∧ (s.sensor k).covered = false :=
  ⟨at_ 1 .paused, 4, by decide⟩

theorem meets_NothingMovesOutsideTheSteppingStates_3 : ∃ (s : State) (k : Fin 6), s.ctl.resetLow = false ∧ s.ctl.st
    ≠ .selftest ∧ s.ctl.st.steps = false ∧ k.val < s.scount ∧ s.quiet ∧ (s.sensor k).covered = true :=
  ⟨covered 4 none false (at_ 1 .jammed), 4, by decide⟩

theorem meets_LeadEdgeWithoutOwnerRaisesEarly_1 : ∃ (s : State) (k : Fin 6), s.ctl.resetLow = false ∧
    s.ctl.st.checks = true ∧ k.val < s.scount ∧ s.quiet ∧ (s.sensor k).covered = false ∧ (∀ r ∈ s.track.queue,
    r.next = some k.val → r.place ≠ .entering ∧ r.place ≠ .inside ∧ (s.role ≠ .invert ∨ r.dir ≠ .reverse)) :=
  ⟨queue_ [{ expected 1 1 with next := some 4 }] (at_ 1 .running), 4, by decide⟩

theorem meets_LeadEdgeWithoutOwnerRaisesEarly_2 : ∃ (s : State) (k : Fin 6), s.ctl.resetLow = false ∧ s.ctl.st ≠
    .selftest ∧ k.val < s.scount ∧ s.quiet ∧ (s.sensor k).covered = false ∧ (∀ r ∈ s.track.queue, r.next = some
    k.val → r.place ≠ .entering ∧ r.place ≠ .inside ∧ (s.role ≠ .invert ∨ r.dir ≠ .reverse)) :=
  ⟨at_ 1 .sweeping, 4, by decide⟩

theorem meets_LeadEdgeWithoutOwnerRaisesEarly_3 : ∃ (s : State) (k : Fin 6), s.ctl.resetLow = false ∧ s.ctl.st ≠
    .selftest ∧ k.val < s.scount ∧ s.quiet ∧ (s.sensor k).covered = true ∧ (s.sensor k).owner = none :=
  ⟨covered 4 none false (at_ 1 .draining), 4, by decide⟩

theorem meets_LeadEdgeInTheWindowConfirms_1a : ∃ (s : State) (k : Fin 6) (r : Record) (w : Window), s.ctl.resetLow =
    false ∧ s.ctl.st.checks = true ∧ k.val < s.scount ∧ s.role = .transport ∧ s.quiet ∧ s.queueSound ∧ (s.sensor
    k).covered = false ∧ s.attributed k = some r ∧ r.marks.ghost = false ∧ r.dir = .forward ∧ r.window = some w ∧
    w.early ≤ r.lead / 256 ∧ r.lead / 256 ≤ w.late ∧ s.gapMin ≤ (s.sensor k).uncovered / 256 ∧ s.noThreshold r
    (s.spos k) :=
  ⟨queue_ [inPath 1 1 1980] (at_ 1 .running), 1, inPath 1 1 1980, ⟨1980, 2064⟩, by decide⟩

theorem meets_LeadEdgeInTheWindowConfirms_1b : ∃ (s : State) (k : Fin 6) (r : Record) (w : Window), s.ctl.resetLow =
    false ∧ s.ctl.st.checks = true ∧ k.val < s.scount ∧ s.role = .transport ∧ s.quiet ∧ s.queueSound ∧ (s.sensor
    k).covered = false ∧ s.attributed k = some r ∧ r.marks.ghost = false ∧ r.dir = .forward ∧ r.window = some w ∧
    w.early ≤ r.lead / 256 ∧ r.lead / 256 ≤ w.late ∧ s.gapMin ≤ (s.sensor k).uncovered / 256 ∧ s.noThreshold r
    (s.spos k) :=
  ⟨queue_ [inPath 1 1 2064] (at_ 1 .running), 1, inPath 1 1 2064, ⟨1980, 2064⟩, by decide⟩

theorem meets_LeadEdgeInTheWindowConfirms_2a : ∃ (s : State) (ch : Channel) (r : Record) (p k : Nat), s.carries ch r
    p ∧ r.marks.ghost = true ∧ s.ownsNone r ∧ r.window = none ∧ s.noThreshold r p ∧ r.next = some k ∧ s.spos k ≤ p ∧
    (∀ j ∈ s.nextAbove r.route k, p < s.spos j) :=
  ⟨moving 1 [ghostAt 2000], .a, ghostAt 2000, 2000, 1, by decide⟩

theorem meets_LeadEdgeInTheWindowConfirms_2b : ∃ (s : State) (ch : Channel) (r : Record) (p k : Nat), s.carries ch r
    p ∧ r.marks.ghost = true ∧ s.ownsNone r ∧ r.window = none ∧ s.noThreshold r p ∧ r.next = some k ∧ s.spos k ≤ p ∧
    (∀ j ∈ s.nextAbove r.route k, p < s.spos j) :=
  ⟨picking [ghostIn 500], .a, ghostIn 500, 500, 0, by decide⟩

theorem meets_LeadEdgeOutsideTheWindowIsEarly_1 : ∃ (s : State) (k : Fin 6) (r : Record), s.ctl.resetLow = false ∧
    s.ctl.st.checks = true ∧ k.val < s.scount ∧ s.quiet ∧ s.queueSound ∧ (s.sensor k).covered = false ∧ s.attributed
    k = some r ∧ r.marks.ghost = false ∧ r.dir = .forward ∧ (∀ w ∈ r.window, r.lead / 256 < w.early ∨ w.late <
    r.lead / 256) :=
  ⟨queue_ [inPath 1 1 1979] (at_ 1 .running), 1, inPath 1 1 1979, by decide⟩

theorem meets_LeadEdgeOutsideTheWindowIsEarly_2a : ∃ (s : State) (ch : Channel) (r : Record) (w : Window) (p k :
    Nat), s.carries ch r p ∧ r.marks.ghost = false ∧ s.ownsNone r ∧ r.window = some w ∧ r.next = some k ∧ w.late < p
    ∧ s.noThreshold r p ∧ ¬ (s.role = .feed ∧ r.source = .pick ∧ k = 0 ∧ 0 < r.retries) :=
  ⟨moving 1 [inPath 1 1 2065], .a, inPath 1 1 2065, ⟨1980, 2064⟩, 2065, 1, by decide⟩

theorem meets_LeadEdgeOutsideTheWindowIsEarly_2b : ∃ (s : State) (ch : Channel) (r : Record) (w : Window) (p k :
    Nat), s.carries ch r p ∧ r.marks.ghost = false ∧ s.ownsNone r ∧ r.window = some w ∧ r.next = some k ∧ w.late < p
    ∧ s.noThreshold r p ∧ ¬ (s.role = .feed ∧ r.source = .pick ∧ k = 0 ∧ 0 < r.retries) :=
  ⟨picking [pickedAt 0], .a, pickedAt 0, ⟨480, 540⟩, 541, 0, by decide⟩

theorem meets_LeadEdgeOutsideTheWindowIsEarly_3 : ∃ (s : State) (ch : Channel) (r : Record) (w : Window) (p : Nat),
    s.carries ch r p ∧ r.marks.ghost = false ∧ s.ownsNone r ∧ r.window = some w ∧ r.next = some 0 ∧ w.late < p ∧
    s.noThreshold r p ∧ s.role = .feed ∧ r.source = .pick ∧ 0 < r.retries :=
  ⟨picking [pickedAt 1], .a, pickedAt 1, ⟨480, 540⟩, 541, by decide⟩

theorem meets_LeadEdgeOutsideTheWindowIsEarly_4 : ∃ (s : State) (ch : Channel) (r : Record) (w : Window) (p : Nat),
    s.carries ch r p ∧ r.marks.ghost = false ∧ s.ownsNone r ∧ r.window = some w ∧ r.next = some 0 ∧ w.late < p ∧
    r.reached.offer = false ∧ s.exitX ≤ p + s.offerD ∧ s.noThreshold { r with reached := { r.reached with offer :=
    true } } p ∧ r.stage = .notOffered ∧ s.role = .feed ∧ r.source = .pick ∧ 0 < r.retries ∧ s.dn1 ≠ 0 :=
  ⟨rearmed, .a, pickedAt 1, ⟨480, 540⟩, 541, by decide⟩

theorem meets_TrailEdgeJudgesTheLength_1 : ∃ (s : State) (k : Fin 6) (r : Record), s.ctl.resetLow = false ∧
    s.ctl.st.checks = true ∧ k.val < s.scount ∧ s.role ≠ .invert ∧ s.role ≠ .exit ∧ s.quiet ∧ s.queueSound ∧
    (s.sensor k).covered = true ∧ r ∈ s.track.queue ∧ (s.sensor k).owner = some r.tag ∧ (s.sensor k).confirmed =
    true ∧ r.marks.ghost = false :=
  ⟨covered 0 (some ⟨1, 1⟩) true (queue_ [inPath 1 1 1900] (at_ 1 .running)), 0, inPath 1 1 1900, by decide⟩

theorem meets_TrailEdgeJudgesTheLength_2 : ∃ (s : State) (k : Fin 6), s.ctl.resetLow = false ∧ s.ctl.st.checks =
    true ∧ k.val < s.scount ∧ s.role ≠ .invert ∧ s.role ≠ .exit ∧ s.quiet ∧ (s.sensor k).covered = true ∧ (s.sensor
    k).owner = none :=
  ⟨covered 0 none false (at_ 1 .draining), 0, by decide⟩

theorem meets_TrailEdgeJudgesTheLength_3 : ∃ (s : State) (ch : Channel) (r : Record) (p k : Nat), s.carries ch r p ∧
    r.marks.ghost = false ∧ r.onTime p ∧ s.noThreshold r p ∧ k < s.scount ∧ (s.sensor k).owner = some r.tag ∧
    (s.sensor k).confirmed = true ∧ (s.sensor k).stalled = false ∧ (∀ j < s.scount, j ≠ k → (s.sensor j).owner ≠
    some r.tag) ∧ r.length + s.tLen + (s.slip * r.length + 1023) / 1024 < ((s.moved ch r).odo - (s.sensor k).latch)
    / 256 :=
  ⟨covered 0 (some ⟨1, 1⟩) true (moving 1 [onPath 1 1 2174]), .a, onPath 1 1 2174, 2174, 0, by decide⟩

theorem meets_TrailEdgeJudgesTheLength_4 : ∃ (s : State) (ch : Channel) (r : Record) (p : Nat), s.carries ch r p ∧
    r.marks.ghost = false ∧ r.onTime p ∧ s.noThreshold r p ∧ (∀ k < s.scount, (s.sensor k).owner = some r.tag →
    (s.sensor k).confirmed = false ∨ (s.sensor k).stalled = true ∨ ((s.moved ch r).odo - (s.sensor k).latch) / 256 ≤
    r.length + s.tLen + (s.slip * r.length + 1023) / 1024) :=
  ⟨covered 0 (some ⟨1, 1⟩) true (moving 1 [onPath 1 1 2173]), .a, onPath 1 1 2173, 2173, by decide⟩

theorem meets_ChannelsSettleByDemand_1 : ∃ s : State, s.inv.seq ≠ .stopping :=
  ⟨moving 1 [inPath 1 1 1900], by decide⟩

theorem meets_LinesActBecomingActive_1 : ∃ (s : State) (n : Fin 4), s.ctl.resetLow = false ∧ s.lineFunction n =
    .interlock ∧ s.functionActive .interlock = false ∧ s.ctl.st.interlocks = true ∧ s.quiet :=
  ⟨at_ 1 .paused, 0, by decide⟩

theorem meets_LinesActBecomingActive_2 : ∃ (s : State) (n : Fin 4), s.ctl.resetLow = false ∧ s.lineFunction n =
    .pause ∧ s.functionActive .pause = false ∧ s.ctl.st = .running ∧ s.quiet ∧ s.nothingWaits :=
  ⟨deferring (at_ 1 .running), 1, by decide⟩

theorem meets_LinesActBecomingActive_3 : ∃ (s : State) (n : Fin 4), s.ctl.resetLow = false ∧ s.lineFunction n =
    .pause ∧ s.functionActive .pause = false ∧ s.ctl.st = .sweeping ∧ s.quiet ∧ ¬ (s.sweep.active = true ∧
    s.track.queue = [] ∧ s.feed.pick = none ∧ s.drive.chA.run = .stopped ∧ s.drive.chB.run = .stopped) :=
  ⟨queue_ [ghostIn 300] launching, 1, by decide⟩

theorem meets_LinesActBecomingActive_4 : ∃ (s : State) (n : Fin 4), s.ctl.resetLow = false ∧ s.lineFunction n =
    .pause ∧ s.functionActive .pause = false ∧ s.ctl.st = .sweeping ∧ s.quiet ∧ s.sweep.active = true ∧
    s.track.queue = [] ∧ s.feed.pick = none ∧ s.drive.chA.run = .stopped ∧ s.drive.chB.run = .stopped :=
  ⟨offering { at_ 1 .sweeping with sweep := { Sweep.reset with active := true } }, 1, by decide⟩

theorem meets_BinFreedBeginsTheOperation_1 : ∃ (s : State) (n : Fin 4), s.ctl.resetLow = false ∧ s.lineFunction n =
    .binFull ∧ s.lineReads .binFull n = true ∧ (∀ m < 4, m ≠ n.val → s.lineReads .binFull m = false) ∧ s.ctl.st ≠
    .lockdown ∧ s.quiet ∧ s.comp.op = .ejecting .binWait :=
  ⟨binWaits (.ejecting .binWait), 2, by decide⟩

theorem meets_BinFreedBeginsTheOperation_2 : ∃ (s : State) (n : Fin 4) (why : DumpReason), s.ctl.resetLow = false ∧
    s.lineFunction n = .binFull ∧ s.lineReads .binFull n = true ∧ (∀ m < 4, m ≠ n.val → s.lineReads .binFull m =
    false) ∧ s.ctl.st ≠ .lockdown ∧ s.quiet ∧ s.comp.op = .dumping .binWait ∧ s.comp.dumpReason = some why :=
  ⟨binWaits (.dumping .binWait), 2, .broken, by decide⟩

theorem meets_PickStartMakesARecord_1 : ∃ (s : State) (o : FeedOrder) (rest : List FeedOrder), s.ctl.resetLow =
    false ∧ s.role = .feed ∧ s.ctl.st = .running ∧ s.feed.orders = o :: rest ∧ s.feed.pick = none ∧ s.drive.hold =
    [] ∧ s.track.queue.length < 8 ∧ (∀ r ∈ s.track.queue, r.tag ≠ o.tag) ∧ (s.sensor 0).covered = false ∧ s.gapMin -
    s.pickD ≤ (s.sensor 0).uncovered / 256 ∧ s.functionActive .supplyEmpty = false ∧ o.tag.set ∉ s.track.broken ∧
    (s.track.queue = [] ∨ o.speed = s.drive.speed) ∧ s.quiet :=
  ⟨withOrders, order 2 3, [], by decide⟩

theorem meets_GhostLaunchMakesAGhost_1 : ∃ s : State, s.ctl.resetLow = false ∧ s.role = .feed ∧ s.ctl.st = .sweeping
    ∧ s.sweep.active = true ∧ s.sweep.launching = true ∧ s.sweep.drainAsked = false ∧ s.drive.hold = [] ∧
    s.feed.pick = none ∧ s.track.queue.length < 8 ∧ (∀ r ∈ s.track.queue, r.tag ≠ ⟨s.sweep.nextNumber, 1⟩) ∧ (∀ t ∈
    s.sweep.spacing, ∀ r ∈ s.track.queue, r.tag = t → (2000 + s.gapMin) * 256 ≤ r.odo) ∧ s.quiet :=
  ⟨launching, by decide⟩

theorem meets_SlotExaminationTakesTheOnlyOffer_1 : ∃ (s : State) (o : Offer), s.ctl.resetLow = false ∧ s.ctl.st =
    .running ∧ s.role ≠ .invert ∧ s.hand.slot1 = some o ∧ s.hand.slot2 = none ∧ s.drive.hold = [] ∧
    s.track.queue.length < 8 ∧ (∀ r ∈ s.track.queue, r.tag ≠ o.tag ∧ r.occupiesEntry = false) ∧ o.marks.ghost =
    false ∧ o.marks.broken = false ∧ o.tag.set ∉ s.track.broken ∧ (s.track.queue = [] ∨ o.speed = s.drive.speed) ∧
    s.quiet :=
  ⟨{ at_ 1 .running with hand := { Handoff.reset with slot1 := some (offer 4 2) } }, offer 4 2, by decide⟩

theorem meets_ContestedExaminationFollowsTheStreak_1a : ∃ (s : State) (o1 o2 : Offer) (w : UpSide), s.ctl.resetLow =
    false ∧ s.ctl.st ≠ .selftest ∧ s.hand.slot1 = some o1 ∧ s.hand.slot2 = some o2 ∧ s.judge .up1 o1 = .free ∧
    s.judge .up2 o2 = .free ∧ ((s.hand.streak < s.streakLimit ∧ w = if s.mergeSecondary then .up2 else .up1) ∨
    (s.streakLimit ≤ s.hand.streak ∧ s.hand.lastSide = some w.other)) :=
  ⟨twoOffers 3, offer 4 2, offer 5 1, .up2, by decide⟩

theorem meets_ContestedExaminationFollowsTheStreak_1b : ∃ (s : State) (o1 o2 : Offer) (w : UpSide), s.ctl.resetLow =
    false ∧ s.ctl.st ≠ .selftest ∧ s.hand.slot1 = some o1 ∧ s.hand.slot2 = some o2 ∧ s.judge .up1 o1 = .free ∧
    s.judge .up2 o2 = .free ∧ ((s.hand.streak < s.streakLimit ∧ w = if s.mergeSecondary then .up2 else .up1) ∨
    (s.streakLimit ≤ s.hand.streak ∧ s.hand.lastSide = some w.other)) :=
  ⟨twoOffers 4, offer 4 2, offer 5 1, .up1, by decide⟩

theorem meets_DrainPauseAndSweepEnd_1a : ∃ s : State, s.ctl.resetLow = false ∧ s.ctl.st = .draining ∧ s.track.queue
    = [] ∧ s.drive.chA.run = .stopped ∧ s.drive.chB.run = .stopped ∧ s.feed.pick = none ∧ s.quiet :=
  ⟨at_ 1 .draining, by decide⟩

theorem meets_DrainPauseAndSweepEnd_1b : ∃ s : State, s.ctl.resetLow = false ∧ s.ctl.st = .draining ∧ s.track.queue
    = [] ∧ s.drive.chA.run = .stopped ∧ s.drive.chB.run = .stopped ∧ s.feed.pick = none ∧ s.quiet :=
  ⟨offering (at_ 1 .draining), by decide⟩

theorem meets_DrainPauseAndSweepEnd_2a : ∃ s : State, s.ctl.resetLow = false ∧ s.ctl.st = .pausing ∧ s.track.queue =
    [] ∧ s.drive.chA.run = .stopped ∧ s.drive.chB.run = .stopped ∧ s.quiet :=
  ⟨at_ 1 .pausing, by decide⟩

theorem meets_DrainPauseAndSweepEnd_2b : ∃ s : State, s.ctl.resetLow = false ∧ s.ctl.st = .pausing ∧ s.track.queue =
    [] ∧ s.drive.chA.run = .stopped ∧ s.drive.chB.run = .stopped ∧ s.quiet :=
  ⟨offering (holds [30] (at_ 1 .pausing)), by decide⟩

theorem meets_DrainPauseAndSweepEnd_3 : ∃ s : State, s.ctl.resetLow = false ∧ s.ctl.st = .sweeping ∧ s.sweep.active
    = true ∧ (s.sweep.lastSeen = true ∨ s.sweep.drainAsked = true) ∧ s.track.queue = [] ∧ s.feed.pick = none ∧
    s.drive.chA.run = .stopped ∧ s.drive.chB.run = .stopped ∧ s.quiet :=
  ⟨{ at_ 1 .sweeping with sweep := { Sweep.reset with active := true, drainAsked := true } }, by decide⟩

theorem meets_HandoffWaitsExpire_1 : ∃ (s : State) (r : Record), s.ctl.resetLow = false ∧ s.ctl.st.faultsPend = true
    ∧ s.hand.holdTimer = .running ∧ s.hand.waiting = some r.tag ∧ s.rec? r.tag = some r :=
  ⟨waits, inPath 1 1 5918, by decide⟩

theorem meets_HandoffWaitsExpire_2 : ∃ (s : State) (r : Record), s.ctl.resetLow = false ∧ s.ctl.st.faultsPend = true
    ∧ s.inv.timer = .running ∧ s.inv.loop = some r.tag ∧ s.rec? r.tag = some r :=
  ⟨returns .returnWait, turned, by decide⟩

theorem meets_HandoffWaitsExpire_3 : ∃ (s : State) (ch : Channel) (r : Record) (p : Nat), s.carriesFreely ch r p ∧
    r.reached.stop = false ∧ s.cfg.stopPoint ≤ p ∧ s.noThreshold { r with reached := { r.reached with stop := true }
    } p ∧ r.place ≠ .exiting ∧ r.stage ≠ .taken s.dn1 ∧ (∀ e ∈ s.drive.hold, e.origin ≠ s.ctl.address) :=
  ⟨moving 1 [toStop], .a, toStop, 5918, by decide⟩

theorem meets_ImageWaitExpires_1 : ∃ s : State, s.ctl.resetLow = false ∧ s.reg.timer = .running ∧ s.quiet ∧
    s.queueSound ∧ 8 < s.flt.counters.length :=
  ⟨imageWaits, by decide⟩

theorem meets_TrayOperationsComplete_1 : ∃ (s : State) (d : Nat), s.ctl.resetLow = false ∧ s.comp.timer = .running ∧
    s.comp.op = .ejecting .active ∧ s.comp.late = [] ∧ s.trayDue = false ∧ s.quiet ∧ s.comp.keepOpen = true ∧
    s.comp.traySet = some d ∧ d ∉ s.track.broken :=
  ⟨tray (.ejecting .active) true, 7, by decide⟩

theorem meets_TrayOperationsComplete_2a : ∃ (c : Instr) (s : State), s.ctl.resetLow = false ∧ s.comp.timer =
    .running ∧ s.comp.late = [] ∧ s.trayDue = false ∧ s.quiet ∧ ((c = .ejectComplete ∧ s.comp.op = .ejecting .active
    ∧ (s.comp.keepOpen = false ∨ ∃ d ∈ s.track.broken, s.comp.traySet = some d)) ∨ (c = .dumpComplete ∧ s.comp.op =
    .dumping .active)) :=
  ⟨.ejectComplete, tray (.ejecting .active) false, by decide⟩

theorem meets_TrayOperationsComplete_2b : ∃ (c : Instr) (s : State), s.ctl.resetLow = false ∧ s.comp.timer =
    .running ∧ s.comp.late = [] ∧ s.trayDue = false ∧ s.quiet ∧ ((c = .ejectComplete ∧ s.comp.op = .ejecting .active
    ∧ (s.comp.keepOpen = false ∨ ∃ d ∈ s.track.broken, s.comp.traySet = some d)) ∨ (c = .dumpComplete ∧ s.comp.op =
    .dumping .active)) :=
  ⟨.dumpComplete, tray (.dumping .active) false, by decide⟩

theorem meets_TrayOperationsComplete_3a : ∃ (s : State) (e : TrayEntry), s.comp.op = .none :=
  ⟨tray .none false, ⟨⟨7, 6⟩, false, Marks.none, false⟩, by decide⟩

theorem meets_TrayOperationsComplete_3b : ∃ (s : State) (e : TrayEntry), s.comp.op = .none :=
  ⟨pins_ 4#4 (tray .none false), ⟨⟨7, 6⟩, true, Marks.none, false⟩, by decide⟩

theorem meets_TrayOperationsComplete_4 : ∃ (s : State) (set : Nat) (why : DumpReason), s.role ≠ .exit :=
  ⟨at_ 1 .running, 7, .broken, by decide⟩

theorem meets_TrayOperationsComplete_5a : ∃ (s : State) (set : Nat) (why : DumpReason), s.role = .exit :=
  ⟨tray .none true, 7, .broken, by decide⟩

theorem meets_TrayOperationsComplete_5b : ∃ (s : State) (set : Nat) (why : DumpReason), s.role = .exit :=
  ⟨tray (.ejecting .binWait) true, 7, .broken, by decide⟩

theorem meets_TrayOperationsComplete_5c : ∃ (s : State) (set : Nat) (why : DumpReason), s.role = .exit :=
  ⟨tray (.ejecting .active) true, 7, .broken, by decide⟩

theorem meets_TrayOperationsComplete_5d : ∃ (s : State) (set : Nat) (why : DumpReason), s.role = .exit :=
  ⟨tray (.dumping .binWait) true, 7, .broken, by decide⟩

theorem meets_TrayOperationsComplete_5e : ∃ (s : State) (set : Nat) (why : DumpReason), s.role = .exit :=
  ⟨pins_ 4#4 (tray .none false), 7, .broken, by decide⟩

theorem meets_TrayOperationsComplete_5f : ∃ (s : State) (set : Nat) (why : DumpReason), s.role = .exit :=
  ⟨pins_ 4#4 (tray (.ejecting .binWait) true), 7, .broken, by decide⟩

theorem meets_TrayOperationsComplete_6a : ∃ (s : State) (k : Fin 6) (r : Record), s.ctl.resetLow = false ∧
    s.ctl.st.checks = true ∧ s.role = .exit ∧ s.quiet ∧ s.compileSensor = some k.val ∧ (s.sensor k).covered = true ∧
    s.track.queue = [r] ∧ (s.sensor k).owner = some r.tag ∧ (s.sensor k).confirmed = true ∧ r.route = some .main ∧
    r.length - s.tLen ≤ (r.odo - (s.sensor k).latch) / 256 ∧ r.marks.ghost = false ∧ s.gate.move = .none ∧
    s.gate.list = [] ∧ s.gate.occupant = none ∧ s.inv.loop = none ∧ s.ownHolds .imageWait = false ∧ (s.comp.op =
    .none ∨ r.reached.compileStop = false) :=
  ⟨atTray (tray .none false), 4, trayBound, by decide⟩

theorem meets_TrayOperationsComplete_6b : ∃ (s : State) (k : Fin 6) (r : Record), s.ctl.resetLow = false ∧
    s.ctl.st.checks = true ∧ s.role = .exit ∧ s.quiet ∧ s.compileSensor = some k.val ∧ (s.sensor k).covered = true ∧
    s.track.queue = [r] ∧ (s.sensor k).owner = some r.tag ∧ (s.sensor k).confirmed = true ∧ r.route = some .main ∧
    r.length - s.tLen ≤ (r.odo - (s.sensor k).latch) / 256 ∧ r.marks.ghost = false ∧ s.gate.move = .none ∧
    s.gate.list = [] ∧ s.gate.occupant = none ∧ s.inv.loop = none ∧ s.ownHolds .imageWait = false ∧ (s.comp.op =
    .none ∨ r.reached.compileStop = false) :=
  ⟨atTray (tray (.dumping .active) false), 4, trayBound, by decide⟩

theorem meets_SendingSide_1 : ∃ (s : State) (e : TxEntry) (rest : List TxEntry), s.ctl.resetLow = false ∧ s.port.tx
    = e :: rest ∧ (∀ x ∈ s.port.tx, x.sending = false) :=
  ⟨queued, ⟨⟨1, .ready⟩, false⟩, [], by decide⟩

theorem meets_SendingSide_2 : ∃ s : State, s.ctl.resetLow = false :=
  ⟨queued, by decide⟩

theorem meets_SendingSide_3 : ∃ (s : State) (e : TxEntry) (before after : List TxEntry), s.ctl.resetLow = false ∧
    s.port.tx = before ++ e :: after ∧ e.sending = true ∧ (∀ x ∈ before ++ after, x.sending = false) :=
  ⟨sendingOne, ⟨⟨1, .ready⟩, true⟩, [], [], by decide⟩

theorem meets_SendingSide_4 : ∃ s : State, s.ctl.resetLow = false ∧ s.port.tx ≠ [] ∧ s.port.linkReported = false ∧
    s.ctl.st.faultsPend = false :=
  ⟨{ queued with ctl := Control.reset 10 1 }, by decide⟩

theorem meets_SendingSide_5 : ∃ s : State, s.ctl.resetLow = false ∧ s.port.tx ≠ [] ∧ s.port.linkReported = false ∧
    s.ctl.st.faultsPend = true :=
  ⟨queued, by decide⟩

theorem meets_SendingSide_6 : ∃ s : State, s.ctl.resetLow = false :=
  ⟨queued, by decide⟩

theorem meets_StopActionJamsTheStation_1a : ∃ (s : State) (q found : Request), s.ctl.resetLow = false ∧
    s.ctl.st.faultsPend = true ∧ s.ctl.st ≠ .jammed ∧ s.chooses q ∧ s.flt.stack.length < 3 ∧ ((q.code.code =
    s.promoted ∧ found = q) ∨ (s.looksUp q found ∧ s.dispAction found.code.code = .stop)) ∧ s.quiet :=
  ⟨faults [.miss, .gap, .interlock], bareOf .interlock, bareOf .interlock, by decide⟩

theorem meets_StopActionJamsTheStation_1b : ∃ (s : State) (q found : Request), s.ctl.resetLow = false ∧
    s.ctl.st.faultsPend = true ∧ s.ctl.st ≠ .jammed ∧ s.chooses q ∧ s.flt.stack.length < 3 ∧ ((q.code.code =
    s.promoted ∧ found = q) ∨ (s.looksUp q found ∧ s.dispAction found.code.code = .stop)) ∧ s.quiet :=
  ⟨faults [.gap, .stall, .miss], bareOf .miss, bareOf .miss, by decide⟩

theorem meets_StopActionJamsTheStation_1c : ∃ (s : State) (q found : Request), s.ctl.resetLow = false ∧
    s.ctl.st.faultsPend = true ∧ s.ctl.st ≠ .jammed ∧ s.chooses q ∧ s.flt.stack.length < 3 ∧ ((q.code.code =
    s.promoted ∧ found = q) ∨ (s.looksUp q found ∧ s.dispAction found.code.code = .stop)) ∧ s.quiet :=
  ⟨unlisted 33536 (faults [.link, .gap]), bareOf .gap, asTable_ .gap, by decide⟩

theorem meets_StopActionJamsTheStation_1d : ∃ (s : State) (q found : Request), s.ctl.resetLow = false ∧
    s.ctl.st.faultsPend = true ∧ s.ctl.st ≠ .jammed ∧ s.chooses q ∧ s.flt.stack.length < 3 ∧ ((q.code.code =
    s.promoted ∧ found = q) ∨ (s.looksUp q found ∧ s.dispAction found.code.code = .stop)) ∧ s.quiet :=
  ⟨offering (faulty .halted), bareOf .halted, bareOf .halted, by decide⟩

theorem meets_StopActionJamsTheStation_2 : ∃ (s : State) (q found : Request), s.ctl.resetLow = false ∧ s.ctl.st =
    .jammed ∧ s.chooses q ∧ s.flt.stack.length < 3 ∧ ((q.code.code = s.promoted ∧ found = q) ∨ (s.looksUp q found ∧
    s.dispAction found.code.code = .stop)) ∧ s.quiet :=
  ⟨pending_ .halted (at_ 1 .jammed), bareOf .halted, bareOf .halted, by decide⟩

theorem meets_CountSpoilAndHoldActions_1a : ∃ (s : State) (q found : Request), s.ctl.resetLow = false ∧
    s.ctl.st.faultsPend = true ∧ s.chooses q ∧ s.looksUp q found ∧ s.dispAction found.code.code = .count ∧ s.quiet
    :=
  ⟨faults [.link, .gap], bareOf .gap, bareOf .gap, by decide⟩

theorem meets_CountSpoilAndHoldActions_1b : ∃ (s : State) (q found : Request), s.ctl.resetLow = false ∧
    s.ctl.st.faultsPend = true ∧ s.chooses q ∧ s.looksUp q found ∧ s.dispAction found.code.code = .count ∧ s.quiet
    :=
  ⟨unlisted 32768 (faults [.link, .gap]), bareOf .gap, asTable_ .gap, by decide⟩

theorem meets_CountSpoilAndHoldActions_2 : ∃ (s : State) (q found : Request) (r : Record), s.ctl.resetLow = false ∧
    s.ctl.st.faultsPend = true ∧ s.chooses q ∧ s.looksUp q found ∧ s.dispAction found.code.code = .spoil ∧ s.role =
    .transport ∧ q.involved = some r.tag ∧ q.gone = false ∧ q.ghost = false ∧ r ∈ s.track.queue ∧ r.marks.ghost =
    false ∧ r.tag.set ∉ s.track.broken ∧ (∀ x ∈ s.track.queue, x.image ≠ some .waiting) ∧ s.ownHolds .imageWait =
    false ∧ s.queueSound ∧ s.quiet :=
  ⟨queue_ [inPath 1 1 1900] (spoiling 1 1), { bareOf .short with involved := some ⟨1, 1⟩ }, { bareOf .short with involved := some ⟨1, 1⟩ }, inPath 1 1 1900, by decide⟩

theorem meets_CountSpoilAndHoldActions_3 : ∃ (s : State) (q found : Request) (g : Tag), s.ctl.resetLow = false ∧
    s.ctl.st.faultsPend = true ∧ s.chooses q ∧ s.looksUp q found ∧ s.dispAction found.code.code = .spoil ∧ s.role =
    .transport ∧ q.involved = some g ∧ q.gone = true ∧ q.ghost = false ∧ g.set ∉ s.track.broken ∧ (∀ x ∈
    s.track.queue, x.image ≠ some .waiting) ∧ s.ownHolds .imageWait = false ∧ s.quiet :=
  ⟨queue_ [inPath 1 1 1900] (asking ({ bareOf .short with involved := some ⟨1, 1⟩, gone := true })), { bareOf .short with involved := some ⟨1, 1⟩, gone := true }, { bareOf .short with involved := some ⟨1, 1⟩, gone := true }, ⟨1, 1⟩, by decide⟩

theorem meets_CountSpoilAndHoldActions_4a : ∃ (s : State) (q found : Request) (g : Tag), s.ctl.resetLow = false ∧
    s.ctl.st.faultsPend = true ∧ s.chooses q ∧ s.looksUp q found ∧ s.dispAction found.code.code = .spoil ∧
    q.involved = some g ∧ q.ghost = true ∧ (∀ x ∈ s.track.queue, x.tag = g → x.marks.ghost = true) ∧ s.quiet :=
  ⟨queue_ [ghostAt 1900] (asking ({ bareOf .short with involved := some ⟨1, 1⟩, ghost := true })), { bareOf .short with involved := some ⟨1, 1⟩, ghost := true }, { bareOf .short with involved := some ⟨1, 1⟩, ghost := true }, ⟨1, 1⟩, by decide⟩

theorem meets_CountSpoilAndHoldActions_4b : ∃ (s : State) (q found : Request) (g : Tag), s.ctl.resetLow = false ∧
    s.ctl.st.faultsPend = true ∧ s.chooses q ∧ s.looksUp q found ∧ s.dispAction found.code.code = .spoil ∧
    q.involved = some g ∧ q.ghost = true ∧ (∀ x ∈ s.track.queue, x.tag = g → x.marks.ghost = true) ∧ s.quiet :=
  ⟨queue_ [ghostAt 1900] (asking ({ bareOf .short with involved := some ⟨1, 1⟩, ghost := true, gone := true })), { bareOf .short with involved := some ⟨1, 1⟩, ghost := true, gone := true }, { bareOf .short with involved := some ⟨1, 1⟩, ghost := true, gone := true }, ⟨1, 1⟩, by decide⟩

theorem meets_CountSpoilAndHoldActions_5a : ∃ (s : State) (q found : Request), s.ctl.resetLow = false ∧ s.ctl.st =
    .running ∧ s.chooses q ∧ s.looksUp q found ∧ s.dispAction found.code.code = .hold ∧ s.flt.stack.length < 3 ∧
    s.track.queue ≠ [] ∧ s.quiet :=
  ⟨queue_ [inPath 1 1 1900] (unlisted 33280 (faulty .gap)), bareOf .gap, asTable_ .gap, by decide⟩

theorem meets_CountSpoilAndHoldActions_5b : ∃ (s : State) (q found : Request), s.ctl.resetLow = false ∧ s.ctl.st =
    .running ∧ s.chooses q ∧ s.looksUp q found ∧ s.dispAction found.code.code = .hold ∧ s.flt.stack.length < 3 ∧
    s.track.queue ≠ [] ∧ s.quiet :=
  ⟨offering (holds [30] (queue_ [inPath 1 1 1900] (faulty .bin))), bareOf .bin, bareOf .bin, by decide⟩

theorem meets_LockdownIsEntered_1a : ∃ (s : State) (q found : Request), s.ctl.resetLow = false ∧ s.ctl.st.faultsPend
    = true ∧ s.chooses q ∧ 3 ≤ s.flt.stack.length ∧ ((q.code.code = s.promoted ∧ found = q) ∨ (s.looksUp q found ∧
    (s.dispAction found.code.code = .hold ∨ s.dispAction found.code.code = .stop))) ∧ s.quiet :=
  ⟨fullStack .miss, bareOf .miss, bareOf .miss, by decide⟩

theorem meets_LockdownIsEntered_1b : ∃ (s : State) (q found : Request), s.ctl.resetLow = false ∧ s.ctl.st.faultsPend
    = true ∧ s.chooses q ∧ 3 ≤ s.flt.stack.length ∧ ((q.code.code = s.promoted ∧ found = q) ∨ (s.looksUp q found ∧
    (s.dispAction found.code.code = .hold ∨ s.dispAction found.code.code = .stop))) ∧ s.quiet :=
  ⟨unlisted 33280 (fullStack .gap), bareOf .gap, asTable_ .gap, by decide⟩

theorem meets_LockdownIsEntered_2 : ∃ (s : State) (q : Request), s.ctl.resetLow = false ∧ s.ctl.st.faultsPend = true
    ∧ s.chooses q ∧ q.code.code ≠ s.promoted ∧ ¬ s.listed q.code.code ∧ ¬ s.listed 15 ∧ s.quiet :=
  ⟨noTable, bareOf .gap, by decide⟩

theorem meets_LockdownIsEntered_3 : ∃ s : State, s.ctl.st = .lockdown :=
  ⟨at_ 1 .lockdown, by decide⟩

theorem meets_FrameErrorsAreCounted_1a : ∃ (pre post : List Bool) (b : Bool) (s : State), s.ctl.resetLow = false ∧
    s.ctl.st ≠ .selftest ∧ pre.length ≤ 36 :=
  ⟨[], [], false, at_ 1 .running, by decide +kernel⟩

theorem meets_FrameErrorsAreCounted_1b : ∃ (pre post : List Bool) (b : Bool) (s : State), s.ctl.resetLow = false ∧
    s.ctl.st ≠ .selftest ∧ pre.length ≤ 36 :=
  ⟨(List.replicate 18 [false, true]).flatten, [], false, at_ 1 .running, by decide +kernel⟩

theorem meets_FrameErrorsAreCounted_2 : ∃ (levels : List Bool) (s : State), s.ctl.resetLow = false ∧ s.ctl.st ≠
    .selftest ∧ RxFrame.ofLevels levels = none :=
  ⟨[false], at_ 1 .running, by decide +kernel⟩

theorem meets_FrameErrorsAreCounted_3 : ∃ (levels : List Bool) (f : RxFrame) (s : State), s.ctl.resetLow = false ∧
    s.ctl.st ≠ .selftest ∧ RxFrame.ofLevels levels = some f ∧ f.check ≠ checkOf (fieldBits f.cls f.kind f.hdr
    f.payload) :=
  ⟨onLine (raw 1 0 9 10 [0, 1, 1] 0), raw 1 0 9 10 [0, 1, 1] 0, at_ 1 .running, by decide +kernel⟩

theorem meets_FrameErrorsAreCounted_4a : ∃ (levels : List Bool) (f : RxFrame) (s : State), s.ctl.resetLow = false ∧
    s.ctl.st ≠ .selftest ∧ RxFrame.ofLevels levels = some f ∧ f.check = checkOf (fieldBits f.cls f.kind f.hdr
    f.payload) ∧ (f.hdr.src.toNat = s.ctl.address ∨ (f.hdr.dst.toNat ≠ s.ctl.address ∧ f.hdr.dst.toNat ≠ 63)) :=
  ⟨onLine (good 1 0 10 10 [0, 1, 1]), good 1 0 10 10 [0, 1, 1], at_ 1 .running, by decide +kernel⟩

theorem meets_FrameErrorsAreCounted_4b : ∃ (levels : List Bool) (f : RxFrame) (s : State), s.ctl.resetLow = false ∧
    s.ctl.st ≠ .selftest ∧ RxFrame.ofLevels levels = some f ∧ f.check = checkOf (fieldBits f.cls f.kind f.hdr
    f.payload) ∧ (f.hdr.src.toNat = s.ctl.address ∨ (f.hdr.dst.toNat ≠ s.ctl.address ∧ f.hdr.dst.toNat ≠ 63)) :=
  ⟨onLine (good 1 0 9 11 [0, 1, 1]), good 1 0 9 11 [0, 1, 1], at_ 1 .running, by decide +kernel⟩

theorem meets_FrameErrorsAreCounted_5 : ∃ (levels : List Bool) (f : RxFrame) (s : State), s.ctl.resetLow = false ∧
    s.ctl.st ≠ .selftest ∧ RxFrame.ofLevels levels = some f ∧ f.check = checkOf (fieldBits f.cls f.kind f.hdr
    f.payload) ∧ f.hdr.src.toNat ≠ s.ctl.address ∧ (f.hdr.dst.toNat = s.ctl.address ∨ f.hdr.dst.toNat = 63) ∧ 2 ≤
    s.port.rx.length :=
  ⟨onLine (good 0 0 9 63 [3]), good 0 0 9 63 [3], buffered [.start eng, .start eng] (at_ 1 .running), by decide +kernel⟩

theorem meets_FrameErrorsAreCounted_6a : ∃ (levels : List Bool) (f : RxFrame) (s : State), s.ctl.resetLow = false ∧
    s.ctl.st ≠ .selftest ∧ RxFrame.ofLevels levels = some f ∧ f.check = checkOf (fieldBits f.cls f.kind f.hdr
    f.payload) ∧ f.hdr.src.toNat ≠ s.ctl.address ∧ (f.hdr.dst.toNat = s.ctl.address ∨ f.hdr.dst.toNat = 63) ∧
    s.port.rx.length < 2 ∧ (f.cls.toNat, f.kind.toNat, f.payload.length) ∉ [(0, 0, 1), (1, 0, 3), (1, 1, 3), (1, 2,
    1), (1, 3, 1), (1, 4, 2), (2, 0, 7), (2, 1, 3), (2, 2, 4), (2, 3, 0), (3, 0, 1), (3, 0, 3), (3, 0, 5), (3, 0,
    7), (3, 1, 0), (3, 2, 0), (3, 3, 0), (3, 4, 0), (3, 5, 0), (3, 6, 7), (3, 7, 4), (3, 8, 3), (3, 9, 1), (4, 0,
    4), (5, 0, 7), (5, 1, 8), (5, 2, 8), (5, 3, 6), (5, 4, 6), (5, 5, 8), (5, 6, 4), (5, 7, 4), (5, 8, 3), (5, 9,
    6)] :=
  ⟨onLine (good 1 5 9 10 [3]), good 1 5 9 10 [3], at_ 1 .running, by decide +kernel⟩

theorem meets_FrameErrorsAreCounted_6b : ∃ (levels : List Bool) (f : RxFrame) (s : State), s.ctl.resetLow = false ∧
    s.ctl.st ≠ .selftest ∧ RxFrame.ofLevels levels = some f ∧ f.check = checkOf (fieldBits f.cls f.kind f.hdr
    f.payload) ∧ f.hdr.src.toNat ≠ s.ctl.address ∧ (f.hdr.dst.toNat = s.ctl.address ∨ f.hdr.dst.toNat = 63) ∧
    s.port.rx.length < 2 ∧ (f.cls.toNat, f.kind.toNat, f.payload.length) ∉ [(0, 0, 1), (1, 0, 3), (1, 1, 3), (1, 2,
    1), (1, 3, 1), (1, 4, 2), (2, 0, 7), (2, 1, 3), (2, 2, 4), (2, 3, 0), (3, 0, 1), (3, 0, 3), (3, 0, 5), (3, 0,
    7), (3, 1, 0), (3, 2, 0), (3, 3, 0), (3, 4, 0), (3, 5, 0), (3, 6, 7), (3, 7, 4), (3, 8, 3), (3, 9, 1), (4, 0,
    4), (5, 0, 7), (5, 1, 8), (5, 2, 8), (5, 3, 6), (5, 4, 6), (5, 5, 8), (5, 6, 4), (5, 7, 4), (5, 8, 3), (5, 9,
    6)] :=
  ⟨onLine (good 3 0 1 10 [3, 0]), good 3 0 1 10 [3, 0], buffered [.start eng] (at_ 1 .running), by decide +kernel⟩

theorem meets_FrameErrorsAreCounted_9 : ∃ (levels : List Bool) (f : RxFrame) (c : Instr) (s : State), s.ctl.resetLow
    = false ∧ s.ctl.st ≠ .selftest ∧ RxFrame.ofLevels levels = some f ∧ f.check = checkOf (fieldBits f.cls f.kind
    f.hdr f.payload) ∧ f.hdr.src.toNat ≠ s.ctl.address ∧ (f.hdr.dst.toNat = s.ctl.address ∨ f.hdr.dst.toNat = 63) ∧
    s.port.rx.length < 2 ∧ s.read f.cls.toNat f.kind.toNat f.hdr f.payload = .command c ∧ sound c = true :=
  ⟨onLine (good 1 3 9 10 [20]), good 1 3 9 10 [20], .go up 20, buffered [.start eng] (at_ 1 .running), by decide +kernel⟩

theorem meets_FrameErrorsAreCounted_10 : ∃ (c d : Instr) (h : Header) (s : State), s.ctl.resetLow = false ∧ s.ctl.st
    ≠ .selftest ∧ c.header? = some h ∧ sound c = true ∧ h.src.toNat ≠ s.ctl.address ∧ (h.dst.toNat = s.ctl.address ∨
    h.dst.toNat = 63) ∧ s.port.rx = [d] :=
  ⟨.go up 20, .start eng, up, buffered [.start eng] (at_ 1 .running), by decide +kernel⟩

theorem meets_HaltAndBrokenAreHeard_1a : ∃ (h : Header) (code : Byte) (s : State), s.hearsFrom h ∧ s.ctl.st ≠
    .lockdown :=
  ⟨up, 3, at_ 1 .running, by decide⟩

theorem meets_HaltAndBrokenAreHeard_1b : ∃ (h : Header) (code : Byte) (s : State), s.hearsFrom h ∧ s.ctl.st ≠
    .lockdown :=
  ⟨up, 3, at_ 1 .unconfigured, by decide⟩

theorem meets_HaltAndBrokenAreHeard_2a : ∃ (h : Header) (set : Half) (s : State), s.hearsFrom h ∧ s.ctl.st ≠
    .lockdown ∧ s.role ≠ .exit ∧ (∀ x ∈ s.track.queue, x.image ≠ some .waiting) ∧ s.ownHolds .imageWait = false ∧
    s.quiet ∧ (s.role = .invert → s.noOffers ∨ ∀ x ∈ s.track.queue, x.isLoop = true → x.tag.set ≠ set.toNat ∨
    x.route = some .alt) :=
  ⟨up, 7, queue_ [inPath 7 1 1900] (at_ 1 .running), by decide⟩

theorem meets_HaltAndBrokenAreHeard_2b : ∃ (h : Header) (set : Half) (s : State), s.hearsFrom h ∧ s.ctl.st ≠
    .lockdown ∧ s.role ≠ .exit ∧ (∀ x ∈ s.track.queue, x.image ≠ some .waiting) ∧ s.ownHolds .imageWait = false ∧
    s.quiet ∧ (s.role = .invert → s.noOffers ∨ ∀ x ∈ s.track.queue, x.isLoop = true → x.tag.set ≠ set.toNat ∨
    x.route = some .alt) :=
  ⟨up, 7, offeringLoop (queue_ [inPath 7 1 1900] (at_ 3 .running)), by decide⟩

theorem meets_HaltAndBrokenAreHeard_3 : ∃ (h : Header) (set : Half) (o : Offer) (s : State), s.hearsFrom h ∧
    s.ctl.st = .running ∧ s.role = .invert ∧ (∀ x ∈ s.track.queue, x.image ≠ some .waiting) ∧ s.ownHolds .imageWait
    = false ∧ s.quiet ∧ set.toNat ∉ s.track.broken ∧ (∃ x ∈ s.track.queue, x.isLoop = true) ∧ (∀ x ∈ s.track.queue,
    x.isLoop = true → x.tag.set = set.toNat ∧ x.route = none) ∧ s.hand.slot1 = some o ∧ s.hand.slot2 = none ∧
    s.drive.hold = [] ∧ s.track.queue.length < 8 ∧ (∀ x ∈ s.track.queue, x.tag ≠ o.tag ∧ x.occupiesEntry = false) ∧
    o.marks.ghost = false ∧ o.marks.broken = false ∧ o.tag.set ≠ set.toNat ∧ o.tag.set ∉ s.track.broken ∧ o.speed =
    s.drive.speed :=
  ⟨up, 7, loopOffer, offeringLoop (queue_ [{ inPath 7 1 1900 with side := .first }] (at_ 3 .running)), by decide⟩

theorem meets_PassAndArrivedAreHeard_1 : ∃ (h : Header) (t : FrameTag) (r : Record) (s : State), s.hearsUpstream h ∧
    s.ctl.st ≠ .lockdown ∧ s.ctl.st ≠ .unconfigured ∧ s.queueSound ∧ s.quiet ∧ s.drive.hold = [] ∧ r ∈ s.track.queue
    ∧ r.tag = keyOf t ∧ r.place = .expected ∧ s.upstreamOf r.source = some h.src.toNat :=
  ⟨up, tag_ 1 1, expected 1 1, queue_ [expected 1 1] (at_ 1 .running), by decide⟩

theorem meets_PassAndArrivedAreHeard_2a : ∃ (h : Header) (t : FrameTag) (s : State), s.hearsUpstream h ∧ s.ctl.st ≠
    .lockdown ∧ s.ctl.st ≠ .unconfigured ∧ (∀ r ∈ s.track.queue, r.tag = keyOf t → r.place = .expected →
    s.upstreamOf r.source ≠ some h.src.toNat) :=
  ⟨up, tag_ 1 1, at_ 1 .running, by decide⟩

theorem meets_PassAndArrivedAreHeard_2b : ∃ (h : Header) (t : FrameTag) (s : State), s.hearsUpstream h ∧ s.ctl.st ≠
    .lockdown ∧ s.ctl.st ≠ .unconfigured ∧ (∀ r ∈ s.track.queue, r.tag = keyOf t → r.place = .expected →
    s.upstreamOf r.source ≠ some h.src.toNat) :=
  ⟨up, tag_ 1 1, at_ 1 .paused, by decide⟩

theorem meets_PassAndArrivedAreHeard_3 : ∃ (h : Header) (t : FrameTag) (r : Record) (s : State), s.hearsDownstream h
    ∧ s.ctl.st ≠ .lockdown ∧ s.ctl.st ≠ .unconfigured ∧ s.queueSound ∧ s.quiet ∧ r ∈ s.track.queue ∧ r.tag = keyOf t
    ∧ r.place = .exiting ∧ s.downstream r = h.src.toNat ∧ s.trailOut r = false :=
  ⟨dn, tag_ 1 1, exiting 1 1 8099, queue_ [exiting 1 1 8099] (at_ 1 .running), by decide⟩

theorem meets_PassAndArrivedAreHeard_4 : ∃ (h : Header) (t : FrameTag) (s : State), s.hearsDownstream h ∧ s.ctl.st ≠
    .lockdown ∧ s.ctl.st ≠ .unconfigured ∧ (∀ r ∈ s.track.queue, r.tag = keyOf t → r.place = .exiting → s.downstream
    r ≠ h.src.toNat) :=
  ⟨dn, tag_ 1 1, at_ 1 .ready, by decide⟩

theorem meets_PassAndArrivedAreHeard_5a : ∃ (h : Header) (t : FrameTag) (r : Record) (s : State), s.hearsDownstream
    h ∧ s.ctl.st ≠ .lockdown ∧ s.ctl.st ≠ .unconfigured ∧ s.queueSound ∧ (s.role = .feed ∨ s.role = .transport) ∧ (∀
    x ∈ s.track.queue, x.offerOwed = false) ∧ s.gate.move = .none ∧ s.gate.list = [] ∧ s.gate.occupant = none ∧
    s.inv.loop = none ∧ s.ownHolds .imageWait = false ∧ r ∈ s.track.queue ∧ r.tag = keyOf t ∧ r.place = .exiting ∧
    s.downstream r = h.src.toNat ∧ s.trailOut r = true :=
  ⟨dn, tag_ 1 1, exiting 1 1 8100, duplicated, by decide⟩

theorem meets_PassAndArrivedAreHeard_5b : ∃ (h : Header) (t : FrameTag) (r : Record) (s : State), s.hearsDownstream
    h ∧ s.ctl.st ≠ .lockdown ∧ s.ctl.st ≠ .unconfigured ∧ s.queueSound ∧ (s.role = .feed ∨ s.role = .transport) ∧ (∀
    x ∈ s.track.queue, x.offerOwed = false) ∧ s.gate.move = .none ∧ s.gate.list = [] ∧ s.gate.occupant = none ∧
    s.inv.loop = none ∧ s.ownHolds .imageWait = false ∧ r ∈ s.track.queue ∧ r.tag = keyOf t ∧ r.place = .exiting ∧
    s.downstream r = h.src.toNat ∧ s.trailOut r = true :=
  ⟨dn, tag_ 1 1, { exiting 1 1 8100 with last := true, marks := { Marks.none with ghost := true } }, queue_ [{ exiting 1 1 8100 with last := true, marks := { Marks.none with ghost := true } }] (at_ 1 .sweeping), by decide⟩

theorem meets_HoldIsRecordedAndForwarded_1a : ∃ (h : Header) (o : Byte) (s : State), s.hearsNeighbour h ∧
    s.ctl.st.steps = true ∧ s.quiet ∧ o.toNat ≠ s.ctl.address ∧ (∀ e ∈ s.drive.hold, e.origin ≠ o.toNat) ∧
    (s.drive.hold.length ≤ 6 ∨ (s.drive.hold.length ≤ 7 ∧ ∃ e ∈ s.drive.hold, e.origin = s.ctl.address)) :=
  ⟨dn, 20, at_ 1 .running, by decide⟩

theorem meets_HoldIsRecordedAndForwarded_1b : ∃ (h : Header) (o : Byte) (s : State), s.hearsNeighbour h ∧
    s.ctl.st.steps = true ∧ s.quiet ∧ o.toNat ≠ s.ctl.address ∧ (∀ e ∈ s.drive.hold, e.origin ≠ o.toNat) ∧
    (s.drive.hold.length ≤ 6 ∨ (s.drive.hold.length ≤ 7 ∧ ∃ e ∈ s.drive.hold, e.origin = s.ctl.address)) :=
  ⟨dn, 20, holds (10 :: others 6) (at_ 1 .running), by decide⟩

theorem meets_HoldIsRecordedAndForwarded_1c : ∃ (h : Header) (o : Byte) (s : State), s.hearsNeighbour h ∧
    s.ctl.st.steps = true ∧ s.quiet ∧ o.toNat ≠ s.ctl.address ∧ (∀ e ∈ s.drive.hold, e.origin ≠ o.toNat) ∧
    (s.drive.hold.length ≤ 6 ∨ (s.drive.hold.length ≤ 7 ∧ ∃ e ∈ s.drive.hold, e.origin = s.ctl.address)) :=
  ⟨dn, 20, holds (others 6) (at_ 1 .running), by decide⟩

theorem meets_HoldIsRecordedAndForwarded_2a : ∃ (h : Header) (o : Byte) (s : State), s.hearsNeighbour h ∧
    s.ctl.st.steps = true ∧ o.toNat ≠ s.ctl.address ∧ (∀ e ∈ s.drive.hold, e.origin ≠ o.toNat) ∧ ¬
    (s.drive.hold.length ≤ 6 ∨ (s.drive.hold.length ≤ 7 ∧ ∃ e ∈ s.drive.hold, e.origin = s.ctl.address)) :=
  ⟨dn, 20, holds (others 7) (at_ 1 .running), by decide⟩

theorem meets_HoldIsRecordedAndForwarded_2b : ∃ (h : Header) (o : Byte) (s : State), s.hearsNeighbour h ∧
    s.ctl.st.steps = true ∧ o.toNat ≠ s.ctl.address ∧ (∀ e ∈ s.drive.hold, e.origin ≠ o.toNat) ∧ ¬
    (s.drive.hold.length ≤ 6 ∨ (s.drive.hold.length ≤ 7 ∧ ∃ e ∈ s.drive.hold, e.origin = s.ctl.address)) :=
  ⟨dn, 20, holds (10 :: others 7) (at_ 1 .running), by decide⟩

theorem meets_HoldIsRecordedAndForwarded_3a : ∃ (h : Header) (o : Byte) (s : State), s.hearsNeighbour h ∧ s.ctl.st ≠
    .lockdown ∧ s.ctl.st ≠ .unconfigured ∧ (s.ctl.st.steps = false ∨ o.toNat = s.ctl.address ∨ ∃ e ∈ s.drive.hold,
    e.origin = o.toNat) :=
  ⟨dn, 10, at_ 1 .running, by decide⟩

theorem meets_HoldIsRecordedAndForwarded_3b : ∃ (h : Header) (o : Byte) (s : State), s.hearsNeighbour h ∧ s.ctl.st ≠
    .lockdown ∧ s.ctl.st ≠ .unconfigured ∧ (s.ctl.st.steps = false ∨ o.toNat = s.ctl.address ∨ ∃ e ∈ s.drive.hold,
    e.origin = o.toNat) :=
  ⟨dn, 30, holds (others 1) (at_ 1 .running), by decide⟩

theorem meets_HoldIsRecordedAndForwarded_3c : ∃ (h : Header) (o : Byte) (s : State), s.hearsNeighbour h ∧ s.ctl.st ≠
    .lockdown ∧ s.ctl.st ≠ .unconfigured ∧ (s.ctl.st.steps = false ∨ o.toNat = s.ctl.address ∨ ∃ e ∈ s.drive.hold,
    e.origin = o.toNat) :=
  ⟨dn, 20, at_ 1 .ready, by decide⟩

theorem meets_GoReleasesItsEntry_1a : ∃ (h : Header) (o : Byte) (s : State), s.hearsNeighbour h ∧ s.ctl.st ≠
    .lockdown ∧ s.ctl.st ≠ .unconfigured ∧ (o.toNat = s.ctl.address ∨ ∀ e ∈ s.drive.hold, e.origin ≠ o.toNat) :=
  ⟨dn, 10, holds (others 1) (at_ 1 .running), by decide⟩

theorem meets_GoReleasesItsEntry_1b : ∃ (h : Header) (o : Byte) (s : State), s.hearsNeighbour h ∧ s.ctl.st ≠
    .lockdown ∧ s.ctl.st ≠ .unconfigured ∧ (o.toNat = s.ctl.address ∨ ∀ e ∈ s.drive.hold, e.origin ≠ o.toNat) :=
  ⟨dn, 20, at_ 1 .running, by decide⟩

theorem meets_GoReleasesItsEntry_2a : ∃ (h : Header) (o : Byte) (e : HoldEntry) (s : State), s.hearsNeighbour h ∧
    s.ctl.st ≠ .lockdown ∧ s.ctl.st ≠ .unconfigured ∧ s.holdSound ∧ s.quiet ∧ o.toNat ≠ s.ctl.address ∧ e ∈
    s.drive.hold ∧ e.origin = o.toNat :=
  ⟨dn, 30, entry 30, holds (others 1) (at_ 1 .running), by decide⟩

theorem meets_GoReleasesItsEntry_2b : ∃ (h : Header) (o : Byte) (e : HoldEntry) (s : State), s.hearsNeighbour h ∧
    s.ctl.st ≠ .lockdown ∧ s.ctl.st ≠ .unconfigured ∧ s.holdSound ∧ s.quiet ∧ o.toNat ≠ s.ctl.address ∧ e ∈
    s.drive.hold ∧ e.origin = o.toNat :=
  ⟨dn, 30, entry 30, { holds [30] (at_ 1 .running) with hand := { Handoff.reset with deferred2 := some ⟨.held, none⟩ } }, by decide⟩

theorem meets_OwnReasonsComeAndGo_1a : ∃ (s : State) (r : OwnReason), s.holdEntry? s.ctl.address = none :=
  ⟨at_ 1 .running, .imageWait, by decide⟩

theorem meets_OwnReasonsComeAndGo_1b : ∃ (s : State) (r : OwnReason), s.holdEntry? s.ctl.address = none :=
  ⟨moving 1 [], .imageWait, by decide⟩

theorem meets_OwnReasonsComeAndGo_2 : ∃ (s : State) (r : OwnReason), s.sharing = [] :=
  ⟨at_ 1 .running, .imageWait, by decide⟩

theorem meets_OwnReasonsComeAndGo_3 : ∃ (s : State) (r : OwnReason) (e : HoldEntry), s.holdSound ∧ e ∈ s.drive.hold
    ∧ e.origin = s.ctl.address :=
  ⟨holds [10] (at_ 1 .running), .imageWait, entry 10, by decide⟩

theorem meets_OwnReasonsComeAndGo_5 : ∃ (s : State) (r r' : OwnReason) (e : HoldEntry), s.holdSound ∧ e ∈
    s.drive.hold ∧ e.origin = s.ctl.address ∧ r.holdsIn e.own = true ∧ r' ≠ r ∧ r'.holdsIn e.own = true :=
  ⟨ownTwo, .handoffWait, .imageWait, ownTwoEntry, by decide⟩

theorem meets_OwnReasonsComeAndGo_6 : ∃ (s : State) (r : OwnReason), s.ownHolds r = false :=
  ⟨at_ 1 .running, .trayWait, by decide⟩

theorem meets_OfferIsDeferredOrTaken_1a : ∃ (h : Header) (o : SheetFields) (s : State) (reason : DeferReason),
    s.hearsUpstream h ∧ s.ctl.st ≠ .lockdown ∧ s.ctl.st ≠ .unconfigured ∧ o.tag.seq ≠ 0#6 ∧ o.side ≠ 3#2 ∧ s.quiet ∧
    ((s.drive.hold ≠ [] ∧ reason = .held) ∨ (s.drive.hold = [] ∧ s.ctl.st ≠ .running ∧ s.ctl.st ≠ .draining ∧
    s.ctl.st ≠ .sweeping ∧ reason = .state) ∨ (s.drive.hold = [] ∧ (s.ctl.st = .running ∨ s.ctl.st = .draining) ∧
    o.marks.getLsbD 2 = true ∧ s.sweep.refused = true ∧ reason = .state)) :=
  ⟨up, sheet_ 4 2, holds (others 1) (at_ 1 .running), .held, by decide⟩

theorem meets_OfferIsDeferredOrTaken_1b : ∃ (h : Header) (o : SheetFields) (s : State) (reason : DeferReason),
    s.hearsUpstream h ∧ s.ctl.st ≠ .lockdown ∧ s.ctl.st ≠ .unconfigured ∧ o.tag.seq ≠ 0#6 ∧ o.side ≠ 3#2 ∧ s.quiet ∧
    ((s.drive.hold ≠ [] ∧ reason = .held) ∨ (s.drive.hold = [] ∧ s.ctl.st ≠ .running ∧ s.ctl.st ≠ .draining ∧
    s.ctl.st ≠ .sweeping ∧ reason = .state) ∨ (s.drive.hold = [] ∧ (s.ctl.st = .running ∨ s.ctl.st = .draining) ∧
    o.marks.getLsbD 2 = true ∧ s.sweep.refused = true ∧ reason = .state)) :=
  ⟨up, sheet_ 4 2, at_ 1 .ready, .state, by decide⟩

theorem meets_OfferIsDeferredOrTaken_1c : ∃ (h : Header) (o : SheetFields) (s : State) (reason : DeferReason),
    s.hearsUpstream h ∧ s.ctl.st ≠ .lockdown ∧ s.ctl.st ≠ .unconfigured ∧ o.tag.seq ≠ 0#6 ∧ o.side ≠ 3#2 ∧ s.quiet ∧
    ((s.drive.hold ≠ [] ∧ reason = .held) ∨ (s.drive.hold = [] ∧ s.ctl.st ≠ .running ∧ s.ctl.st ≠ .draining ∧
    s.ctl.st ≠ .sweeping ∧ reason = .state) ∨ (s.drive.hold = [] ∧ (s.ctl.st = .running ∨ s.ctl.st = .draining) ∧
    o.marks.getLsbD 2 = true ∧ s.sweep.refused = true ∧ reason = .state)) :=
  ⟨up, { sheet_ 4 2 with marks := 4 }, refusing (at_ 1 .running), .state, by decide⟩

theorem meets_OfferIsDeferredOrTaken_2 : ∃ (h : Header) (f : SheetFields) (s : State), s.hearsUpstream h ∧ s.ctl.st
    = .running ∧ s.role ≠ .invert ∧ f.tag.seq ≠ 0#6 ∧ f.side ≠ 3#2 ∧ s.drive.hold = [] ∧ s.track.queue.length < 8 ∧
    (∀ r ∈ s.track.queue, r.tag ≠ keyOf f.tag ∧ r.occupiesEntry = false) ∧ f.marks.getLsbD 2 = false ∧
    f.marks.getLsbD 0 = false ∧ f.tag.set.toNat ∉ s.track.broken ∧ (s.track.queue = [] ∨ f.speed.toNat =
    s.drive.speed) ∧ s.quiet ∧ (if h.src.toNat = s.up1 then s.hand.slot2 = none else s.hand.slot1 = none) :=
  ⟨up, sheet_ 4 2, at_ 1 .running, by decide⟩

theorem meets_OfferIsDeferredOrTaken_3 : ∃ (h : Header) (f : SheetFields) (r : Record) (s : State), s.hearsUpstream
    h ∧ (s.ctl.st = .running ∨ s.ctl.st = .draining ∨ s.ctl.st = .sweeping) ∧ s.drive.hold = [] ∧ (f.marks.getLsbD 2
    = true → s.sweep.refused = true → s.ctl.st = .sweeping) ∧ f.tag.seq ≠ 0#6 ∧ f.side ≠ 3#2 ∧ s.quiet ∧
    s.queueSound ∧ r ∈ s.track.queue ∧ r.tag = keyOf f.tag :=
  ⟨up, sheet_ 1 1, inPath 1 1 1900, queue_ [inPath 1 1 1900] (at_ 1 .running), by decide⟩

theorem meets_OfferIsDeferredOrTaken_4 : ∃ (h : Header) (f : SheetFields) (o : Offer) (s : State), s.hearsUpstream h
    ∧ (s.ctl.st = .running ∨ s.ctl.st = .draining ∨ s.ctl.st = .sweeping) ∧ s.drive.hold = [] ∧ (f.marks.getLsbD 2 =
    true → s.sweep.refused = true → s.ctl.st = .sweeping) ∧ f.tag.seq ≠ 0#6 ∧ f.side ≠ 3#2 ∧ s.quiet ∧ (∀ r ∈
    s.track.queue, r.tag ≠ keyOf f.tag) ∧ o.tag = keyOf f.tag ∧ (if h.src.toNat = s.up1 then s.hand.slot2 = some o
    else s.hand.slot1 = some o) :=
  ⟨⟨8, 10⟩, sheet_ 4 2, offer 4 2, offering (at_ 1 .draining), by decide⟩

theorem meets_OfferIsDeferredOrTaken_5 : ∃ (h : Header) (f : SheetFields) (s : State), s.hearsUpstream h ∧ s.ctl.st
    = .draining ∧ s.drive.hold = [] ∧ (f.marks.getLsbD 2 = false ∨ s.sweep.refused = false) ∧ f.tag.seq ≠ 0#6 ∧
    f.side ≠ 3#2 ∧ s.quiet ∧ (∀ r ∈ s.track.queue, r.tag ≠ keyOf f.tag) ∧ (∀ o ∈ (if h.src.toNat = s.up1 then
    s.hand.slot2 else s.hand.slot1), o.tag ≠ keyOf f.tag) ∧ (offerOf f).side ≠ .second ∧ (s.drainSheet = true ∨
    s.hand.setInProgress ≠ some f.tag.set.toNat ∨ f.tag.seq.toNat ≤ 1) :=
  ⟨up, sheet_ 4 2, at_ 1 .draining, by decide⟩

theorem meets_OfferIsDeferredOrTaken_6a : ∃ (h : Header) (f : SheetFields) (s : State), s.hearsUpstream h ∧
    (s.ctl.st = .running ∨ s.ctl.st = .draining ∨ s.ctl.st = .sweeping) ∧ s.drive.hold = [] ∧ (f.marks.getLsbD 2 =
    true → s.sweep.refused = true → s.ctl.st = .sweeping) ∧ f.tag.seq ≠ 0#6 ∧ f.side ≠ 3#2 ∧ s.quiet ∧ (∀ r ∈
    s.track.queue, r.tag ≠ keyOf f.tag) ∧ (∀ o ∈ (if h.src.toNat = s.up1 then s.hand.slot2 else s.hand.slot1), o.tag
    ≠ keyOf f.tag) ∧ (s.ctl.st = .draining → (offerOf f).side = .second ∨ (s.drainSheet = false ∧
    s.hand.setInProgress = some f.tag.set.toNat ∧ 1 < f.tag.seq.toNat)) ∧ (8 ≤ s.track.queue.length ∨ (∃ r ∈
    s.track.queue, r.occupiesEntry = true) ∨ (s.role = .invert ∧ (offerOf f).side = .first ∧ f.marks.getLsbD 0 =
    false ∧ f.marks.getLsbD 1 = false ∧ f.marks.getLsbD 2 = false ∧ f.tag.set.toNat ∉ s.track.broken ∧ ∃ r ∈
    s.track.queue, r.isLoop = true)) :=
  ⟨up, sheet_ 4 2, queue_ [expected 1 1] (at_ 1 .running), by decide⟩

theorem meets_OfferIsDeferredOrTaken_6b : ∃ (h : Header) (f : SheetFields) (s : State), s.hearsUpstream h ∧
    (s.ctl.st = .running ∨ s.ctl.st = .draining ∨ s.ctl.st = .sweeping) ∧ s.drive.hold = [] ∧ (f.marks.getLsbD 2 =
    true → s.sweep.refused = true → s.ctl.st = .sweeping) ∧ f.tag.seq ≠ 0#6 ∧ f.side ≠ 3#2 ∧ s.quiet ∧ (∀ r ∈
    s.track.queue, r.tag ≠ keyOf f.tag) ∧ (∀ o ∈ (if h.src.toNat = s.up1 then s.hand.slot2 else s.hand.slot1), o.tag
    ≠ keyOf f.tag) ∧ (s.ctl.st = .draining → (offerOf f).side = .second ∨ (s.drainSheet = false ∧
    s.hand.setInProgress = some f.tag.set.toNat ∧ 1 < f.tag.seq.toNat)) ∧ (8 ≤ s.track.queue.length ∨ (∃ r ∈
    s.track.queue, r.occupiesEntry = true) ∨ (s.role = .invert ∧ (offerOf f).side = .first ∧ f.marks.getLsbD 0 =
    false ∧ f.marks.getLsbD 1 = false ∧ f.marks.getLsbD 2 = false ∧ f.tag.set.toNat ∉ s.track.broken ∧ ∃ r ∈
    s.track.queue, r.isLoop = true)) :=
  ⟨up, sheet_ 4 2, queue_ ((List.range 8).map fun i => inPath 1 (i + 1) 3000) (at_ 1 .sweeping), by decide⟩

theorem meets_OfferIsDeferredOrTaken_6c : ∃ (h : Header) (f : SheetFields) (s : State), s.hearsUpstream h ∧
    (s.ctl.st = .running ∨ s.ctl.st = .draining ∨ s.ctl.st = .sweeping) ∧ s.drive.hold = [] ∧ (f.marks.getLsbD 2 =
    true → s.sweep.refused = true → s.ctl.st = .sweeping) ∧ f.tag.seq ≠ 0#6 ∧ f.side ≠ 3#2 ∧ s.quiet ∧ (∀ r ∈
    s.track.queue, r.tag ≠ keyOf f.tag) ∧ (∀ o ∈ (if h.src.toNat = s.up1 then s.hand.slot2 else s.hand.slot1), o.tag
    ≠ keyOf f.tag) ∧ (s.ctl.st = .draining → (offerOf f).side = .second ∨ (s.drainSheet = false ∧
    s.hand.setInProgress = some f.tag.set.toNat ∧ 1 < f.tag.seq.toNat)) ∧ (8 ≤ s.track.queue.length ∨ (∃ r ∈
    s.track.queue, r.occupiesEntry = true) ∨ (s.role = .invert ∧ (offerOf f).side = .first ∧ f.marks.getLsbD 0 =
    false ∧ f.marks.getLsbD 1 = false ∧ f.marks.getLsbD 2 = false ∧ f.tag.set.toNat ∉ s.track.broken ∧ ∃ r ∈
    s.track.queue, r.isLoop = true)) :=
  ⟨up, { sheet_ 4 2 with side := 1 }, queue_ [turned] (at_ 3 .running), by decide⟩

theorem meets_OfferIsDeferredOrTaken_6d : ∃ (h : Header) (f : SheetFields) (s : State), s.hearsUpstream h ∧
    (s.ctl.st = .running ∨ s.ctl.st = .draining ∨ s.ctl.st = .sweeping) ∧ s.drive.hold = [] ∧ (f.marks.getLsbD 2 =
    true → s.sweep.refused = true → s.ctl.st = .sweeping) ∧ f.tag.seq ≠ 0#6 ∧ f.side ≠ 3#2 ∧ s.quiet ∧ (∀ r ∈
    s.track.queue, r.tag ≠ keyOf f.tag) ∧ (∀ o ∈ (if h.src.toNat = s.up1 then s.hand.slot2 else s.hand.slot1), o.tag
    ≠ keyOf f.tag) ∧ (s.ctl.st = .draining → (offerOf f).side = .second ∨ (s.drainSheet = false ∧
    s.hand.setInProgress = some f.tag.set.toNat ∧ 1 < f.tag.seq.toNat)) ∧ (8 ≤ s.track.queue.length ∨ (∃ r ∈
    s.track.queue, r.occupiesEntry = true) ∨ (s.role = .invert ∧ (offerOf f).side = .first ∧ f.marks.getLsbD 0 =
    false ∧ f.marks.getLsbD 1 = false ∧ f.marks.getLsbD 2 = false ∧ f.tag.set.toNat ∉ s.track.broken ∧ ∃ r ∈
    s.track.queue, r.isLoop = true)) :=
  ⟨up, { sheet_ 4 2 with side := 2 }, queue_ [expected 1 1] (at_ 1 .draining), by decide⟩

theorem meets_OfferIsDeferredOrTaken_6e : ∃ (h : Header) (f : SheetFields) (s : State), s.hearsUpstream h ∧
    (s.ctl.st = .running ∨ s.ctl.st = .draining ∨ s.ctl.st = .sweeping) ∧ s.drive.hold = [] ∧ (f.marks.getLsbD 2 =
    true → s.sweep.refused = true → s.ctl.st = .sweeping) ∧ f.tag.seq ≠ 0#6 ∧ f.side ≠ 3#2 ∧ s.quiet ∧ (∀ r ∈
    s.track.queue, r.tag ≠ keyOf f.tag) ∧ (∀ o ∈ (if h.src.toNat = s.up1 then s.hand.slot2 else s.hand.slot1), o.tag
    ≠ keyOf f.tag) ∧ (s.ctl.st = .draining → (offerOf f).side = .second ∨ (s.drainSheet = false ∧
    s.hand.setInProgress = some f.tag.set.toNat ∧ 1 < f.tag.seq.toNat)) ∧ (8 ≤ s.track.queue.length ∨ (∃ r ∈
    s.track.queue, r.occupiesEntry = true) ∨ (s.role = .invert ∧ (offerOf f).side = .first ∧ f.marks.getLsbD 0 =
    false ∧ f.marks.getLsbD 1 = false ∧ f.marks.getLsbD 2 = false ∧ f.tag.set.toNat ∉ s.track.broken ∧ ∃ r ∈
    s.track.queue, r.isLoop = true)) :=
  ⟨up, { sheet_ 4 2 with marks := 4 }, queue_ [expected 1 1] (refusing (at_ 1 .sweeping)), by decide⟩

theorem meets_TakeDeferAndReadyAreHeard_1a : ∃ (h : Header) (t : FrameTag) (r : Record) (s : State),
    s.hearsDownstream h ∧ s.ctl.st ≠ .lockdown ∧ s.ctl.st ≠ .unconfigured ∧ s.queueSound ∧ s.quiet ∧ r ∈
    s.track.queue ∧ r.tag = keyOf t ∧ s.downstream r = h.src.toNat ∧ (r.stage = .offered ∨ r.stage = .deferred) ∧
    s.hand.givenUp ≠ some r.tag ∧ (s.inv.loop = some r.tag → s.inv.givenUp = false) ∧ s.hand.waiting ≠ some r.tag ∧
    (r.atBoundary = false ∨ s.ctl.st.steps = false) :=
  ⟨dn, tag_ 1 1, offered 1 1 5800, queue_ [offered 1 1 5800] (at_ 1 .running), by decide⟩

theorem meets_TakeDeferAndReadyAreHeard_1b : ∃ (h : Header) (t : FrameTag) (r : Record) (s : State),
    s.hearsDownstream h ∧ s.ctl.st ≠ .lockdown ∧ s.ctl.st ≠ .unconfigured ∧ s.queueSound ∧ s.quiet ∧ r ∈
    s.track.queue ∧ r.tag = keyOf t ∧ s.downstream r = h.src.toNat ∧ (r.stage = .offered ∨ r.stage = .deferred) ∧
    s.hand.givenUp ≠ some r.tag ∧ (s.inv.loop = some r.tag → s.inv.givenUp = false) ∧ s.hand.waiting ≠ some r.tag ∧
    (r.atBoundary = false ∨ s.ctl.st.steps = false) :=
  ⟨⟨12, 10⟩, tag_ 1 1, { turned with stage := .offered }, { returns .returnWait with track := { Track.reset with queue := [{ turned with stage := .offered }] } }, by decide⟩

theorem meets_TakeDeferAndReadyAreHeard_1c : ∃ (h : Header) (t : FrameTag) (r : Record) (s : State),
    s.hearsDownstream h ∧ s.ctl.st ≠ .lockdown ∧ s.ctl.st ≠ .unconfigured ∧ s.queueSound ∧ s.quiet ∧ r ∈
    s.track.queue ∧ r.tag = keyOf t ∧ s.downstream r = h.src.toNat ∧ (r.stage = .offered ∨ r.stage = .deferred) ∧
    s.hand.givenUp ≠ some r.tag ∧ (s.inv.loop = some r.tag → s.inv.givenUp = false) ∧ s.hand.waiting ≠ some r.tag ∧
    (r.atBoundary = false ∨ s.ctl.st.steps = false) :=
  ⟨dn, tag_ 1 1, atExit 1 1, queue_ [atExit 1 1] (at_ 1 .paused), by decide⟩

theorem meets_TakeDeferAndReadyAreHeard_2 : ∃ (h : Header) (t : FrameTag) (r : Record) (s : State),
    s.hearsDownstream h ∧ s.ctl.st ≠ .lockdown ∧ s.ctl.st ≠ .unconfigured ∧ s.queueSound ∧ s.quiet ∧ r ∈
    s.track.queue ∧ r.tag = keyOf t ∧ s.downstream r = h.src.toNat ∧ (r.stage = .offered ∨ r.stage = .deferred) ∧
    s.hand.givenUp ≠ some r.tag ∧ (s.inv.loop = some r.tag → s.inv.givenUp = false) ∧ s.hand.waiting = some r.tag ∧
    (r.atBoundary = false ∨ s.ctl.st.steps = false) :=
  ⟨dn, tag_ 1 1, offered 1 1 5918, { holds [10] (queue_ [offered 1 1 5918, inPath 1 2 1000] (at_ 1 .running)) with hand := { Handoff.reset with waiting := some ⟨1, 1⟩, holdTimer := .running } }, by decide⟩

theorem meets_TakeDeferAndReadyAreHeard_3 : ∃ (h : Header) (t : FrameTag) (r : Record) (s : State),
    s.hearsDownstream h ∧ s.ctl.st.steps = true ∧ s.quiet ∧ s.track.queue = [r] ∧ r.tag = keyOf t ∧ s.drive.hold =
    [] ∧ s.inv.loop = none ∧ s.downstream r = h.src.toNat ∧ (r.stage = .offered ∨ r.stage = .deferred) ∧
    s.hand.givenUp ≠ some r.tag ∧ s.hand.waiting ≠ some r.tag ∧ r.atBoundary = true :=
  ⟨dn, tag_ 1 1, atExit 1 1, queue_ [atExit 1 1] (at_ 1 .running), by decide⟩

theorem meets_TakeDeferAndReadyAreHeard_4a : ∃ (h : Header) (t : FrameTag) (s : State), s.hearsDownstream h ∧
    s.ctl.st ≠ .lockdown ∧ s.ctl.st ≠ .unconfigured ∧ ((∀ r ∈ s.track.queue, r.tag = keyOf t → s.downstream r =
    h.src.toNat → r.stage ≠ .offered ∧ r.stage ≠ .deferred) ∨ s.hand.givenUp = some (keyOf t) ∨ (s.inv.givenUp =
    true ∧ s.inv.loop = some (keyOf t))) :=
  ⟨dn, tag_ 1 1, at_ 1 .running, by decide⟩

theorem meets_TakeDeferAndReadyAreHeard_4b : ∃ (h : Header) (t : FrameTag) (s : State), s.hearsDownstream h ∧
    s.ctl.st ≠ .lockdown ∧ s.ctl.st ≠ .unconfigured ∧ ((∀ r ∈ s.track.queue, r.tag = keyOf t → s.downstream r =
    h.src.toNat → r.stage ≠ .offered ∧ r.stage ≠ .deferred) ∨ s.hand.givenUp = some (keyOf t) ∨ (s.inv.givenUp =
    true ∧ s.inv.loop = some (keyOf t))) :=
  ⟨dn, tag_ 1 1, { queue_ [offered 1 1 5800] (at_ 1 .running) with hand := { Handoff.reset with givenUp := some ⟨1, 1⟩ } }, by decide⟩

theorem meets_TakeDeferAndReadyAreHeard_5a : ∃ (h : Header) (t : FrameTag) (reason : Byte) (r : Record) (s : State),
    s.hearsDownstream h ∧ s.ctl.st ≠ .lockdown ∧ s.ctl.st ≠ .unconfigured ∧ reason.toNat ≤ 3 ∧ s.queueSound ∧ r ∈
    s.track.queue ∧ r.tag = keyOf t ∧ s.downstream r = h.src.toNat :=
  ⟨dn, tag_ 1 1, 3, offered 1 1 5800, queue_ [offered 1 1 5800] (at_ 1 .running), by decide⟩

theorem meets_TakeDeferAndReadyAreHeard_5b : ∃ (h : Header) (t : FrameTag) (reason : Byte) (r : Record) (s : State),
    s.hearsDownstream h ∧ s.ctl.st ≠ .lockdown ∧ s.ctl.st ≠ .unconfigured ∧ reason.toNat ≤ 3 ∧ s.queueSound ∧ r ∈
    s.track.queue ∧ r.tag = keyOf t ∧ s.downstream r = h.src.toNat :=
  ⟨dn, tag_ 1 1, 0, inPath 1 1 5000, queue_ [inPath 1 1 5000] (at_ 1 .running), by decide⟩

theorem meets_TakeDeferAndReadyAreHeard_6 : ∃ (h : Header) (r : Record) (s : State), s.hearsDownstream h ∧
    s.ctl.st.steps = true ∧ s.queueSound ∧ s.track.queue.find? (fun x => decide (s.downstream x = h.src.toNat) &&
    decide (x.stage = .deferred)) = some r :=
  ⟨dn, deferred_ 1 1 5800, queue_ [deferred_ 1 1 5800, deferred_ 1 2 3000] (at_ 1 .running), by decide⟩

theorem meets_TakeDeferAndReadyAreHeard_7 : ∃ (h : Header) (t : FrameTag) (reason : Byte) (s : State),
    s.hearsDownstream h ∧ s.ctl.st ≠ .lockdown ∧ s.ctl.st ≠ .unconfigured ∧ reason.toNat ≤ 3 ∧ (∀ r ∈ s.track.queue,
    r.tag = keyOf t → s.downstream r = h.src.toNat → r.stage ≠ .offered) :=
  ⟨dn, tag_ 1 1, 0, queue_ [offered 1 2 5800] (at_ 1 .running), by decide⟩

theorem meets_TakeDeferAndReadyAreHeard_8a : ∃ (h : Header) (s : State), s.hearsDownstream h ∧ s.ctl.st ≠ .lockdown
    ∧ s.ctl.st ≠ .unconfigured ∧ s.ctl.st.steps = false ∧ ∃ r ∈ s.track.queue, r.stage = .deferred :=
  ⟨dn, queue_ [deferred_ 1 1 5800] (at_ 1 .paused), by decide⟩

theorem meets_TakeDeferAndReadyAreHeard_8b : ∃ (h : Header) (s : State), s.hearsDownstream h ∧ s.ctl.st ≠ .lockdown
    ∧ s.ctl.st ≠ .unconfigured ∧ ∀ r ∈ s.track.queue, s.downstream r = h.src.toNat → r.stage ≠ .deferred :=
  ⟨dn, queue_ [offered 1 1 5800] (at_ 1 .running), by decide⟩

theorem meets_ConfigureWritesAndCommits_1a : ∃ (h : Header) (i : BitVec 7) (v : Half) (s : State), s.hearsEngine h ∧
    (s.ctl.st = .unconfigured ∨ s.ctl.st = .ready) ∧ i.toNat < 92 ∧ i.toNat ≠ 5 ∧ i.toNat ≠ 64 ∧ ¬ (70 ≤ i.toNat ∧
    i.toNat ≤ 85) ∧ ¬ (88 ≤ i.toNat) :=
  ⟨eng, 0, 0, at_ 1 .unconfigured, by decide⟩

theorem meets_ConfigureWritesAndCommits_1b : ∃ (h : Header) (i : BitVec 7) (v : Half) (s : State), s.hearsEngine h ∧
    (s.ctl.st = .unconfigured ∨ s.ctl.st = .ready) ∧ i.toNat < 92 ∧ i.toNat ≠ 5 ∧ i.toNat ≠ 64 ∧ ¬ (70 ≤ i.toNat ∧
    i.toNat ≤ 85) ∧ ¬ (88 ≤ i.toNat) :=
  ⟨eng, 4, 0, at_ 1 .unconfigured, by decide⟩

theorem meets_ConfigureWritesAndCommits_1c : ∃ (h : Header) (i : BitVec 7) (v : Half) (s : State), s.hearsEngine h ∧
    (s.ctl.st = .unconfigured ∨ s.ctl.st = .ready) ∧ i.toNat < 92 ∧ i.toNat ≠ 5 ∧ i.toNat ≠ 64 ∧ ¬ (70 ≤ i.toNat ∧
    i.toNat ≤ 85) ∧ ¬ (88 ≤ i.toNat) :=
  ⟨eng, 6, 0, at_ 1 .unconfigured, by decide⟩

theorem meets_ConfigureWritesAndCommits_1d : ∃ (h : Header) (i : BitVec 7) (v : Half) (s : State), s.hearsEngine h ∧
    (s.ctl.st = .unconfigured ∨ s.ctl.st = .ready) ∧ i.toNat < 92 ∧ i.toNat ≠ 5 ∧ i.toNat ≠ 64 ∧ ¬ (70 ≤ i.toNat ∧
    i.toNat ≤ 85) ∧ ¬ (88 ≤ i.toNat) :=
  ⟨eng, 63, 0, at_ 1 .unconfigured, by decide⟩

theorem meets_ConfigureWritesAndCommits_1e : ∃ (h : Header) (i : BitVec 7) (v : Half) (s : State), s.hearsEngine h ∧
    (s.ctl.st = .unconfigured ∨ s.ctl.st = .ready) ∧ i.toNat < 92 ∧ i.toNat ≠ 5 ∧ i.toNat ≠ 64 ∧ ¬ (70 ≤ i.toNat ∧
    i.toNat ≤ 85) ∧ ¬ (88 ≤ i.toNat) :=
  ⟨eng, 65, 0, at_ 1 .unconfigured, by decide⟩

theorem meets_ConfigureWritesAndCommits_1f : ∃ (h : Header) (i : BitVec 7) (v : Half) (s : State), s.hearsEngine h ∧
    (s.ctl.st = .unconfigured ∨ s.ctl.st = .ready) ∧ i.toNat < 92 ∧ i.toNat ≠ 5 ∧ i.toNat ≠ 64 ∧ ¬ (70 ≤ i.toNat ∧
    i.toNat ≤ 85) ∧ ¬ (88 ≤ i.toNat) :=
  ⟨eng, 69, 0, at_ 1 .unconfigured, by decide⟩

theorem meets_ConfigureWritesAndCommits_1g : ∃ (h : Header) (i : BitVec 7) (v : Half) (s : State), s.hearsEngine h ∧
    (s.ctl.st = .unconfigured ∨ s.ctl.st = .ready) ∧ i.toNat < 92 ∧ i.toNat ≠ 5 ∧ i.toNat ≠ 64 ∧ ¬ (70 ≤ i.toNat ∧
    i.toNat ≤ 85) ∧ ¬ (88 ≤ i.toNat) :=
  ⟨eng, 86, 0, at_ 1 .unconfigured, by decide⟩

theorem meets_ConfigureWritesAndCommits_1h : ∃ (h : Header) (i : BitVec 7) (v : Half) (s : State), s.hearsEngine h ∧
    (s.ctl.st = .unconfigured ∨ s.ctl.st = .ready) ∧ i.toNat < 92 ∧ i.toNat ≠ 5 ∧ i.toNat ≠ 64 ∧ ¬ (70 ≤ i.toNat ∧
    i.toNat ≤ 85) ∧ ¬ (88 ≤ i.toNat) :=
  ⟨eng, 87, 0, at_ 1 .unconfigured, by decide⟩

theorem meets_ConfigureWritesAndCommits_2a : ∃ (h : Header) (i : BitVec 7) (v : Half) (s : State), s.hearsEngine h ∧
    (s.ctl.st = .unconfigured ∨ s.ctl.st = .ready) ∧ 70 ≤ i.toNat ∧ i.toNat ≤ 85 :=
  ⟨eng, 70, 0xffff, at_ 1 .ready, by decide⟩

theorem meets_ConfigureWritesAndCommits_2b : ∃ (h : Header) (i : BitVec 7) (v : Half) (s : State), s.hearsEngine h ∧
    (s.ctl.st = .unconfigured ∨ s.ctl.st = .ready) ∧ 70 ≤ i.toNat ∧ i.toNat ≤ 85 :=
  ⟨eng, 85, 0xffff, at_ 1 .ready, by decide⟩

theorem meets_ConfigureWritesAndCommits_3a : ∃ (h : Header) (i : BitVec 7) (v : Half) (s : State), s.hearsEngine h ∧
    (s.ctl.st = .unconfigured ∨ s.ctl.st = .ready) ∧ 92 ≤ i.toNat ∧ i.toNat ≠ 127 :=
  ⟨eng, 92, 7, at_ 1 .ready, by decide⟩

theorem meets_ConfigureWritesAndCommits_3b : ∃ (h : Header) (i : BitVec 7) (v : Half) (s : State), s.hearsEngine h ∧
    (s.ctl.st = .unconfigured ∨ s.ctl.st = .ready) ∧ 92 ≤ i.toNat ∧ i.toNat ≠ 127 :=
  ⟨eng, 126, 7, at_ 1 .ready, by decide⟩

theorem meets_ConfigureWritesAndCommits_4a : ∃ (h : Header) (i : BitVec 7) (s : State), s.hearsEngine h ∧ (s.ctl.st
    = .unconfigured ∨ s.ctl.st = .ready) ∧ s.drive.hold = [] ∧ s.commitCheck = none :=
  ⟨eng, 127, at_ 1 .unconfigured, by decide⟩

theorem meets_ConfigureWritesAndCommits_4b : ∃ (h : Header) (i : BitVec 7) (s : State), s.hearsEngine h ∧ (s.ctl.st
    = .unconfigured ∨ s.ctl.st = .ready) ∧ s.drive.hold = [] ∧ s.commitCheck = none :=
  ⟨eng, 127, at_ 4 .ready, by decide⟩

theorem meets_ConfigureWritesAndCommits_4c : ∃ (h : Header) (i : BitVec 7) (s : State), s.hearsEngine h ∧ (s.ctl.st
    = .unconfigured ∨ s.ctl.st = .ready) ∧ s.drive.hold = [] ∧ s.commitCheck = none :=
  ⟨eng, 127, at_ 3 .unconfigured, by decide⟩

theorem meets_ConfigureWritesAndCommits_5 : ∃ (h : Header) (i : BitVec 7) (k : Nat) (s : State), s.hearsEngine h ∧
    (s.ctl.st = .unconfigured ∨ s.ctl.st = .ready) ∧ s.commitCheck = some k :=
  ⟨eng, 127, 30, unfit, by decide⟩

theorem meets_ConfigureWritesAndCommits_6 : ∃ (h : Header) (v : Half) (s : State), s.hearsEngine h ∧ (s.ctl.st =
    .unconfigured ∨ s.ctl.st = .ready) :=
  ⟨eng, 9, { at_ 1 .unconfigured with cfg := { ConfigStore.reset with params := table.set 5 1 } }, by decide⟩

theorem meets_ConfigureWritesAndCommits_7a : ∃ (h : Header) (v : Half) (s : State), s.hearsEngine h ∧ (s.ctl.st =
    .unconfigured ∨ s.ctl.st = .ready) :=
  ⟨eng, 3, { at_ 4 .ready with comp := { Compile.reset with count := 5 } }, by decide⟩

theorem meets_ConfigureWritesAndCommits_7b : ∃ (h : Header) (v : Half) (s : State), s.hearsEngine h ∧ (s.ctl.st =
    .unconfigured ∨ s.ctl.st = .ready) :=
  ⟨eng, 0, at_ 1 .ready, by decide⟩

theorem meets_ConfigureWritesAndCommits_8a : ∃ (h : Header) (i : BitVec 7) (v : Half) (s : State), s.hearsEngine h ∧
    (s.ctl.st = .unconfigured ∨ s.ctl.st = .ready) ∧ 88 ≤ i.toNat ∧ i.toNat ≤ 91 ∧ s.comp.op ≠ .ejecting .binWait ∧
    s.comp.op ≠ .dumping .binWait :=
  ⟨eng, 91, 5, pins_ 8#4 { at_ 0 .ready with feed := { FeedUnit.reset with supplyReported := true } }, by decide⟩

theorem meets_ConfigureWritesAndCommits_8b : ∃ (h : Header) (i : BitVec 7) (v : Half) (s : State), s.hearsEngine h ∧
    (s.ctl.st = .unconfigured ∨ s.ctl.st = .ready) ∧ 88 ≤ i.toNat ∧ i.toNat ≤ 91 ∧ s.comp.op ≠ .ejecting .binWait ∧
    s.comp.op ≠ .dumping .binWait :=
  ⟨eng, 88, 0, { at_ 2 .ready with reg := { Registration.reset with pulse := true } }, by decide⟩

theorem meets_ConfigureWritesAndCommits_9 : ∃ (h : Header) (i : BitVec 7) (v : Half) (vs : List Half) (s t : State),
    s.hearsEngine h ∧ (s.ctl.st = .unconfigured ∨ s.ctl.st = .ready) ∧ i.toNat < 92 ∧ vs.length ≤ 2 :=
  ⟨eng, 91, 257, [1, 2], at_ 1 .ready, after (.configure eng 91 false [257]) (at_ 1 .ready), by decide⟩

theorem meets_ConfigureWritesAndCommits_10 : ∃ (h : Header) (m : Bool) (vs : List Half) (s : State), s.port.rx = []
    ∧ s.cfg.index < 127 :=
  ⟨eng, true, [], at_ 1 .ready, by decide⟩

theorem meets_ConfigureWritesAndCommits_11 : ∃ (h : Header) (i : BitVec 7) (vs : List Half) (s t : State),
    s.hearsEngine h ∧ (s.ctl.st = .unconfigured ∨ s.ctl.st = .ready) ∧ vs.length ≤ 3 :=
  ⟨eng, 0, [1, 9, 8], at_ 1 .ready, after (.configure eng 0 false [1, 9, 8]) (at_ 1 .ready), by decide⟩

theorem meets_StartAndDrainAreAnswered_1 : ∃ (h : Header) (s : State), s.hearsEngine h ∧ s.ctl.st = .ready ∧ s.quiet
    ∧ s.nothingWaits ∧ (∀ k < s.scount, s.sens.failed.getLsbD k = false) ∧ ((∀ k < s.scount, (s.sensor k).covered =
    false) ∧ s.functionActive .interlock = false ∧ s.functionActive .pause = false) :=
  ⟨eng, deferring (at_ 1 .ready), by decide⟩

theorem meets_StartAndDrainAreAnswered_2 : ∃ (h : Header) (s : State), s.hearsEngine h ∧ s.ctl.st = .ready ∧ (∃ k <
    s.scount, s.sens.failed.getLsbD k = true) :=
  ⟨eng, { at_ 1 .ready with sens := { (at_ 1 .ready).sens with failed := 16#6 } }, by decide⟩

theorem meets_StartAndDrainAreAnswered_3 : ∃ (h : Header) (s : State), s.hearsEngine h ∧ s.ctl.st = .ready ∧ (∀ k <
    s.scount, s.sens.failed.getLsbD k = false) ∧ ¬ ((∀ k < s.scount, (s.sensor k).covered = false) ∧
    s.functionActive .interlock = false ∧ s.functionActive .pause = false) :=
  ⟨eng, covered 4 none false (at_ 1 .ready), by decide⟩

theorem meets_StartAndDrainAreAnswered_4 : ∃ (h : Header) (s : State), s.hearsEngine h ∧ s.ctl.st ≠ .lockdown ∧
    s.ctl.st ≠ .ready ∧ s.ctl.st ≠ .draining :=
  ⟨eng, at_ 1 .running, by decide⟩

theorem meets_StartAndDrainAreAnswered_5 : ∃ (h : Header) (s : State), s.hearsEngine h ∧ s.ctl.st = .running ∧
    s.quiet ∧ s.nothingWaits :=
  ⟨eng, deferring (at_ 1 .running), by decide⟩

theorem meets_StartAndDrainAreAnswered_6 : ∃ (h : Header) (s : State), s.hearsEngine h ∧ s.ctl.st ≠ .lockdown ∧
    s.ctl.st ≠ .running ∧ s.ctl.st ≠ .sweeping :=
  ⟨eng, at_ 1 .ready, by decide⟩

theorem meets_StartAndDrainAreAnswered_7a : ∃ (h : Header) (s : State), s.hearsEngine h ∧ s.ctl.st = .draining ∧
    s.quiet ∧ s.nothingWaits :=
  ⟨eng, deferring (at_ 1 .draining), by decide⟩

theorem meets_StartAndDrainAreAnswered_7b : ∃ (h : Header) (s : State), s.hearsEngine h ∧ s.ctl.st = .draining ∧
    s.quiet ∧ s.nothingWaits :=
  ⟨eng, pins_ 2#4 (at_ 1 .draining), by decide⟩

theorem meets_StartAndDrainAreAnswered_8 : ∃ (h : Header) (o : Offer) (s : State), s.hearsEngine h ∧ s.ctl.st =
    .running ∧ s.quiet ∧ s.role ≠ .feed ∧ s.hand.slot1 = some o ∧ s.hand.slot2 = none ∧ s.drive.hold = [] ∧ (∀ r ∈
    s.track.queue, r.tag ≠ o.tag) ∧ o.side ≠ .second ∧ (s.drainSheet = true ∨ s.hand.setInProgress ≠ some o.tag.set
    ∨ o.tag.seq ≤ 1) ∧ (o.marks.ghost = false ∨ s.sweep.refused = false) :=
  ⟨eng, offer 4 2, offering (deferring (at_ 1 .running)), by decide⟩

theorem meets_StartAndDrainAreAnswered_9 : ∃ (h : Header) (o : FeedOrder) (rest : List FeedOrder) (s : State),
    s.hearsEngine h ∧ s.ctl.st = .ready ∧ s.quiet ∧ s.noOffers ∧ (∀ k < s.scount, s.sens.failed.getLsbD k = false) ∧
    ((∀ k < s.scount, (s.sensor k).covered = false) ∧ s.functionActive .interlock = false ∧ s.functionActive .pause
    = false) ∧ s.role = .feed ∧ s.feed.orders = o :: rest ∧ s.feed.pick = none ∧ s.drive.hold = [] ∧
    s.track.queue.length < 8 ∧ (∀ r ∈ s.track.queue, r.tag ≠ o.tag) ∧ (s.sensor 0).covered = false ∧ s.gapMin -
    s.pickD ≤ (s.sensor 0).uncovered / 256 ∧ s.functionActive .supplyEmpty = false ∧ o.tag.set ∉ s.track.broken ∧
    (s.track.queue = [] ∨ o.speed = s.drive.speed) :=
  ⟨eng, order 2 3, [], { deferring (at_ 0 .ready) with feed := { FeedUnit.reset with orders := [order 2 3] } }, by decide⟩

theorem meets_StartAndDrainAreAnswered_10 : ∃ (h : Header) (s : State), s.hearsEngine h ∧ s.ctl.st = .sweeping ∧
    s.quiet ∧ ¬ (s.sweep.active = true ∧ s.track.queue = [] ∧ s.feed.pick = none ∧ s.drive.chA.run = .stopped ∧
    s.drive.chB.run = .stopped) :=
  ⟨eng, queue_ [ghostIn 300] launching, by decide⟩

theorem meets_StartAndDrainAreAnswered_11 : ∃ (h : Header) (s : State), s.hearsEngine h ∧ s.ctl.st = .sweeping ∧
    s.quiet ∧ s.sweep.active = true ∧ s.track.queue = [] ∧ s.feed.pick = none ∧ s.drive.chA.run = .stopped ∧
    s.drive.chB.run = .stopped :=
  ⟨eng, offering { at_ 1 .sweeping with sweep := { Sweep.reset with active := true } }, by decide⟩

theorem meets_ResumePopsTheStack_1a : ∃ (h : Header) (c : Context) (s : State), s.hearsEngine h ∧ s.ctl.st = .jammed
    ∧ s.quiet ∧ s.flt.stack = [c] ∧ c.isStop = true ∧ s.flt.restartNeeded = true ∧ s.track.queue = [] ∧ s.drive.hold
    = [] ∧ (∀ k < s.scount, (s.sensor k).covered = false) ∧ s.functionActive .interlock = false :=
  ⟨eng, stopEntry, stacked [stopEntry] true (at_ 1 .jammed), by decide⟩

theorem meets_ResumePopsTheStack_1b : ∃ (h : Header) (c : Context) (s : State), s.hearsEngine h ∧ s.ctl.st = .jammed
    ∧ s.quiet ∧ s.flt.stack = [c] ∧ c.isStop = true ∧ s.flt.restartNeeded = true ∧ s.track.queue = [] ∧ s.drive.hold
    = [] ∧ (∀ k < s.scount, (s.sensor k).covered = false) ∧ s.functionActive .interlock = false :=
  ⟨eng, stopEntry, offering (stacked [stopEntry] true (at_ 1 .jammed)), by decide⟩

theorem meets_ResumePopsTheStack_2 : ∃ (h : Header) (c : Context) (s : State), s.hearsEngine h ∧ (s.ctl.st =
    .pausing ∨ s.ctl.st = .paused) ∧ s.quiet ∧ s.nothingWaits ∧ s.flt.stack = [c] ∧ c.isStop = false ∧ c.code ≠ .bin
    ∧ c.code ≠ .table ∧ c.saved = .running ∧ s.flt.restartNeeded = false :=
  ⟨eng, holdEntry, stacked [holdEntry] false (deferring (at_ 1 .paused)), by decide⟩

theorem meets_ResumePopsTheStack_3 : ∃ (h : Header) (c : Context) (rest : List Context) (s : State), s.hearsEngine h
    ∧ (s.ctl.st = .pausing ∨ s.ctl.st = .paused ∨ s.ctl.st = .jammed) ∧ s.flt.stack = c :: rest ∧ c.isStop = true ∧
    (s.track.queue ≠ [] ∨ (∃ k < s.scount, (s.sensor k).covered = true) ∨ s.functionActive .interlock = true) :=
  ⟨eng, stopEntry, [], covered 0 none false (stacked [stopEntry] true (at_ 1 .jammed)), by decide⟩

theorem meets_ResumePopsTheStack_4 : ∃ (h : Header) (s : State), s.hearsEngine h ∧ s.ctl.st ≠ .lockdown ∧ s.ctl.st ≠
    .pausing ∧ s.ctl.st ≠ .paused ∧ s.ctl.st ≠ .jammed :=
  ⟨eng, at_ 1 .running, by decide⟩

theorem meets_ResumePopsTheStack_5 : ∃ (h : Header) (c : Context) (s : State), s.hearsEngine h ∧ (s.ctl.st =
    .pausing ∨ s.ctl.st = .paused) ∧ s.quiet ∧ s.noOffers ∧ s.flt.stack = [c] ∧ c.isStop = false ∧ c.code ≠ .bin ∧
    c.code ≠ .table ∧ c.saved = .sweeping ∧ s.flt.restartNeeded = false ∧ ¬ (s.sweep.active = true ∧
    (s.sweep.lastSeen = true ∨ s.sweep.drainAsked = true) ∧ s.track.queue = [] ∧ s.feed.pick = none ∧
    s.drive.chA.run = .stopped ∧ s.drive.chB.run = .stopped) :=
  ⟨eng, { holdEntry with saved := .sweeping }, sweptOut false, by decide⟩

theorem meets_ResumePopsTheStack_6 : ∃ (h : Header) (c : Context) (s : State), s.hearsEngine h ∧ (s.ctl.st =
    .pausing ∨ s.ctl.st = .paused) ∧ s.quiet ∧ s.noOffers ∧ s.flt.stack = [c] ∧ c.isStop = false ∧ c.code ≠ .bin ∧
    c.code ≠ .table ∧ c.saved = .sweeping ∧ s.flt.restartNeeded = false ∧ s.sweep.active = true ∧ (s.sweep.lastSeen
    = true ∨ s.sweep.drainAsked = true) ∧ s.track.queue = [] ∧ s.feed.pick = none ∧ s.drive.chA.run = .stopped ∧
    s.drive.chB.run = .stopped :=
  ⟨eng, { holdEntry with saved := .sweeping }, sweptOut true, by decide⟩

theorem meets_ClearpathClearsTheSheets_1 : ∃ (h : Header) (s : State), s.hearsEngine h ∧ (s.ctl.st = .jammed ∨
    s.ctl.st = .ready) ∧ s.drive.hold = [] ∧ s.comp.op = .none ∧ s.comp.late = [] :=
  ⟨eng, queue_ [inPath 1 1 1900] (at_ 1 .jammed), by decide⟩

theorem meets_ClearpathClearsTheSheets_2 : ∃ (h : Header) (s : State), s.hearsEngine h ∧ s.ctl.st ≠ .lockdown ∧
    s.ctl.st ≠ .jammed ∧ s.ctl.st ≠ .ready :=
  ⟨eng, at_ 1 .running, by decide⟩

theorem meets_FeedAndImageAreListed_1 : ∃ (h : Header) (o : SheetFields) (s : State), s.hearsEngine h ∧ s.ctl.st ≠
    .lockdown ∧ o.tag.seq ≠ 0#6 ∧ o.side ≠ 3#2 ∧ s.quiet :=
  ⟨eng, sheet_ 4 2, at_ 0 .ready, by decide⟩

theorem meets_FeedAndImageAreListed_2 : ∃ (h : Header) (t : FrameTag) (side : Byte) (s : State), s.hearsEngine h ∧
    s.ctl.st ≠ .lockdown ∧ (side.toNat = 1 ∨ side.toNat = 2) ∧ s.role = .register ∧ s.ctl.st = .unconfigured :=
  ⟨eng, tag_ 1 1, 2, at_ 2 .unconfigured, by decide⟩

theorem meets_FeedAndImageAreListed_3 : ∃ (h : Header) (t : FrameTag) (side : Byte) (s : State), s.hearsEngine h ∧
    s.ctl.st ≠ .lockdown ∧ (side.toNat = 1 ∨ side.toNat = 2) ∧ s.role ≠ .register :=
  ⟨eng, tag_ 1 1, 1, at_ 1 .running, by decide⟩

theorem meets_FeedAndImageAreListed_4 : ∃ (h : Header) (t : FrameTag) (side : Byte) (s : State), s.hearsEngine h ∧
    s.ctl.st ≠ .lockdown ∧ (side.toNat = 1 ∨ side.toNat = 2) ∧ s.role = .register ∧ s.ctl.st ≠ .unconfigured ∧
    s.quiet ∧ (∀ r ∈ s.track.queue, r.image ≠ none → r.tag = keyOf t → r.imageSide ≠ side.toNat) :=
  ⟨eng, tag_ 1 1, 1, at_ 2 .running, by decide⟩

theorem meets_FeedAndImageAreListed_5 : ∃ (h : Header) (t : FrameTag) (side : Byte) (r : Record) (s : State),
    s.hearsEngine h ∧ s.ctl.st ≠ .lockdown ∧ (side.toNat = 1 ∨ side.toNat = 2) ∧ s.role = .register ∧ s.ctl.st ≠
    .unconfigured ∧ s.quiet ∧ s.queueSound ∧ t.set.toNat ∉ s.track.broken ∧ r ∈ s.track.queue ∧ r.tag = keyOf t ∧
    r.imageSide = side.toNat ∧ r.image = some .waiting ∧ (∃ x ∈ s.track.queue, x.tag ≠ r.tag ∧ x.image = some
    .waiting) :=
  ⟨eng, tag_ 1 1, 1, waitingSheet 1 1, queue_ [waitingSheet 1 1, waitingSheet 1 2] (at_ 2 .running), by decide⟩

theorem meets_FeedAndImageAreListed_6a : ∃ (h : Header) (t : FrameTag) (side : Byte) (r : Record) (s : State),
    s.hearsEngine h ∧ s.ctl.st ≠ .lockdown ∧ (side.toNat = 1 ∨ side.toNat = 2) ∧ s.role = .register ∧ s.ctl.st ≠
    .unconfigured ∧ s.quiet ∧ s.queueSound ∧ t.set.toNat ∉ s.track.broken ∧ r ∈ s.track.queue ∧ r.tag = keyOf t ∧
    r.imageSide = side.toNat ∧ r.image = some .waiting ∧ (∀ x ∈ s.track.queue, x.tag ≠ r.tag → x.image ≠ some
    .waiting) :=
  ⟨eng, tag_ 1 1, 1, waitingSheet 1 1, queue_ [waitingSheet 1 1] imageWaits, by decide⟩

theorem meets_FeedAndImageAreListed_6b : ∃ (h : Header) (t : FrameTag) (side : Byte) (r : Record) (s : State),
    s.hearsEngine h ∧ s.ctl.st ≠ .lockdown ∧ (side.toNat = 1 ∨ side.toNat = 2) ∧ s.role = .register ∧ s.ctl.st ≠
    .unconfigured ∧ s.quiet ∧ s.queueSound ∧ t.set.toNat ∉ s.track.broken ∧ r ∈ s.track.queue ∧ r.tag = keyOf t ∧
    r.imageSide = side.toNat ∧ r.image = some .waiting ∧ (∀ x ∈ s.track.queue, x.tag ≠ r.tag → x.image ≠ some
    .waiting) :=
  ⟨eng, tag_ 1 1, 1, waitingSheet 1 1, queue_ [waitingSheet 1 1] (at_ 2 .running), by decide⟩

theorem meets_FeedAndImageAreListed_7 : ∃ (h : Header) (t : FrameTag) (side : Byte) (r : Record) (s : State),
    s.hearsEngine h ∧ s.ctl.st ≠ .lockdown ∧ (side.toNat = 1 ∨ side.toNat = 2) ∧ s.role = .register ∧ s.ctl.st ≠
    .unconfigured ∧ s.quiet ∧ s.queueSound ∧ t.set.toNat ∉ s.track.broken ∧ r ∈ s.track.queue ∧ r.tag = keyOf t ∧
    r.imageSide = side.toNat ∧ r.image ≠ none ∧ r.image ≠ some .waiting :=
  ⟨eng, tag_ 1 1, 1, readySheet, queue_ [readySheet] (at_ 2 .running), by decide⟩

theorem meets_SweepIsTaken_1a : ∃ (h : Header) (g n o : Byte) (s : State), s.hearsEngine h ∧ s.ctl.st = .ready ∧
    s.quiet ∧ (∀ k < s.scount, s.sens.failed.getLsbD k = false) ∧ ((∀ k < s.scount, (s.sensor k).covered = false) ∧
    s.functionActive .interlock = false ∧ s.functionActive .pause = false) ∧ s.hand.slot1 = none ∧ s.hand.slot2 =
    none ∧ ¬ (o.toNat = s.ctl.address ∧ s.role = .feed) :=
  ⟨eng, 0, 1, 9, deferring (at_ 1 .ready), by decide⟩

theorem meets_SweepIsTaken_1b : ∃ (h : Header) (g n o : Byte) (s : State), s.hearsEngine h ∧ s.ctl.st = .ready ∧
    s.quiet ∧ (∀ k < s.scount, s.sens.failed.getLsbD k = false) ∧ ((∀ k < s.scount, (s.sensor k).covered = false) ∧
    s.functionActive .interlock = false ∧ s.functionActive .pause = false) ∧ s.hand.slot1 = none ∧ s.hand.slot2 =
    none ∧ ¬ (o.toNat = s.ctl.address ∧ s.role = .feed) :=
  ⟨eng, 255, 0, 10, at_ 1 .ready, by decide⟩

theorem meets_SweepIsTaken_2a : ∃ (h : Header) (g n o : Byte) (s : State), s.hearsEngine h ∧ s.ctl.st = .ready ∧
    s.quiet ∧ (∀ k < s.scount, s.sens.failed.getLsbD k = false) ∧ ((∀ k < s.scount, (s.sensor k).covered = false) ∧
    s.functionActive .interlock = false ∧ s.functionActive .pause = false) ∧ s.hand.slot1 = none ∧ s.hand.slot2 =
    none ∧ o.toNat = s.ctl.address ∧ s.role = .feed ∧ s.drive.hold = [] ∧ s.feed.pick = none ∧ s.track.queue = [] :=
  ⟨eng, 0, 1, 10, deferring (at_ 0 .ready), by decide⟩

theorem meets_SweepIsTaken_2b : ∃ (h : Header) (g n o : Byte) (s : State), s.hearsEngine h ∧ s.ctl.st = .ready ∧
    s.quiet ∧ (∀ k < s.scount, s.sens.failed.getLsbD k = false) ∧ ((∀ k < s.scount, (s.sensor k).covered = false) ∧
    s.functionActive .interlock = false ∧ s.functionActive .pause = false) ∧ s.hand.slot1 = none ∧ s.hand.slot2 =
    none ∧ o.toNat = s.ctl.address ∧ s.role = .feed ∧ s.drive.hold = [] ∧ s.feed.pick = none ∧ s.track.queue = [] :=
  ⟨eng, 1, 1, 10, at_ 0 .ready, by decide⟩

theorem meets_SweepIsTaken_3 : ∃ (h : Header) (g n o : Byte) (s : State), s.hearsEngine h ∧ s.ctl.st ≠ .lockdown ∧
    s.ctl.st ≠ .ready :=
  ⟨eng, 5, 0, 10, at_ 1 .running, by decide⟩

theorem meets_SweepIsTaken_4 : ∃ (h : Header) (g n o : Byte) (s : State), s.hearsEngine h ∧ s.ctl.st = .ready ∧ (∃ k
    < s.scount, s.sens.failed.getLsbD k = true) :=
  ⟨eng, 5, 0, 10, { at_ 1 .ready with sens := { (at_ 1 .ready).sens with failed := 16#6 } }, by decide⟩

theorem meets_SweepIsTaken_5 : ∃ (h : Header) (g n o : Byte) (s : State), s.hearsEngine h ∧ s.ctl.st = .ready ∧ (∀ k
    < s.scount, s.sens.failed.getLsbD k = false) ∧ ¬ ((∀ k < s.scount, (s.sensor k).covered = false) ∧
    s.functionActive .interlock = false ∧ s.functionActive .pause = false) :=
  ⟨eng, 5, 0, 10, covered 4 none false (at_ 1 .ready), by decide⟩

theorem meets_SweepIsTaken_6a : ∃ (s : State) (k : Fin 6), s.ctl.resetLow = false ∧ s.ctl.st = .sweeping ∧ k.val <
    s.scount ∧ s.quiet ∧ (s.sensor k).covered = false :=
  ⟨at_ 1 .sweeping, 4, by decide⟩

theorem meets_SweepIsTaken_6b : ∃ (s : State) (k : Fin 6), s.ctl.resetLow = false ∧ s.ctl.st = .sweeping ∧ k.val <
    s.scount ∧ s.quiet ∧ (s.sensor k).covered = false :=
  ⟨queue_ [ghostAt 1900] (at_ 1 .sweeping), 1, by decide⟩

theorem meets_SweepIsTaken_7 : ∃ (s : State) (r : Record), s.role = .exit ∧ s.sweep.active = true ∧ r.marks.ghost =
    true ∧ r.route ≠ none ∧ (s.sweep.results.synced = true ∨ s.sweep.results.firstExpected = none) :=
  ⟨checking, { ghostAt 2000 with route := some .alt }, by decide⟩

theorem meets_QueryIsAnswered_1 : ∃ (h : Header) (clear : Bool) (s : State), s.hearsEngine h :=
  ⟨eng, true, at_ 1 .lockdown, by decide⟩

theorem meets_QueryIsAnswered_2 : ∃ (h : Header) (clear : Bool) (s : State), s.hearsEngine h :=
  ⟨eng, true, at_ 1 .lockdown, by decide⟩

theorem meets_QueryIsAnswered_3 : ∃ (h : Header) (clear : Bool) (s : State), s.hearsEngine h :=
  ⟨eng, true, at_ 1 .lockdown, by decide⟩

theorem meets_QueryIsAnswered_4 : ∃ (h : Header) (clear : Bool) (s : State), s.hearsEngine h :=
  ⟨eng, true, at_ 1 .lockdown, by decide⟩

theorem meets_QueryIsAnswered_5 : ∃ (h : Header) (clear : Bool) (s : State), s.hearsEngine h :=
  ⟨eng, true, at_ 1 .lockdown, by decide⟩

theorem meets_QueryIsAnswered_6 : ∃ (h : Header) (q : BitVec 3) (clear : Bool) (s : State), s.ctl.st = .selftest :=
  ⟨eng, 5, true, State.reset, by decide⟩

theorem meets_QueryIsAnswered_7 : ∃ (h : Header) (q : BitVec 3) (clear : Bool) (s : State), s.hearsFrom h ∧
    h.src.toNat ≠ s.engAddr ∧ q.toNat ≤ 4 :=
  ⟨up, 4, true, at_ 1 .lockdown, by decide⟩

theorem meets_TransmitQueueOrder_1 : ∃ (p : Port) (f : Frame), p.tx.Pairwise (fun a b => a.cls ≤ b.cls) :=
  ⟨(next_ txFull).port, ⟨1, .ready⟩, by decide⟩

theorem meets_GateMovesToServeItsList_1 : ∃ (s : State) (t : Tag) (rest : List Tag) (r : Record) (route : Route),
    s.gate.list = t :: rest ∧ s.rec? t = some r ∧ r.route = some route ∧ s.gate.move = .none :=
  ⟨gateFor .alt, ⟨1, 1⟩, [], routed 1 1 .alt, .alt, by decide⟩

theorem meets_GateMovesToServeItsList_2 : ∃ (s : State) (target : Route), s.gate.move = .waiting target :=
  ⟨{ at_ 3 .running with gate := { Gate.reset with move := .waiting .alt } }, .alt, by decide⟩

theorem meets_GateMovesToServeItsList_3 : ∃ (s : State) (k : Nat) (ch : Channel) (target : Route) (travel : Nat),
    s.gateSensor = some k ∧ s.gate.move = .moving target travel :=
  ⟨{ at_ 3 .running with gate := { Gate.reset with output := .alt, move := .moving .alt 0 } }, 1, .a, .alt, 0, by decide⟩

theorem meets_GateMovesToServeItsList_4 : ∃ (s : State) (r : Record), s.role = .invert ∧ r.route = some
    s.gate.position ∧ s.rec? r.tag = some r :=
  ⟨gateFor .main, routed 1 1 .main, by decide⟩

theorem meets_GateMovesToServeItsList_5a : ∃ (s : State) (r : Record) (route : Route), s.role = .invert ∧
    s.ctl.st.faultsPend = true ∧ r.route = some route ∧ route ≠ s.gate.position ∧ s.queueSound ∧ r ∈ s.track.queue ∧
    r.marks.ghost = false ∧ r.tag.set ∉ s.track.broken ∧ (∀ x ∈ s.track.queue, x.image ≠ some .waiting) ∧ s.ownHolds
    .imageWait = false :=
  ⟨gateFor .alt, routed 1 1 .alt, .alt, by decide⟩

theorem meets_GateMovesToServeItsList_5b : ∃ (s : State) (r : Record) (route : Route), s.role = .invert ∧
    s.ctl.st.faultsPend = true ∧ r.route = some route ∧ route ≠ s.gate.position ∧ s.queueSound ∧ r ∈ s.track.queue ∧
    r.marks.ghost = false ∧ r.tag.set ∉ s.track.broken ∧ (∀ x ∈ s.track.queue, x.image ≠ some .waiting) ∧ s.ownHolds
    .imageWait = false :=
  ⟨{ gateFor .main with gate := { Gate.reset with position := .alt, list := [⟨1, 1⟩] } }, routed 1 1 .main, .main, by decide⟩

theorem meets_GateMovesToServeItsList_6a : ∃ (s : State) (r : Record) (k : Nat), s.role = .invert ∧ s.gateSensor =
    some k ∧ s.queueSound ∧ r ∈ s.track.queue ∧ r.dir = .forward ∧ r.route = none ∧ r.reached.decision = false :=
  ⟨queue_ [{ inPath 1 1 2000 with side := .first }] (at_ 3 .running), { inPath 1 1 2000 with side := .first }, 1, by decide⟩

theorem meets_GateMovesToServeItsList_6b : ∃ (s : State) (r : Record) (k : Nat), s.role = .invert ∧ s.gateSensor =
    some k ∧ s.queueSound ∧ r ∈ s.track.queue ∧ r.dir = .forward ∧ r.route = none ∧ r.reached.decision = false :=
  ⟨queue_ [inPath 1 1 2000] (at_ 3 .running), inPath 1 1 2000, 1, by decide⟩

theorem meets_GateMovesToServeItsList_6c : ∃ (s : State) (r : Record) (k : Nat), s.role = .invert ∧ s.gateSensor =
    some k ∧ s.queueSound ∧ r ∈ s.track.queue ∧ r.dir = .forward ∧ r.route = none ∧ r.reached.decision = false :=
  ⟨queue_ [inPath 1 1 1000] (at_ 3 .running), inPath 1 1 1000, 1, by decide⟩

theorem meets_ReversalTurnsTheLoopRecord_1 : ∃ (s : State) (r : Record) (v : Nat), s.role = .invert ∧ s.inv.seq =
    .stopping ∧ s.drive.chB.run = .stopped ∧ s.inv.loop = some r.tag ∧ s.queueSound ∧ r ∈ s.track.queue ∧
    s.invertSensor = some v :=
  ⟨returns .stopping, turned, 3, by decide⟩

theorem meets_ReversalTurnsTheLoopRecord_2a : ∃ (s : State) (k : Fin 6) (r : Record), s.ctl.resetLow = false ∧
    s.ctl.st.checks = true ∧ s.role = .invert ∧ s.quiet ∧ k.val < s.scount ∧ s.invertSensor = some k.val ∧ (s.sensor
    k).covered = true ∧ s.track.queue = [r] ∧ (s.sensor k).owner = some r.tag ∧ r.dir = .forward ∧ r.route = some
    .alt ∧ s.inv.seq = .filling ∧ s.inv.loop = some r.tag ∧ ((s.sensor k).confirmed = true → r.length - s.tLen ≤
    (r.odo - (s.sensor k).latch) / 256) :=
  ⟨covered 3 (some ⟨1, 1⟩) true (returns .filling), 3, turned, by decide⟩

theorem meets_ReversalTurnsTheLoopRecord_2b : ∃ (s : State) (k : Fin 6) (r : Record), s.ctl.resetLow = false ∧
    s.ctl.st.checks = true ∧ s.role = .invert ∧ s.quiet ∧ k.val < s.scount ∧ s.invertSensor = some k.val ∧ (s.sensor
    k).covered = true ∧ s.track.queue = [r] ∧ (s.sensor k).owner = some r.tag ∧ r.dir = .forward ∧ r.route = some
    .alt ∧ s.inv.seq = .filling ∧ s.inv.loop = some r.tag ∧ ((s.sensor k).confirmed = true → r.length - s.tLen ≤
    (r.odo - (s.sensor k).latch) / 256) :=
  ⟨covered 3 (some ⟨1, 1⟩) false (returns .filling), 3, turned, by decide⟩

theorem meets_ReversalTurnsTheLoopRecord_3 : ∃ (s : State) (r : Record) (v : Nat), s.role = .invert ∧ s.inv.seq =
    .filling ∧ s.inv.loop = some r.tag ∧ s.rec? r.tag = some r ∧ r.dir = .forward ∧ s.invertSensor = some v :=
  ⟨returns .filling, turned, 3, by decide⟩

theorem meets_ReversalTurnsTheLoopRecord_4 : ∃ s : State, s.role = .invert ∧ s.inv.seq = .runout :=
  ⟨returns .runout, by decide⟩

theorem meets_ReversalTurnsTheLoopRecord_5 : ∃ (h : Header) (t : FrameTag) (r : Record) (o : Offer) (s : State),
    s.hearsDownstream h ∧ s.ctl.st = .running ∧ s.role = .invert ∧ s.quiet ∧ s.track.queue = [r] ∧ r.tag = keyOf t ∧
    r.place = .exiting ∧ r.route = some .alt ∧ r.marks.ghost = false ∧ s.downstream r = h.src.toNat ∧ s.trailOut r =
    true ∧ s.inv.loop = some r.tag ∧ s.gate.move = .none ∧ s.gate.list = [] ∧ s.gate.occupant = none ∧ s.ownHolds
    .imageWait = false ∧ s.drive.hold = [] ∧ s.hand.slot1 = some o ∧ s.hand.slot2 = none ∧ o.marks.ghost = false ∧
    o.marks.broken = false ∧ o.tag.set ∉ s.track.broken :=
  ⟨⟨12, 10⟩, tag_ 1 1, backOut, loopOffer, returned, by decide⟩

theorem meets_ReversalTurnsTheLoopRecord_6a : ∃ (s : State) (r : Record), s.role = .invert ∧ s.queueSound ∧ r ∈
    s.track.queue ∧ r.dir = .reverse ∧ s.inv.loop = some r.tag ∧ s.inv.seq = .returning ∧ r.reached.revStop = false
    :=
  ⟨{ returns .returning with track := { Track.reset with queue := [{ turned with dir := .reverse, lead := 5082 * 256, stage := .offered }] } }, { turned with dir := .reverse, lead := 5082 * 256, stage := .offered }, by decide⟩

theorem meets_ReversalTurnsTheLoopRecord_6b : ∃ (s : State) (r : Record), s.role = .invert ∧ s.queueSound ∧ r ∈
    s.track.queue ∧ r.dir = .reverse ∧ s.inv.loop = some r.tag ∧ s.inv.seq = .returning ∧ r.reached.revStop = false
    :=
  ⟨{ returns .returning with track := { Track.reset with queue := [{ turned with dir := .reverse, lead := 5082 * 256, stage := .taken 12 }] } }, { turned with dir := .reverse, lead := 5082 * 256, stage := .taken 12 }, by decide⟩

theorem meets_ReversalTurnsTheLoopRecord_7a : ∃ (s : State) (r : Record), s.role = .invert ∧ s.queueSound ∧ r ∈
    s.track.queue ∧ r.dir = .reverse ∧ r.reached.revExit = false ∧ r.lead / 256 ≤ s.aExit ∧ s.drive.hold = [] ∧ r.stage =
    .taken (s.downstream r) ∧ s.ctl.st.steps = true :=
  ⟨queue_ [backTo 12] (at_ 3 .running), backTo 12, by decide⟩

theorem meets_ReversalTurnsTheLoopRecord_7b : ∃ (s : State) (r : Record), s.role = .invert ∧ s.queueSound ∧ r ∈
    s.track.queue ∧ r.dir = .reverse ∧ r.reached.revExit = false ∧ r.lead / 256 ≤ s.aExit ∧ s.drive.hold = [] ∧ r.stage ≠
    .taken (s.downstream r) ∧ s.ctl.st.steps = true :=
  ⟨queue_ [backTo 11] (at_ 3 .running), backTo 11, by decide⟩

theorem meets_ReversalTurnsTheLoopRecord_7c : ∃ (s : State) (r : Record), s.role = .invert ∧ s.queueSound ∧ r ∈
    s.track.queue ∧ r.dir = .reverse ∧ r.reached.revExit = false ∧ r.lead / 256 ≤ s.aExit ∧ s.drive.hold = [] ∧ r.stage =
    .taken (s.downstream r) ∧ s.ctl.st.steps = false :=
  ⟨queue_ [backTo 12] (at_ 3 .jammed), backTo 12, by decide⟩

theorem meets_RouteRuleAtTheExit_1 : ∃ (r : Record) (s : State), (r.marks.broken = true ∨ r.marks.spoiled = true ∨
    r.marks.ghost = true ∨ r.marks.misrouted = true) :=
  ⟨{ inPath 1 1 1900 with marks := { Marks.none with misrouted := true } }, at_ 4 .running, by decide⟩

theorem meets_RouteRuleAtTheExit_2a : ∃ (r : Record) (s : State), r.marks = Marks.none ∧ ((s.comp.routedSet = none ∧
    r.tag.seq = 1) ∨ (s.comp.routedSet = some r.tag.set ∧ r.tag.seq = s.comp.routedNext)) :=
  ⟨inPath 1 1 1900, at_ 4 .running, by decide⟩

theorem meets_RouteRuleAtTheExit_2b : ∃ (r : Record) (s : State), r.marks = Marks.none ∧ ((s.comp.routedSet = none ∧
    r.tag.seq = 1) ∨ (s.comp.routedSet = some r.tag.set ∧ r.tag.seq = s.comp.routedNext)) :=
  ⟨inPath 1 2 1900, routedTo 1 2, by decide⟩

theorem meets_RouteRuleAtTheExit_3a : ∃ (r : Record) (s : State), r.marks = Marks.none ∧ s.ctl.st.faultsPend = true
    ∧ s.flt.pendingOf .sequence = none ∧ ((s.comp.routedSet = none ∧ r.tag.seq ≠ 1) ∨ (s.comp.routedSet = some
    r.tag.set ∧ r.tag.seq ≠ s.comp.routedNext)) :=
  ⟨inPath 1 2 1900, at_ 4 .running, by decide⟩

theorem meets_RouteRuleAtTheExit_3b : ∃ (r : Record) (s : State), r.marks = Marks.none ∧ s.ctl.st.faultsPend = true
    ∧ s.flt.pendingOf .sequence = none ∧ ((s.comp.routedSet = none ∧ r.tag.seq ≠ 1) ∨ (s.comp.routedSet = some
    r.tag.set ∧ r.tag.seq ≠ s.comp.routedNext)) :=
  ⟨inPath 1 3 1900, routedTo 1 2, by decide⟩

theorem meets_RouteRuleAtTheExit_4 : ∃ (r : Record) (s : State) (c : Nat), r.marks = Marks.none ∧
    s.ctl.st.faultsPend = true ∧ s.flt.pendingOf .sequence = none ∧ s.comp.routedSet = some c ∧ c ≠ r.tag.set ∧ c ∉
    s.track.broken :=
  ⟨inPath 2 1 1900, routedTo 1 2, 1, by decide⟩

theorem meets_ImageDecisionAndSync_1 : ∃ (s : State) (r : Record), s.queueSound ∧ r ∈ s.track.queue ∧ (r.marks.ghost
    = true ∨ r.marks.broken = true ∨ r.marks.spoiled = true ∨ { tag := r.tag, side := if r.side = .second then 2
    else 1 } ∈ s.reg.images) :=
  ⟨{ queue_ [inPath 1 1 3000] (at_ 2 .running) with reg := { Registration.reset with images := [⟨⟨1, 1⟩, 1⟩] } }, inPath 1 1 3000, by decide⟩

theorem meets_ImageDecisionAndSync_2a : ∃ (s : State) (r : Record), s.queueSound ∧ r ∈ s.track.queue ∧ r.marks =
    Marks.none ∧ { tag := r.tag, side := if r.side = .second then 2 else 1 } ∉ s.reg.images ∧ (∀ x ∈ s.track.queue,
    x.image ≠ some .waiting) :=
  ⟨queue_ [inPath 1 1 3000] (at_ 2 .running), inPath 1 1 3000, by decide⟩

theorem meets_ImageDecisionAndSync_2b : ∃ (s : State) (r : Record), s.queueSound ∧ r ∈ s.track.queue ∧ r.marks =
    Marks.none ∧ { tag := r.tag, side := if r.side = .second then 2 else 1 } ∉ s.reg.images ∧ (∀ x ∈ s.track.queue,
    x.image ≠ some .waiting) :=
  ⟨moving 2 [inPath 1 1 3000], inPath 1 1 3000, by decide⟩

theorem meets_ImageDecisionAndSync_3 : ∃ (s : State) (r : Record), s.queueSound ∧ r ∈ s.track.queue ∧ r.image = some
    .ready :=
  ⟨queue_ [readySheet] (at_ 2 .running), readySheet, by decide⟩

theorem meets_ImageDecisionAndSync_4 : ∃ (s : State) (r : Record), (r.image = some .printed ∨ r.image = some
    .skipped) :=
  ⟨at_ 2 .running, { readySheet with image := some .printed }, by decide⟩

theorem meets_ImageDecisionAndSync_6 : ∃ (s : State) (r : Record) (k before : Nat), s.queueSound ∧ r ∈ s.track.queue
    ∧ r.marks = Marks.none ∧ r.image = none ∧ { tag := r.tag, side := if r.side = .second then 2 else 1 } ∉
    s.reg.images ∧ (∀ x ∈ s.track.queue, x.image ≠ some .waiting) ∧ s.regSensor = some k ∧ s.spos k + s.syncD ≤
    before ∧ s.drive.hold = [] :=
  ⟨moving 2 [inPath 1 1 3000], inPath 1 1 3000, 2, 9000, by decide⟩

theorem meets_SentFramesReadBack_7 : ∃ (s : State) (h : Header) (o : SheetFields), o.side ≠ 3#2 :=
  ⟨at_ 1 .running, up, sheet_ 4 2, by decide⟩

theorem meets_SentFramesReadBack_10 : ∃ (s : State) (h : Header) (start : BitVec 7) (m : Bool) (vs : List Half),
    vs.length ≤ 3 :=
  ⟨at_ 1 .running, eng, 127, true, [1, 2, 3], by decide⟩

theorem meets_SentFramesReadBack_12 : ∃ (s : State) (h : Header) (o : SheetFields), o.side ≠ 3#2 :=
  ⟨at_ 1 .running, eng, sheet_ 4 2, by decide⟩

theorem meets_FramesInSelftestAndLockdown_1 : ∃ (c : Instr) (s : State), s.ctl.st = .selftest ∧
    (c.header?.isSome = true ∨ ∃ l, c = .frameError l) :=
  ⟨.frameError [], State.reset, by decide, .inr ⟨[], rfl⟩⟩

theorem meets_FramesInSelftestAndLockdown_2 : ∃ (c : Instr) (s : State), s.ctl.st = .lockdown ∧
    c.header?.isSome = true ∧ (∀ h a r, c ≠ .restart h a r) ∧ (∀ h q b, c ≠ .query h q b) :=
  ⟨.start eng, at_ 1 .lockdown, by decide, by decide, nofun, nofun⟩

theorem meets_FramesInSelftestAndLockdown_4 : ∃ (c : Instr) (rest : List Instr) (s : State), s.ctl.st = .lockdown ∧
    s.ctl.resetLow = false ∧ (∀ h a r, c ≠ .restart h a r) ∧ (∀ h q b, c ≠ .query h q b) ∧ s.pending = [] ∧
    s.port.rx = c :: rest :=
  ⟨.start eng, [], buffered [.start eng] (at_ 1 .lockdown), by decide, by decide, nofun, nofun, by decide, by decide⟩

theorem meets_HeldInResetNothingHappens_1 : ∃ (c : Instr) (s : State), s.ctl.resetLow = true ∧
    (∀ a r, c ≠ .fullReset a r) ∧ c ≠ .resetPinHeldLow :=
  ⟨.leadEdge 5, after .resetPinHeldLow (at_ 1 .running), by decide, nofun, by decide⟩

theorem meets_ParametersStandOutsideConfiguration_1 : ∃ (c : Instr) (s t : State), exec c s = .next t ∧
    (∀ a r, c ≠ .fullReset a r) ∧ s.ctl.st ≠ .unconfigured ∧ s.ctl.st ≠ .ready :=
  ⟨.configure eng 0 false [2], at_ 1 .running, after (.configure eng 0 false [2]) (at_ 1 .running), rfl, nofun,
    by decide, by decide⟩

theorem meets_ParametersStandOutsideConfiguration_2 : ∃ s t : State, s.pending = [] ∧ step s = .next t ∧
    s.ctl.st ≠ .unconfigured ∧ s.ctl.st ≠ .ready :=
  ⟨buffered [.configure eng 0 false [2]] (at_ 1 .running), next_ (buffered [.configure eng 0 false [2]] (at_ 1 .running)),
    by decide, rfl, by decide, by decide⟩

theorem meets_OwnReasonsComeAndGo_4 : ∃ (s : State) (r : OwnReason) (e : HoldEntry), s.holdSound ∧
    e ∈ s.drive.hold ∧ e.origin = s.ctl.address ∧ r.holdsIn e.own = true ∧
    (∀ r', r' ≠ r → r'.holdsIn e.own = false) :=
  ⟨holds [10] (at_ 1 .running), .handoffWait, entry 10, by decide, by decide, by decide, by decide,
    fun r' _ => by cases r' <;> first | rfl | contradiction⟩

theorem meets_SentFramesReadBack_8 : ∃ b : FrameBody, (∀ upper l, b = .statusFaults upper l → l.length = 8) ∧
    (∀ l, b = .statusBus l → l.length = 6) :=
  ⟨.ready, nofun, nofun⟩

theorem meets_SentFramesReadBack_9 : ∃ f : Frame, (∀ upper l, f.body = .statusFaults upper l → l.length = 8) ∧
    (∀ l, f.body = .statusBus l → l.length = 6) :=
  ⟨⟨11, .ready⟩, nofun, nofun⟩

/-- The GO of origin 4 from 9 to 10: the last five bits of its check are equal, so a bit is inserted after them (R178). -/
def endsInFive : RxFrame := good 1 3 9 10 [4]

/-- The levels of that frame before those five and the inserted bit. -/
def beforeFive : List Bool := (onLine endsInFive).take ((onLine endsInFive).length - 14)

theorem meets_FrameErrorsAreCounted_12 : ∃ b : Bool,
    insertBits true 0 (false :: (fieldBits 1 3 ⟨9, 10⟩ [4] ++ bitsOf endsInFive.check)) =
      beforeFive ++ List.replicate 5 b ++ [!b] := by decide +kernel

/-- The frame is taken as it is sent; with a sixth equal level in place of the inserted bit it is a framing error, and the
check error counter counts it (R178). -/
theorem test_sixth_level_after_the_check : RxFrame.ofLevels (onLine endsInFive) = some endsInFive ∧
    ∃ b : Bool, (onLine endsInFive).drop beforeFive.length = List.replicate 5 b ++ (!b) :: List.replicate 8 true ∧
      (after (.frameError (beforeFive ++ List.replicate 6 b ++ List.replicate 8 true)) (at_ 1 .running)).port.checkErrors
        = 1 := by decide +kernel

/-- An OFFER of side 3, a DEFER of reason 4, an IMAGE of side 0 and a QUERY of selector 5. -/
theorem meets_FrameErrorsAreCounted_7 : ∀ f ∈ [good 2 0 9 10 [0, 1, 1, 3, 0, 8, 52], good 2 2 11 10 [0, 1, 1, 4],
      good 3 7 1 10 [0, 1, 1, 0], good 3 9 1 10 [5]],
    RxFrame.ofLevels (onLine f) = some f ∧ f.check = checkOf (fieldBits f.cls f.kind f.hdr f.payload) ∧
      f.hdr.src.toNat ≠ (at_ 1 .running).ctl.address ∧ f.hdr.dst.toNat = (at_ 1 .running).ctl.address ∧
      (at_ 1 .running).port.rx.length < 2 := by decide +kernel

/-- A JOIN and a SYNC of side 1 reach the test of their sender. -/
theorem meets_FrameErrorsAreCounted_8 : ∀ f ∈ [good 5 8 9 63 [0, 0, 0], good 4 0 9 63 [0, 1, 1, 1]],
    RxFrame.ofLevels (onLine f) = some f ∧ f.check = checkOf (fieldBits f.cls f.kind f.hdr f.payload) ∧
      f.hdr.src.toNat ≠ (at_ 1 .running).ctl.address ∧ f.hdr.dst.toNat = 63 ∧
      (at_ 1 .running).port.rx.length < 2 := by decide +kernel

theorem meets_FrameErrorsAreCounted_11a : ∃ (c : Instr) (h : Header) (s : State), c.header? = some h ∧
    sound c = true ∧ s.hearsFrom h ∧ ¬ s.maySend c :=
  ⟨.start up, up, at_ 1 .running, by decide, by decide, by decide, fun h => absurd (show up.src.toNat = 1 from h) (by decide)⟩

theorem meets_FrameErrorsAreCounted_11b : ∃ (c : Instr) (h : Header) (s : State), c.header? = some h ∧
    sound c = true ∧ s.hearsFrom h ∧ handoffKind c = true ∧ s.ctl.st = .unconfigured :=
  ⟨.ready dn, dn, at_ 1 .unconfigured, by decide⟩

theorem meets_FrameErrorsAreCounted_11c : ∃ (c : Instr) (h : Header) (s : State), c.header? = some h ∧
    sound c = true ∧ s.hearsFrom h ∧ (∃ i m v, c = .configure h i m v) ∧ s.ctl.st ≠ .unconfigured ∧
    s.ctl.st ≠ .ready :=
  ⟨.configure eng 0 false [], eng, at_ 1 .running, by decide, by decide, by decide, ⟨0, false, [], rfl⟩, by decide,
    by decide⟩

/-! ### WellFormed refuses what no line that follows R178 and R181 brings -/

theorem test_wf_source_0 : (Instr.ready ⟨0, 10⟩).wf = false := by decide
theorem test_wf_source_63 : (Instr.ready ⟨63, 10⟩).wf = false := by decide
theorem test_wf_destination_0 : (Instr.start ⟨1, 0⟩).wf = false := by decide
theorem test_wf_sequence_0 : (Instr.take dn (tag_ 7 0)).wf = false := by decide
theorem test_wf_side_3 : (Instr.offer up { sheet_ 7 1 with side := 3 }).wf = false := by decide
theorem test_wf_halt_code_16 : (Instr.halt up 16).wf = false := by decide
theorem test_wf_hold_origin_0 : (Instr.hold up 0).wf = false := by decide
theorem test_wf_go_origin_63 : (Instr.go up 63).wf = false := by decide
theorem test_wf_defer_reason_4 : (Instr.defer dn (tag_ 7 1) 4).wf = false := by decide
theorem test_wf_configure_4_values : (Instr.configure eng 0 false [1, 2, 3, 4]).wf = false := by decide
theorem test_wf_image_side_0 : (Instr.image eng (tag_ 7 1) 0).wf = false := by decide
theorem test_wf_image_side_3 : (Instr.image eng (tag_ 7 1) 3).wf = false := by decide
theorem test_wf_query_selector_5 : (Instr.query eng 5 false).wf = false := by decide
theorem test_wf_no_start_bit : (Instr.frameError [true, false]).wf = false := by decide

/-- What stands at the ends of the ranges is well formed. -/
theorem test_wf_ends : (Instr.halt ⟨62, 63⟩ 15).wf = true ∧ (Instr.hold ⟨1, 1⟩ 62).wf = true ∧
    (Instr.defer dn (tag_ 0 63) 3).wf = true ∧ (Instr.image eng (tag_ 65535 1) 2).wf = true ∧
    (Instr.configure eng 127 true [65535, 0, 1]).wf = true ∧ (Instr.query eng 4 true).wf = true := by decide

/-! ### The spec's worked figures -/

/-- A parameter table with these indices set. -/
def with_ (l : List (Nat × Nat)) : List Nat := l.foldl (fun p v => p.set v.1 v.2) paramDefaults

/-- A station of this address, role strap and state with this table and this stop point. -/
def station (address strap : Nat) (st : StationState) (params : List Nat) (stopPoint : Nat) : State :=
  { at_ strap st with
    ctl := { Control.reset address strap with st := st, selftest := false }
    cfg := { ConfigStore.reset with params := params, stopPoint := stopPoint } }

/-- spec 02, "a forward window": station 20, sensor 0 at 600, sensor 1 at 1850, STEPA 130, TEARLY 15, TLATE 30,
SLIP 20, and a channel A that moves. -/
def forwardCase (lead : Nat) : State :=
  let s := station 20 1 .running
    (with_ [(1, 10), (2, 11), (3, 30), (5, 2), (6, 600), (7, 1850), (30, 3200), (35, 130), (51, 15), (52, 30), (53, 20)])
    3118
  { s with
    drive := { s.drive with chA := { Chan.reset with run := .atSpeed, ramp := 64, period := 400 } }
    track := { s.track with queue := [{ freshRecord (offer 4102 1) .inside .up1 (some 1) 0 with
      lead := lead, odo := lead, ref := 600, window := some ⟨1835, 1905⟩
      reached := { Reached.none with entry := true, offer := true } }] } }

def head (s : State) : Option Record := s.track.queue.head?

theorem test_forward_window : (forwardCase 0).windowAt .forward 600 1 = ⟨1835, 1905⟩ := by decide +kernel

/-- The 2,571st step brings the lead to L and raises nothing; the 2,572nd raises MISS. -/
theorem test_step_at_late_limit :
    (head (after (.step .a) (forwardCase 487700))).map Record.lead = some 487830 ∧
      (after (.step .a) (forwardCase 487700)).flt.pending = [] := by decide +kernel

theorem test_step_beyond_late_limit :
    (after (.step .a) (forwardCase 487830)).flt.pending.map (fun q => (q.code, q.position, q.sensor)) =
      [(.miss, some 1906, some 1)] := by decide +kernel

/-- A lead edge after the 2,470th step corrects the lead to the sensor and records the correction of 4. -/
theorem test_lead_edge_confirms :
    (head (after (.leadEdge 1) (forwardCase 474700))).map (fun r => (r.lead, r.ref, r.worst)) =
      some (473600, 1850, 4) := by decide

/-- spec 02, "a sensor covered ahead of a sheet": EARLY at 1700, and the record stands as it stood. -/
theorem test_lead_edge_early :
    (after (.leadEdge 1) (forwardCase 435310)).flt.pending.map (fun q => (q.code, q.position, q.sensor)) =
        [(.early, some 1700, some 1)] ∧
      (head (after (.leadEdge 1) (forwardCase 435310))).map Record.lead = some 435310 := by decide

/-- R69, R73, R104: DN1 took the sheet before it was routed ALT, so DN2 is offered it and the sequence waits. -/
theorem test_reversal_pass_needs_take_of_dn2 :
    let t := settleReversal (stopping 11 .running)
    t.port.tx.map (fun e => (e.frame.dst, match e.frame.body with | .offer _ => true | _ => false)) = [(12, true)] ∧
      t.track.queue.map (fun r => (r.place, r.stage)) = [(.inside, .offered)] ∧ t.inv.seq = .returnWait := by decide

/-- R90: in JAMMED the reversal re-bases the record past AEXIT and sends no PASS. -/
theorem test_no_pass_leaves_jammed :
    let t := settleReversal (stopping 12 .jammed)
    t.port.tx = [] ∧ t.track.queue.map (fun r => (r.place, r.dir, r.lead)) = [(.inside, .reverse, 4600 * 256)] := by
  decide

/-- spec 02, "a reverse window at the inverter". -/
theorem test_reverse_window :
    (station 40 3 .running (with_ [(5, 4), (9, 5200), (51, 15), (52, 30), (53, 20)]) 0).windowAt .reverse 5290 3 =
      ⟨5215, 5168⟩ := by decide

/-- spec 03, "ramp periods and timing". -/
theorem test_ramp_table : (List.range 9).map (rampPeriod 4000 500 8) =
    [4000, 3563, 3125, 2688, 2250, 1813, 1375, 938, 500] := by decide

/-- spec 03, the same case, demand lost at ramp index 3: the last step of the ramp-down stops the channel, which ramps
up again at once. -/
theorem test_step_ends_ramp_down :
    let s := forwardCase 153600
    let t := after (.step .a) { s with
      cfg := { s.cfg with params := (s.cfg.params.set 39 500).set 47 4000 |>.set 49 8 }
      drive := { s.drive with chA := { Chan.reset with run := .rampDown, ramp := 1, period := 4000 } } }
    (t.drive.chA.run, t.drive.chA.ramp, t.drive.chA.period) = (.rampUp, 0, 3563) := by decide +kernel

/-- spec 11, "configuring station 20": three frames. -/
def configured : State :=
  after (.configure ⟨1, 20⟩ 5 true [2, 150, 1850])
    (after (.configure ⟨1, 20⟩ 127 false [30, 0, 5000])
      (after (.configure ⟨1, 20⟩ 0 false [1, 10, 11]) (station 20 1 .unconfigured paramDefaults 0)))

theorem test_configure_refused :
    (configured.cfg.index, configured.cfg.clamps, configured.ctl.st) = (8, 1, .unconfigured) ∧
      configured.port.tx.map (fun e => (e.frame.dst, match e.frame.body with
        | .status st => (st.reason, st.failing)
        | _ => (.none, none))) = [(1, (.config, some 30))] := by decide

theorem test_configure_passes :
    let t := after (.configure ⟨1, 20⟩ 30 true [3200]) configured
    (t.ctl.st, t.cfg.stopDistance, t.cfg.stopPoint) = (.ready, 32, 3118) := by decide

/-- spec 01, "two sheets through station 20". -/
def station20 (l : List Record) : State :=
  queue_ l (station 20 1 .running (with_ [(1, 10), (2, 11), (3, 30), (5, 1), (6, 150), (30, 3200)]) 3118)

def first : SheetFields := { sheet_ 4102 1 with side := 1, length := 2794 }

theorem test_offer_taken :
    let t := after (.offer ⟨10, 20⟩ first) (station20 [])
    t.track.queue.map (fun r => (r.tag, r.place, r.source, r.stage)) =
        [(⟨4102, 1⟩, .expected, .up1, .notOffered)] ∧
      t.port.tx.map TxEntry.frame = [⟨10, .take ⟨4102, 1⟩ false⟩] := by decide

theorem test_pass_enters :
    let t := after (.pass ⟨10, 20⟩ (tag_ 4102 1))
      (station20 [freshRecord (offerOf first) .expected .up1 none 0])
    t.track.queue.map (fun r => (r.place, r.lead, r.next)) = [(.entering, 0, some 0)] := by decide

theorem test_offer_waits_at_entry :
    let t := after (.offer ⟨11, 20⟩ (sheet_ 4102 2))
      (station20 [freshRecord (offerOf first) .entering .up1 (some 0) 0])
    t.hand.slot2 = some (offer 4102 2) ∧ t.port.tx = [] := by decide

theorem test_take_marks :
    (after (.take ⟨30, 20⟩ (tag_ 4102 1)) (station20 [offered 4102 1 2900])).track.queue.map Record.stage = [.taken 30] := by
  decide

/-- spec 05, "contested merges at station 30": STREAK 2, SECONDARY, streak count 2. -/
theorem test_merge_streak :
    let t := after .slotExamination
      { station 30 1 .running (with_ [(1, 20), (2, 50), (3, 40), (65, 1), (66, 2)]) 0 with
        hand := { Handoff.reset with
          slot1 := some (offer 4103 1), slot2 := some (offer 4100 3), lastSide := some .up2, streak := 2 } }
    t.port.tx.map TxEntry.frame = [⟨20, .take ⟨4103, 1⟩ false⟩] ∧ (t.hand.lastSide, t.hand.streak) = (some .up1, 1) := by
  decide

/-- spec 03, "a hold round the duplex loop": station 40 takes HOLD(30) from 30 and forwards it to 50, then GO(30). -/
def station40 : State :=
  queue_ [{ freshRecord (offer 4101 1) .entering .up1 (some 0) 0 with side := .second },
      { exiting 4099 1 4700 with side := .second, route := some .alt, dir := .reverse }]
    (station 40 3 .running (with_ [(1, 30), (3, 60), (4, 50), (30, 3600), (31, 4700)]) 0)

theorem test_hold_forwarded :
    let t := after (.hold ⟨30, 40⟩ 30) station40
    t.drive.hold = [⟨30, Reasons.none, some 30, [50]⟩] ∧ t.port.tx.map TxEntry.frame = [⟨50, .hold 30⟩] := by decide

theorem test_go_relayed :
    let t := after (.go ⟨30, 40⟩ 30) (after (.hold ⟨30, 40⟩ 30) station40)
    t.drive.hold = [] ∧ ⟨50, .go 30⟩ ∈ t.port.tx.map TxEntry.frame := by decide

/-- spec 08, "a lookup that fails": DISP[9] not present, TABLE with the default STOP. -/
theorem test_dispatch_substitutes_table :
    let s := station 40 3 .running (with_ [(0, 1), (79, 0)]) 0
    let t := after .faultDispatch { s with flt := { s.flt with
      pending := [{ bareOf .route with tag := some ⟨4102, 1⟩, position := some 2400, sensor := some 1 }] } }
    t.flt.stack = [⟨.table, some .route, true, .running⟩] ∧ t.ctl.st = .jammed ∧ t.flt.pending = [] ∧
      t.port.tx.map (fun e => e.frame.dst) = [63, 1] := by decide

/-- spec 07, "two bills through station 60": the eject timer runs out on the whole bill and on the split one. -/
theorem test_eject_complete_closes_set :
    (after .ejectComplete (tray (.ejecting .active) false)).comp.traySet = none := by decide

theorem test_eject_complete_split :
    let t := (after .ejectComplete (tray (.ejecting .active) true)).comp
    (t.traySet, t.count, t.nextSeq) = (some 7, 0, 6) := by decide

/-- spec 10, "a sweep through the example path": G 6, N 3 launches 0, 1, 2, 4 and 5. -/
theorem test_ghost_numbers :
    [0, 1, 2, 4, 5].map (nextGhost 3) = [1, 2, 4, 5, 7] ∧ lastGhost 6 3 = 5 := by decide

/-- spec 11, "two frames begun together": PASS of station 40 wins against TAKE of station 30. -/
theorem test_arbitration : (arbitration 1 0 40).toNat < (arbitration 2 1 30).toNat := by decide

/-! ### The invariants' bounds are reached -/

theorem test_queue_reaches_8 : (next_ sevenTake).track.queue.length = 8 := by decide
theorem test_stack_reaches_3 : (next_ stackTwo).flt.stack.length = 3 := by decide
theorem test_transmit_stays_12 : (next_ txFull).port.tx.length = 12 := by decide
theorem test_broken_list_stays_8 : (next_ brokenFull).track.broken = [2, 3, 4, 5, 6, 7, 8, 9] := by decide

/-! ### From reset -/

/-- After SELFTEST_COMPLETE the example's FEED station is UNCONFIGURED and has sent JOIN. -/
theorem test_selftest_joins :
    let t := after (.selftestComplete 0 0) State.reset
    t.ctl.st = .unconfigured ∧ t.port.tx.map TxEntry.frame = [⟨1, .join .feed 0 false 0⟩] := by decide

theorem test_empty_queue_idles : step State.reset = .next State.reset := rfl

/-- A FORWARD sheet routed ALT after its PASS to DN1 still shares with DN1 (R60). -/
theorem test_forward_alt_shares_dn1 :
    (queue_ [{ exiting 1 1 6100 with route := some .alt }] (at_ 3 .running)).sharing = [11] := by decide

/-- R106: the loop record leaves by ARRIVED, and the LOOP-bound offer that waited is taken in that event. -/
theorem test_loop_record_leaves :
    let t := after (.arrived ⟨12, 10⟩ (tag_ 1 1)) returned
    t.inv.seq = .idle ∧ t.hand.slot1 = none ∧ t.track.queue.map (fun r => (r.tag, r.place)) = [(⟨4, 2⟩, .expected)] ∧
      t.port.tx.map TxEntry.frame = [⟨9, .take ⟨4, 2⟩ false⟩] := by decide

/-- R145: the loop record leaves with SHORT raised against it, and its tag comes round again: the later record is of a
broken set, but it is not SPOILED. -/
theorem test_spoil_later_record :
    let s := queue_ [backOut] (asking (requestFor .short backOut none none))
    let t := after .faultDispatch (queue_ [{ expected 1 1 with side := .second }] (leaveQueue backOut s))
    t.track.queue.map (fun r => (r.marks.broken, r.marks.spoiled)) = [(true, false)] ∧ t.track.broken = [1] := by decide

/-- R168: a RUNNING station refuses SWEEP, and then defers a ghost with STATE, but not a sheet. -/
theorem test_refused_sweep_defers_ghosts :
    let s := after (.sweep eng 5 0 20) (at_ 1 .running)
    (after (.offer up { sheet_ 4 1 with marks := 4 }) s).hand.deferred1 = some ⟨.state, none⟩ ∧
      (after (.offer up (sheet_ 4 1)) s).track.queue.map Record.tag = [⟨4, 1⟩] := by decide

end Sys2Proof.Tests
end

/-! PROOFS. Edges at a sensor that no record claims (R30, R34, R38): what the sensor, the fault unit and the records are
after them. -/

namespace Sys2Proof.Machine

/-! ### Sensors -/

/-- A change of sensor k that always ends in `P` leaves sensor k so; a number beyond the last sensor reads as reset. -/
theorem sensor_setSensor_self {P : Sensor → Prop} {f : Sensor → Sensor} (h0 : P Sensor.reset) (hf : ∀ q, P (f q))
    (k : Nat) (s : State) : P ((setSensor k f s).sensor k) := by
  simp only [State.sensor, setSensor, List.getD_eq_getElem?_getD, List.getElem?_modify_eq]
  cases s.sens.sensors[k]? with
  | none => exact h0
  | some q => exact hf q

/-- Two changes of one sensor are one change. -/
theorem setSensor_setSensor (k : Nat) (f g : Sensor → Sensor) (s : State) :
    setSensor k g (setSensor k f s) = setSensor k (g ∘ f) s := by
  simp only [setSensor, List.modify_modify_eq]

/-- A sensor in use takes its level in every state after the self-test (R16, R17). -/
theorem filters_of_inUse {s : State} {k : Nat} (hr : s.ctl.resetLow = false) (hst : s.ctl.st ≠ .selftest)
    (hk : k < s.scount) : s.filters k = true := by
  simp [State.filters, State.inUse, hr, hst, hk]

/-- The station states that check edges come after the self-test (R43). -/
theorem checks_ne_selftest {st : StationState} (h : st.checks = true) : st ≠ .selftest := by
  rintro rfl
  cases h

/-- In the states that check edges a raised fault becomes pending (R43, R141). -/
theorem checks_faultsPend {st : StationState} (h : st.checks = true) : st.faultsPend = true := by
  cases st with
  | running | draining | pausing => rfl
  | _ => cases h

/-! ### Settling an event that changes no record -/

/-- With no reversal waiting the Drive Unit's share of settling touches the channels and the three timers' blocks. -/
theorem settleDrive_blocks {s : State} (h : s.inv.seq ≠ .stopping) :
    ∃ (drive : Drive) (hand : Handoff) (inv : Inverter) (reg : Registration),
      settleDrive s = { s with drive := drive, hand := hand, inv := inv, reg := reg } := by
  have hr : settleReversal (settleStops s) = settleStops s := if_neg fun e => h e.2.1
  unfold settleDrive
  rw [hr]
  exact ⟨_, _, _, _, rfl⟩

/-- On a quiet station that share leaves the sensors, the records and the faults. -/
theorem settleDrive_keeps {s : State} (hq : s.quiet) :
    (∀ k, (settleDrive s).sensor k = s.sensor k) ∧ (settleDrive s).track = s.track ∧ (settleDrive s).flt = s.flt := by
  obtain ⟨drive, hand, inv, reg, e⟩ := settleDrive_blocks hq.2.2.2
  rw [e]
  exact ⟨fun _ => rfl, rfl, rfl⟩

/-! ### Lead edges without a record (R30, R34) -/

/-- No record that could be at sensor k expects it: a lead edge there is attributed to none (R30). -/
theorem attributed_eq_none {s : State} {k : Nat}
    (h : ∀ r ∈ s.track.queue, r.next = some k →
      r.place ≠ .entering ∧ r.place ≠ .inside ∧ (s.role ≠ .invert ∨ r.dir ≠ .reverse)) :
    s.attributed k = none := by
  refine List.find?_eq_none.mpr fun r hr ha => ?_
  simp only [Bool.and_eq_true, Bool.or_eq_true, decide_eq_true_eq] at ha
  obtain ⟨hn, hw⟩ := ha
  obtain ⟨he, hi, hv⟩ := h r hr hn
  rcases hw with (hw | hw) | ⟨hw, hd⟩
  · exact he hw
  · exact hi hw
  · exact hv.elim (· hw) (· hd)

/-- Whom a lead edge is attributed to does not depend on the sensors (R30). -/
@[simp] theorem attributed_setSensor (k j : Nat) (f : Sensor → Sensor) (s : State) :
    (setSensor k f s).attributed j = s.attributed j := rfl

/-- A cover recorded without owner, the latch as it stood (R34). -/
def Sensor.coverUnowned (q : Sensor) : Sensor :=
  { q with covered := true, owner := none, confirmed := false, stalled := false }

/-- Taking the level and giving the owner up is a cover without owner. -/
theorem disown_comp_cover : (Sensor.disown ∘ fun q => { q with covered := true }) = Sensor.coverUnowned := rfl

/-- A lead edge attributed to no record raises EARLY without record where edges are checked (R34). -/
theorem takeLead_checked {s : State} {k : Nat} (ha : s.attributed k = none) (hc : s.ctl.st.checks = true) :
    takeLead k s = raise (requestBare .early none false (some k)) (setSensor k Sensor.coverUnowned s) := by
  simp only [takeLead, hc, if_true, checkLead, attributed_setSensor, ha, setSensor_setSensor, disown_comp_cover]

/-- In SWEEPING such an edge gives the sensor up and is counted as a residual (R43, R173). -/
theorem sweepLead_unattributed {s : State} {k : Nat} (ha : s.attributed k = none) :
    sweepLead k s =
      { setSensor k Sensor.disown s with sweep := { s.sweep with results := s.sweep.results.residual k } } := by
  have h1 : ∀ sweep : Sweep, State.attributed { s with sweep := sweep } k = none := fun _ => ha
  simp only [sweepLead, h1]
  rfl

/-- In any state a lead edge attributed to no record covers the sensor without owner; only the fault unit and the sweep
may take note of it (R34, R43, R173). -/
theorem takeLead_unattributed {s : State} {k : Nat} (ha : s.attributed k = none) :
    ∃ (flt : FaultUnit) (sweep : Sweep),
      takeLead k s = { setSensor k Sensor.coverUnowned s with flt := flt, sweep := sweep } := by
  by_cases hc : s.ctl.st.checks = true
  · exact ⟨_, _, takeLead_checked ha hc⟩
  rw [← disown_comp_cover, ← setSensor_setSensor]
  by_cases hw : s.ctl.st = .sweeping
  · exact ⟨_, _, ((if_neg hc).trans (if_pos hw)).trans
      (sweepLead_unattributed (s := setSensor k (fun q => { q with covered := true }) s) ha)⟩
  · exact ⟨_, _, (if_neg hc).trans (if_neg hw)⟩

/-- LEAD_EDGE at an uncovered sensor in use takes the edge and settles it (R17, R30). -/
theorem exec_leadEdge_uncovered {s : State} {k : Fin 6} (hf : s.filters k = true)
    (hu : (s.sensor k).covered = false) :
    exec (.leadEdge k) s = .next (settle s (takeLead k (pinSensor k true s))) :=
  if_pos ⟨hf, hu⟩

/-- LEAD_EDGE attributed to no record settles in the Drive Unit alone, no record having changed (R34). -/
theorem exec_leadEdge_unattributed {s : State} {k : Fin 6} (hf : s.filters k = true)
    (hu : (s.sensor k).covered = false) (hq : s.quiet) (ha : s.attributed k = none) :
    exec (.leadEdge k) s = .next (settleDrive (takeLead k (pinSensor k true s))) := by
  obtain ⟨flt, sweep, e⟩ := takeLead_unattributed (s := pinSensor k true s) (k := k) ha
  rw [exec_leadEdge_uncovered hf hu, e]
  exact congrArg _ (settle_same (b := s) hq rfl rfl rfl rfl rfl)

/-! ### Trail edges without an owner (R38) -/

/-- The sensor's record of a trail edge: uncovered, without owner, at uncovered distance 0 (R38). -/
def Sensor.uncover (q : Sensor) : Sensor := { q.disown with covered := false, uncovered := 0 }

/-- The trail edge at the gate sensor touches the gate only (R98). -/
theorem handGate_gate (k : Nat) (s : State) : ∃ gate : Gate, handGate k s = { s with gate := gate } := by
  unfold handGate
  split
  · obtain ⟨_, _, _, e⟩ := serveGate_spec { s with gate := { s.gate with occupant := none } }
    exact ⟨_, e⟩
  · exact ⟨_, rfl⟩

/-- A trail edge at a sensor without owner uncovers it; only the gate may take note of it (R38, R98). -/
theorem takeTrail_unowned {s : State} {k : Nat} (ho : (s.sensor k).owner = none) :
    ∃ gate : Gate, takeTrail k s = { setSensor k Sensor.uncover s with gate := gate } := by
  simp only [takeTrail, ho, Option.bind_none]
  split
  · exact handGate_gate k _
  · exact ⟨_, rfl⟩

/-- TRAIL_EDGE at a covered sensor in use takes the edge and settles it (R17, R38). -/
theorem exec_trailEdge_covered {s : State} {k : Fin 6} (hf : s.filters k = true)
    (hc : (s.sensor k).covered = true) :
    exec (.trailEdge k) s = .next (settle s (takeTrail k (pinSensor k false s))) :=
  if_pos ⟨hf, hc⟩

/-- TRAIL_EDGE at a sensor without owner settles in the Drive Unit alone, no record having changed (R38). -/
theorem exec_trailEdge_unowned {s : State} {k : Fin 6} (hf : s.filters k = true)
    (hc : (s.sensor k).covered = true) (hq : s.quiet) (ho : (s.sensor k).owner = none) :
    ∃ gate : Gate, exec (.trailEdge k) s =
      .next (settleDrive { setSensor k Sensor.uncover (pinSensor k false s) with gate := gate }) := by
  obtain ⟨gate, e⟩ := takeTrail_unowned (s := pinSensor k false s) (k := k) ho
  rw [exec_trailEdge_covered hf hc, e]
  exact ⟨gate, congrArg _ (settle_same (b := s) hq rfl rfl rfl rfl rfl)⟩

/-- Settles O19: the edge is taken by `takeLead` or `takeTrail` with no record behind it, and settling then
leaves sensors, records and faults. -/
theorem leadEdgeWithoutOwnerRaisesEarly : Obligations.LeadEdgeWithoutOwnerRaisesEarly := by
  refine ⟨?early, ?lead, ?trail⟩
  case early =>
    intro s k hr hst hk hq hu hnone
    have ha := attributed_eq_none hnone
    rw [exec_leadEdge_unattributed (filters_of_inUse hr (checks_ne_selftest hst) hk) hu hq ha,
      takeLead_checked (s := pinSensor k true s) ha hst]
    simp only [raise, setSensor_ctl, pinSensor_ctl, checks_faultsPend hst, if_true]
    rfl
  case lead =>
    intro s k hr hst hk hq hu hnone
    have ha := attributed_eq_none hnone
    obtain ⟨flt, sweep, e⟩ := takeLead_unattributed (s := pinSensor k true s) (k := k) ha
    refine ⟨_, exec_leadEdge_unattributed (filters_of_inUse hr hst hk) hu hq ha, ?_⟩
    rw [e]
    obtain ⟨hsens, htrack, -⟩ := settleDrive_keeps
      (s := { setSensor k Sensor.coverUnowned (pinSensor k true s) with flt := flt, sweep := sweep }) hq
    rw [hsens, htrack]
    exact ⟨sensor_setSensor_self (P := fun q => q.owner = none) rfl (fun _ => rfl) k (pinSensor k true s), rfl⟩
  case trail =>
    intro s k hr hst hk hq hc ho
    obtain ⟨gate, e⟩ := exec_trailEdge_unowned (filters_of_inUse hr hst hk) hc hq ho
    refine ⟨_, e, ?_⟩
    obtain ⟨hsens, htrack, hflt⟩ := settleDrive_keeps
      (s := { setSensor k Sensor.uncover (pinSensor k false s) with gate := gate }) hq
    rw [hsens, htrack, hflt]
    exact ⟨sensor_setSensor_self (P := fun q => q.owner = none) rfl (fun _ => rfl) k (pinSensor k false s), rfl, rfl⟩

end Sys2Proof.Machine

/-! PROOFS. The limits of the lead windows (R28, R29). -/

namespace Sys2Proof.Machine

/-- The slip term is SLIP × d ÷ 1024 rounded up (R28). -/
theorem slipTerm_bounds (slip d : Nat) :
    slip * d ≤ 1024 * slipTerm slip d ∧ 1024 * slipTerm slip d < slip * d + 1024 := by
  unfold slipTerm
  omega

/-- No slip term without distance (R28). -/
@[simp] theorem slipTerm_zero (slip : Nat) : slipTerm slip 0 = 0 := by simp [slipTerm]

/-- A lead within the clamp of R25 stands at a position within 65535 pu. -/
theorem pos_le_of_lead_le {r : Record} (h : r.lead ≤ 16777215) : r.pos ≤ 65535 := by
  unfold Record.pos
  omega

/-- A FORWARD record is late beyond the late limit (R36). -/
theorem late_forward {r : Record} (hd : r.dir = .forward) (w : Window) : r.late w = decide (w.late < r.pos) := by
  simp only [Record.late, hd]

/-- A REVERSE record is late below the late limit (R29). -/
theorem late_reverse {r : Record} (hd : r.dir = .reverse) (w : Window) : r.late w = decide (r.pos < w.late) := by
  simp only [Record.late, hd]

/-- A REVERSE record is within its window from the early limit down to the late one (R29). -/
theorem within_reverse {r : Record} (hd : r.dir = .reverse) (w : Window) :
    r.within w = decide (r.pos ≤ w.early ∧ w.late ≤ r.pos) := by
  simp only [Record.within, hd]

/-- Settles O23: the limits are those of `windowAt`, the slip term rounds up, and the clamps of the position and of the
late limit exclude lateness. -/
theorem windowLimits : Obligations.WindowLimits := by
  intro s ref k r f b
  refine ⟨?forward, ?reverse, ?notLate, ?mirror⟩
  case forward =>
    obtain ⟨hlo, hhi⟩ := slipTerm_bounds s.slip (s.spos k - ref)
    exact ⟨_, slipTerm s.slip (s.spos k - ref), rfl, fun h => by rw [h, slipTerm_zero], hlo, hhi, rfl, rfl⟩
  case reverse =>
    obtain ⟨hlo, hhi⟩ := slipTerm_bounds s.slip (ref - s.spos k)
    exact ⟨_, slipTerm s.slip (ref - s.spos k), rfl, fun h => by rw [h, slipTerm_zero], hlo, hhi, rfl, rfl⟩
  case notLate =>
    intro hd hlate hlead
    rw [late_forward hd, hlate]
    exact decide_eq_false (Nat.not_lt.mpr (pos_le_of_lead_le hlead))
  case mirror =>
    intro hd
    rw [late_reverse hd, within_reverse hd]
    refine ⟨decide_eq_true_iff, decide_eq_true_iff, fun h0 => ?_⟩
    rw [h0]
    exact decide_eq_false (Nat.not_lt_zero _)

end Sys2Proof.Machine

/-! PROOFS. QUERY is answered, then what it asks to be cleared is cleared (R190). -/

namespace Sys2Proof.Machine

/-! ### At the port -/

/-- A closed port takes no frame (R155, R156). -/
theorem receive_closed {c : Instr} {h : Header} {take : State → State} {s : State} (hs : s.portClosed = true) :
    receive c h take s = s :=
  if_pos (by simp [State.hears, hs])

/-- A frame whose sender may not send its kind only counts as foreign (R182). -/
theorem admit_foreign {h : Header} {k : Rules} {body : State → State} {s : State}
    (hw : s.admits k.who h.src.toNat = false) : admitFrame h k body s = countForeign s :=
  if_pos (.inl hw)

/-! ### QUERY -/

/-- QUERY with a defined selector comes to the test of its sender in the event of its completion (R181). -/
theorem exec_query_heard {h : Header} {q : BitVec 3} {clear : Bool} {s : State} (hh : s.hearsFrom h)
    (hq : q.toNat ≤ 4) : exec (.query h q clear) s = .next (admitQuery h q clear s) :=
  congrArg _ (receive_heard (c := .query h q clear) hh (decide_eq_true hq))

/-- QUERY of ENGADDR is answered in every state that hears it, LOCKDOWN included (R150, R182). -/
theorem exec_query_engine {h : Header} {q : BitVec 3} {clear : Bool} {s : State} (hh : s.hearsEngine h)
    (hq : q.toNat ≤ 4) : exec (.query h q clear) s = .next (answerQuery q.toNat clear s) := by
  rw [exec_query_heard hh.1 hq]
  exact congrArg _ (admit_engine hh rfl (.inr rfl))

/-- Without the clear flag QUERY is answered and clears nothing (R190). -/
theorem exec_query_kept {h : Header} {q : BitVec 3} {s : State} (hh : s.hearsEngine h) (hq : q.toNat ≤ 4) :
    exec (.query h q false) s = .next (send s.engAddr (s.answer q.toNat) s) :=
  exec_query_engine hh hq

/-- With the clear flag the clearing follows the answer (R190). -/
theorem exec_query_cleared {h : Header} {q : BitVec 3} {s : State} (hh : s.hearsEngine h) (hq : q.toNat ≤ 4) :
    exec (.query h q true) s = .next (clearAnswered q.toNat (send s.engAddr (s.answer q.toNat) s)) :=
  exec_query_engine hh hq

/-- QUERY of any other sender is foreign (R182). -/
theorem exec_query_foreign {h : Header} {q : BitVec 3} {clear : Bool} {s : State} (hh : s.hearsFrom h)
    (he : h.src.toNat ≠ s.engAddr) (hq : q.toNat ≤ 4) : exec (.query h q clear) s = .next (countForeign s) := by
  rw [exec_query_heard hh hq]
  exact congrArg _ (admit_foreign (decide_eq_false he))

/-- QUERY is not taken in SELFTEST (R156). -/
theorem exec_query_selftest {h : Header} {q : BitVec 3} {clear : Bool} {s : State} (hs : s.ctl.st = .selftest) :
    exec (.query h q clear) s = .next s :=
  congrArg _ (receive_closed (by simp [State.portClosed, hs]))

/-- Settles O54: the port's tests hand a QUERY of ENGADDR to `answerQuery`, whose clearing writes the one or two blocks
its selector names. -/
theorem queryIsAnswered : Obligations.QueryIsAnswered := by
  refine ⟨?station, ?faultsLow, ?faultsHigh, ?bus, ?sweep, ?selftest, ?foreign⟩
  case station | faultsLow | faultsHigh | bus | sweep =>
    intro h clear s hh
    cases clear with
    | false => exact exec_query_kept hh (by decide)
    | true => exact exec_query_cleared hh (by decide)
  case selftest => exact fun _ _ _ _ hs => exec_query_selftest hs
  case foreign => exact fun _ _ _ _ hh he hq => exec_query_foreign hh he hq

end Sys2Proof.Machine

/-! PROOFS. What no operation of a block breaks: the bounds of Safety.lean, one at a time, through every operation. -/

namespace Sys2Proof.Machine

/-! ### The bounds, by name -/

/-- The bounds of Safety.lean that every step keeps. -/
inductive Bound where
  | queue
  | hold
  | broken
  | stack
  | pending
  | transmit
  | order
  | buffer
  | images
  | orders
  | shape
  | driven

/-- A state meets a bound. -/
def State.meets (s : State) : Bound → Prop
  | .queue => s.queueSound
  | .hold => s.holdSound
  | .broken => s.brokenSound
  | .stack => s.stackSound
  | .pending => s.pendingSound
  | .transmit => s.transmitSound
  | .order => s.classSound
  | .buffer => s.bufferSound
  | .images => s.imagesSound
  | .orders => s.ordersSound
  | .shape => s.shapeSound
  | .driven => s.drivenSound

/-- What the bounds read of a state. -/
def State.parts (s : State) :
    (List TxEntry × List Instr) × (Nat × Nat × Nat) × (List FaultCode × Nat) × (RunState × RunState × List HoldEntry) ×
      (StationState × Nat) × (List Tag × List Nat) × List ImageEntry × List FeedOrder :=
  ((s.port.tx, s.port.rx), (s.sens.sensors.length, s.flt.counters.length, s.cfg.params.length),
    (s.flt.pending.map Request.code, s.flt.stack.length), (s.drive.chA.run, s.drive.chB.run, s.drive.hold),
    (s.ctl.st, s.ctl.address), (s.track.queue.map Record.tag, s.track.broken), s.reg.images, s.feed.orders)

/-- Neither channel runs up or at speed where the station may not drive them. -/
theorem drivenSound_iff (s : State) :
    s.drivenSound ↔
      (((s.drive.chA.run = .rampUp ∨ s.drive.chA.run = .atSpeed) ∨
          (s.drive.chB.run = .rampUp ∨ s.drive.chB.run = .atSpeed)) → s.ctl.st.steps = true ∧ s.drive.hold = []) := by
  constructor
  · rintro h (ha | hb)
    · exact h .a (by simp) ha
    · exact h .b (by simp) hb
  · intro h ch _ hr
    cases ch with
    | a => exact h (.inl hr)
    | b => exact h (.inr hr)

/-- The bounds read nothing but those parts. -/
theorem meets_congr {s t : State} (e : t.parts = s.parts) (i : Bound) : t.meets i ↔ s.meets i := by
  simp only [State.parts, Prod.mk.injEq] at e
  obtain ⟨⟨e1, e2⟩, ⟨e3, e4, e5⟩, ⟨e6, e7⟩, ⟨e8, e9, e10⟩, ⟨e11, e12⟩, ⟨e13, e14⟩, e15, e16⟩ := e
  have e17 : t.track.queue.length = s.track.queue.length := by simpa using congrArg List.length e13
  cases i with
  | driven => simp only [State.meets, drivenSound_iff, e8, e9, e10, e11]
  | _ =>
    simp only [State.meets, State.queueSound, State.holdSound, State.brokenSound, State.stackSound, State.pendingSound,
      State.transmitSound, State.classSound, State.bufferSound, State.imagesSound, State.ordersSound, State.shapeSound, *]

/-- Each bound that state `b` meets is met by `s`; with `d` false nothing is said of the channels, which settling puts
right (R54). -/
def Kept (d : Bool) (b s : State) : Prop := ∀ i, (i = .driven → d = true) → b.meets i → s.meets i

theorem Kept.refl (d : Bool) (b : State) : Kept d b b := fun _ _ h => h

theorem Kept.weaken {d : Bool} {b s : State} (h : Kept true b s) : Kept d b s := fun i _ hb => h i (fun _ => rfl) hb

/-- An update that the bounds do not read keeps them. -/
theorem Kept.of_parts {d : Bool} {b s t : State} (h : Kept d b s) (e : t.parts = s.parts) : Kept d b t :=
  fun i hi hb => (meets_congr e i).mpr (h i hi hb)

/-- An operation that keeps each bound keeps those already kept. -/
theorem Kept.step {d : Bool} {b s t : State} (h : Kept d b s) (hs : ∀ i, (i = .driven → d = true) → s.meets i → t.meets i) :
    Kept d b t := fun i hi hb => hs i hi (h i hi hb)

theorem ite_kept {d : Bool} {b x y : State} {c : Prop} [Decidable c] (hx : c → Kept d b x) (hy : ¬ c → Kept d b y) :
    Kept d b (if c then x else y) := by
  split
  · exact hx ‹_›
  · exact hy ‹_›

/-- What a block does with a record keeps the bounds where its action does. -/
theorem onRec_kept {d : Bool} {b s : State} {t : Tag} {f : Record → State → State} (h : Kept d b s)
    (hf : ∀ r, s.rec? t = some r → Kept d b (f r s)) : Kept d b (onRec t f s) := by
  unfold onRec
  split
  · exact hf _ ‹_›
  · exact h

/-- A fold keeps the bounds where each of its steps does. -/
theorem foldl_kept {d : Bool} {b : State} {α : Type} {f : State → α → State} (hf : ∀ s a, Kept d b s → Kept d b (f s a))
    (l : List α) {s : State} (h : Kept d b s) : Kept d b (l.foldl f s) := by
  induction l generalizing s with
  | nil => exact h
  | cons a l ih => exact ih (hf s a h)

section
variable {d : Bool} {b s : State}

/-! ### Machine/Ops.lean: the port -/

/-- A frame that joins stands in the order of class (R184). -/
theorem insertByClass_pairwise {e : TxEntry} {l : List TxEntry} (h : l.Pairwise fun x y => x.cls ≤ y.cls) :
    (insertByClass e l).Pairwise fun x y => x.cls ≤ y.cls := by
  induction l with
  | nil => simp [insertByClass]
  | cons x xs ih =>
    obtain ⟨hx, hxs⟩ := List.pairwise_cons.mp h
    unfold insertByClass
    split
    · rename_i hlt
      refine List.pairwise_cons.mpr ⟨fun y hy => ?_, h⟩
      rcases List.mem_cons.mp hy with rfl | hy
      · exact hlt.le
      · exact hlt.le.trans (hx y hy)
    · rename_i hge
      refine List.pairwise_cons.mpr ⟨fun y hy => ?_, ih hxs⟩
      have mem : ∀ l : List TxEntry, y ∈ insertByClass e l → y = e ∨ y ∈ l := by
        intro l
        induction l with
        | nil => simp [insertByClass]
        | cons z zs ihz =>
          unfold insertByClass
          split
          · simp
          · simp only [List.mem_cons]
            rintro (rfl | hm)
            · exact .inr (.inl rfl)
            · exact (ihz hm).imp id .inr
      rcases mem xs hy with rfl | hy
      · exact Nat.le_of_not_lt hge
      · exact hx y hy

/-- The frames an eviction leaves stand as they stood (R184). -/
theorem dropNewest_sublist (c : Nat) (l : List TxEntry) : (dropNewest c l).Sublist l := by
  induction l with
  | nil => exact .slnil
  | cons x xs ih =>
    unfold dropNewest
    split
    · exact ih.cons_cons x
    · split
      · exact List.sublist_cons_self x xs
      · exact ih.cons_cons x

/-- Queueing a frame keeps the order of class (R184). -/
theorem post_pairwise {p : Port} {dst : Nat} {body : FrameBody} (h : p.tx.Pairwise fun x y => x.cls ≤ y.cls) :
    (p.post dst body).tx.Pairwise fun x y => x.cls ≤ y.cls := by
  unfold Port.post
  split
  · exact h
  · unfold Port.enqueue
    split
    · exact insertByClass_pairwise h
    · split
      · exact h
      · split
        · exact insertByClass_pairwise (h.sublist (dropNewest_sublist _ _))
        · exact h

/-- A port that has come about by queueing frames keeps its bounds (R180, R184). -/
structure Port.Sent (p q : Port) : Prop where
  rx : q.rx = p.rx
  bound : p.tx.length ≤ 12 → q.tx.length ≤ 12
  order : (p.tx.Pairwise fun x y => x.cls ≤ y.cls) → q.tx.Pairwise fun x y => x.cls ≤ y.cls

theorem Port.Sent.refl (p : Port) : p.Sent p := ⟨rfl, id, id⟩

theorem Port.Sent.trans {p q r : Port} (h : p.Sent q) (k : q.Sent r) : p.Sent r :=
  ⟨k.rx.trans h.rx, k.bound ∘ h.bound, k.order ∘ h.order⟩

theorem post_sent (p : Port) (dst : Nat) (body : FrameBody) : p.Sent (p.post dst body) :=
  ⟨congrArg (·.1) (post_rest p dst body), post_bound, post_pairwise⟩

theorem foldl_sent {α : Type} {f : Port → α → Port} (hf : ∀ (p : Port) a, p.Sent (f p a)) (l : List α) (p : Port) :
    p.Sent (l.foldl f p) := by
  induction l generalizing p with
  | nil => exact .refl p
  | cons a l ih => exact (hf p a).trans (ih _)

theorem postAll_sent (p : Port) (dsts : List Nat) (body : FrameBody) : p.Sent (p.postAll dsts body) :=
  foldl_sent (fun q a => post_sent q a body) dsts p

/-- Frames queued keep every bound. -/
theorem Kept.sent {p : Port} (h : Kept d b s) (hp : s.port.Sent p) : Kept d b { s with port := p } :=
  h.step fun i _ => by
    cases i with
    | transmit => exact hp.bound
    | order => exact hp.order
    | buffer => exact fun hs => by simpa only [State.meets, State.bufferSound, hp.rx] using hs
    | _ => exact id

theorem send_kept {dst : Nat} {body : FrameBody} (h : Kept d b s) : Kept d b (send dst body s) :=
  h.sent (post_sent _ _ _)

theorem sendAll_kept {dsts : List Nat} {body : FrameBody} (h : Kept d b s) : Kept d b (sendAll dsts body s) :=
  h.sent (postAll_sent _ _ _)

theorem reply_kept {reason : StatusReason} (h : Kept d b s) : Kept d b (reply reason s) := send_kept h

theorem replyConfig_kept {failing : Option Nat} (h : Kept d b s) : Kept d b (replyConfig failing s) := by
  unfold replyConfig
  split
  · exact reply_kept h
  · exact send_kept h

/-! ### Faults, records, sensors -/

theorem count_counters_length (f : FaultUnit) (c : FaultCode) : (f.count c).counters.length = f.counters.length := by
  simp [FaultUnit.count]

theorem raise_kept {q : Request} (h : Kept d b s) : Kept d b (raise q s) :=
  h.step fun i _ => by
    obtain ⟨p, e, -⟩ := raise_spec q s
    cases i with
    | pending => exact raise_pending_nodup
    | stack => rw [e]; exact id
    | shape =>
      rw [e]
      intro hs
      simpa only [State.meets, State.shapeSound, count_counters_length] using hs
    | _ => exact id

theorem mapRec_kept {t : Tag} {f : Record → Record} (hf : ∀ r, (f r).tag = r.tag) (h : Kept d b s) :
    Kept d b (mapRec t f s) :=
  h.of_parts (by simp only [State.parts, tags_mapRec hf]; rfl)

/-- A change of every record that keeps tags keeps the bounds. -/
theorem mapQueue_kept {f : Record → Record} (hf : ∀ r, (f r).tag = r.tag) (h : Kept d b s) :
    Kept d b { s with track := { s.track with queue := s.track.queue.map f } } :=
  h.of_parts (by
    have e : Record.tag ∘ f = Record.tag := funext hf
    simp only [State.parts, List.map_map, e])

theorem setSensor_kept {k : Nat} {f : Sensor → Sensor} (h : Kept d b s) : Kept d b (setSensor k f s) :=
  h.of_parts (by simp [State.parts])

/-! ### READY, the hold set, the generators -/

theorem sendReady_kept {p : Deferral → Bool} {side : UpSide} (h : Kept d b s) : Kept d b (sendReady p side s) :=
  ite_kept (fun _ => (h.sent (post_sent _ _ _)).of_parts rfl) fun _ => h

theorem sendReadies_kept {p : Deferral → Bool} (h : Kept d b s) : Kept d b (sendReadies p s) :=
  sendReady_kept (sendReady_kept h)

theorem sendDuplicateReadies_kept (h : Kept d b s) : Kept d b (sendDuplicateReadies s) :=
  sendReady_kept (sendReady_kept h)

/-- A change of the hold set's entries that keeps their origins keeps the bounds. -/
theorem mapHold_kept {f : HoldEntry → HoldEntry} (hf : ∀ e, (f e).origin = e.origin) (h : Kept d b s) :
    Kept d b (s.withHold (s.drive.hold.map f)) :=
  h.step fun i _ => by
    have e : HoldEntry.origin ∘ f = HoldEntry.origin := funext hf
    cases i with
    | hold =>
      intro hs
      simpa only [State.meets, State.holdSound, State.withHold, List.filter_map, List.length_map, List.map_map, e,
        Function.comp_def, hf] using hs
    | driven =>
      simp only [State.meets, drivenSound_iff, State.withHold, List.map_eq_nil_iff]
      exact id
    | _ => exact id

/-- The entries that are left of a hold set keep the bounds. -/
theorem filterHold_kept {p : HoldEntry → Bool} (h : Kept d b s) : Kept d b (s.withHold (s.drive.hold.filter p)) :=
  h.step fun i _ => by
    cases i with
    | hold =>
      rintro ⟨hl, hn⟩
      exact ⟨((List.filter_sublist.filter _).length_le).trans hl, hn.sublist (List.filter_sublist.map _)⟩
    | driven =>
      simp only [State.meets, drivenSound_iff, State.withHold]
      exact fun hs hr => ⟨(hs hr).1, by rw [(hs hr).2]; rfl⟩
    | _ => exact id

theorem clearHold_kept (h : Kept d b s) : Kept d b (clearHold s) := by
  have hs : s.port.Sent (s.drive.hold.foldl (fun p e => p.postAll e.fwd (.go e.origin)) s.port) :=
    foldl_sent (fun p e => postAll_sent p _ _) _ _
  have hc : Kept d b { s with drive := { s.drive with hold := [] } } := h.step fun i _ => by
    cases i with
    | hold => exact fun _ => ⟨by simp, by simp⟩
    | driven =>
      simp only [State.meets, drivenSound_iff]
      exact fun hs hr => ⟨(hs hr).1, trivial⟩
    | _ => exact id
  exact (hc.sent (s := { s with drive := { s.drive with hold := [] } }) hs).of_parts rfl

/-- A generator that has lost demand neither runs up nor at speed (R54). -/
theorem loseDemand_stands (c : Chan) : c.loseDemand.run ≠ .rampUp ∧ c.loseDemand.run ≠ .atSpeed := by
  obtain ⟨run, ramp, dir, want, period⟩ := c
  unfold Chan.loseDemand
  cases run <;> by_cases h0 : ramp = 0 <;> simp [h0]

theorem holdEntry?_eq_none {o : Nat} (h : s.holdEntry? o = none) : o ∉ s.drive.hold.map HoldEntry.origin := by
  intro hm
  obtain ⟨e, he, rfl⟩ := List.mem_map.mp hm
  simpa using List.find?_eq_none.mp h e he

/-- An entry joins with an origin the set does not hold, its own or one there is a place for (R59). -/
theorem pushHold_holdSound {e : HoldEntry} (hn : s.holdEntry? e.origin = none)
    (hp : e.origin = s.ctl.address ∨ (s.drive.hold.filter fun x => x.origin != s.ctl.address).length ≤ 6)
    (hs : s.holdSound) : (s.withHold (s.drive.hold ++ [e])).holdSound := by
  obtain ⟨hl, hd⟩ := hs
  refine ⟨?_, ?_⟩
  · show ((s.drive.hold ++ [e]).filter fun x => x.origin != s.ctl.address).length ≤ 7
    rw [List.filter_append, List.length_append]
    rcases hp with hp | hp
    · simpa [hp] using hl
    · have : ([e].filter fun x => x.origin != s.ctl.address).length ≤ 1 := List.length_filter_le _ _
      omega
  · show ((s.drive.hold ++ [e]).map HoldEntry.origin).Nodup
    rw [List.map_append, List.nodup_append]
    refine ⟨hd, by simp, fun a ha c hc hac => ?_⟩
    simp only [List.map_cons, List.map_nil, List.mem_singleton] at hc
    exact holdEntry?_eq_none hn (hc ▸ hac ▸ ha)

theorem addReason_kept {r : OwnReason} (h : Kept d b s) : Kept d b (addReason r s) := by
  unfold addReason
  split
  · exact mapHold_kept (fun e => by split <;> rfl) h
  · rename_i hn
    refine sendAll_kept (h.step fun i _ => ?_)
    obtain ⟨x, y, e, hxy⟩ := yieldDemand_spec s
    cases i with
    | hold =>
      intro hs
      rw [e]
      exact pushHold_holdSound (s := s) hn (.inl rfl) hs
    | driven =>
      simp only [State.meets, drivenSound_iff]
      intro hs hr
      exfalso
      rw [e] at hr
      rcases hxy with ⟨rfl, rfl⟩ | ⟨h0, rfl, rfl⟩
      · have hh := (hs hr).2
        have : s.yieldDemand = { s with drive := { s.drive with
            chA := s.drive.chA.loseDemand, chB := s.drive.chB.loseDemand } } := if_pos hh
        rw [this] at e
        have ea := congrArg (fun t => t.drive.chA) e
        have eb := congrArg (fun t => t.drive.chB) e
        simp only [State.withHold] at hr ea eb
        rw [← ea, ← eb] at hr
        rcases hr with hr | hr
        · exact hr.elim (loseDemand_stands _).1 (loseDemand_stands _).2
        · exact hr.elim (loseDemand_stands _).1 (loseDemand_stands _).2
      · simp only [State.withHold] at hr
        rcases hr with hr | hr
        · exact hr.elim (loseDemand_stands _).1 (loseDemand_stands _).2
        · exact hr.elim (loseDemand_stands _).1 (loseDemand_stands _).2
    | _ => rw [e]; exact id

theorem tellHoldEmpty_kept (h : Kept d b s) : Kept d b (tellHoldEmpty s) :=
  ite_kept (fun _ => sendReadies_kept h) fun _ => h

theorem releaseEntry_kept {e : HoldEntry} (h : Kept d b s) : Kept d b (releaseEntry e s) :=
  tellHoldEmpty_kept (sendAll_kept (filterHold_kept h))

theorem removeReason_kept {r : OwnReason} (h : Kept d b s) : Kept d b (removeReason r s) := by
  unfold removeReason
  split
  · exact h
  · exact ite_kept (fun _ => h) fun _ => ite_kept (fun _ => mapHold_kept (fun e => by split <;> rfl) h)
      fun _ => releaseEntry_kept h

theorem extendHolds_kept {nb : Nat} (h : Kept d b s) : Kept d b (extendHolds nb s) := by
  have hm : Kept d b (s.withHold (s.drive.hold.map fun e => if e.lacks nb then { e with fwd := e.fwd ++ [nb] } else e)) :=
    mapHold_kept (fun e => by split <;> rfl) h
  exact hm.sent (foldl_sent (fun p e => post_sent p _ _) _ _)

/-- A change of the generators that sets none running keeps the bounds. -/
theorem chans_kept {x y : Chan} (hx : (x.run = .rampUp ∨ x.run = .atSpeed) → s.drive.chA.run = .rampUp ∨ s.drive.chA.run = .atSpeed)
    (hy : (y.run = .rampUp ∨ y.run = .atSpeed) → s.drive.chB.run = .rampUp ∨ s.drive.chB.run = .atSpeed)
    (h : Kept d b s) : Kept d b { s with drive := { s.drive with chA := x, chB := y } } :=
  h.step fun i _ => by
    cases i with
    | driven =>
      simp only [State.meets, drivenSound_iff]
      exact fun hs hr => hs (hr.imp hx hy)
    | _ => exact id

theorem emergencyStop_kept (h : Kept d b s) : Kept d b (emergencyStop s) :=
  chans_kept (by simp [halt_spec]) (by simp [halt_spec]) h

/-- Requesting a direction starts no generator (R57). -/
@[simp] theorem request_run (c : Chan) (x : Direction) : (c.request x).run = c.run := by
  unfold Chan.request
  split
  · rfl
  · split <;> rfl

@[simp] theorem applyWant_run (c : Chan) : c.applyWant.run = c.run := by rw [(applyWant_spec c).1]

/-- A step sets no standing generator running (R53, R54). -/
theorem issue_running {c : Chan} {len : Nat} (h : (c.issue len).run = .rampUp ∨ (c.issue len).run = .atSpeed) :
    c.run = .rampUp ∨ c.run = .atSpeed := by
  unfold Chan.issue at h
  cases hr : c.run with
  | rampUp => exact .inl rfl
  | atSpeed => exact .inr rfl
  | stopped => simp [hr] at h
  | rampDown =>
    simp only [hr] at h
    split at h <;> simp at h

theorem setChan_issue_kept {ch : Channel} {len : Nat} (h : Kept d b s) :
    Kept d b (setChan ch (fun c => c.issue len) s) := by
  cases ch with
  | a => exact chans_kept issue_running id h
  | b => exact chans_kept id issue_running h

/-! ### Machine/Tray.lean -/

theorem beginOperation_kept (h : Kept d b s) : Kept d b (beginOperation s) := by
  unfold beginOperation
  split
  · exact h
  · exact (h.sent (post_sent _ _ _)).of_parts rfl
  · exact (h.sent (post_sent _ _ _)).of_parts rfl

theorem binWait_kept (h : Kept d b s) : Kept d b (binWait s) :=
  ite_kept (fun _ => h) fun _ => (raise_kept h).of_parts rfl

theorem beginOrWait_kept (h : Kept d b s) : Kept d b (beginOrWait s) :=
  ite_kept (fun _ => binWait_kept h) fun _ => beginOperation_kept h

theorem orderEject_kept {split : Bool} (h : Kept d b s) : Kept d b (orderEject split s) :=
  beginOrWait_kept (h.of_parts rfl)

theorem orderDump_kept {reason : DumpReason} (h : Kept d b s) : Kept d b (orderDump reason s) :=
  beginOrWait_kept (h.of_parts rfl)

theorem binFreed_kept (h : Kept d b s) : Kept d b (binFreed s) :=
  ite_kept (fun _ => h) fun _ => ite_kept (fun _ => beginOperation_kept (h.of_parts rfl)) fun _ => h

theorem answerTray_kept {set : Nat} {reason : DumpReason} (h : Kept d b s) : Kept d b (answerTray set reason s) := by
  refine ite_kept (fun _ => ?_) fun _ => h
  split
  · exact ite_kept (fun _ => h.of_parts rfl) fun _ => orderDump_kept h
  · exact h.of_parts rfl
  · exact h.of_parts rfl
  · exact h

theorem answerBroken_kept {set : Nat} {reason : DumpReason} (h : Kept d b s) : Kept d b (answerBroken set reason s) :=
  ite_kept (fun _ => answerTray_kept (h.of_parts rfl)) fun _ => h

theorem reviewImageWait_kept (h : Kept d b s) : Kept d b (reviewImageWait s) :=
  ite_kept (fun _ => h) fun _ => removeReason_kept (h.of_parts rfl)

theorem reviewMarks_kept (h : Kept d b s) : Kept d b (reviewMarks s) :=
  reviewImageWait_kept (mapQueue_kept skipMarked_tag h)

theorem markSet_kept {set : Nat} (h : Kept d b s) : Kept d b (markSet set s) :=
  reviewMarks_kept (mapQueue_kept (breakIn_tag set) h)

theorem pushBroken_sound {set : Nat} {l : List Nat} (hn : set ∉ l) (hl : l.length ≤ 8 ∧ l.Nodup) :
    (pushBroken set l).length ≤ 8 ∧ (pushBroken set l).Nodup := by
  refine ⟨(pushBroken_spec hl.1).2.1, ?_⟩
  unfold pushBroken
  have hsub : (if 8 ≤ l.length then l.drop 1 else l).Sublist l := by
    split
    · exact List.drop_sublist 1 l
    · exact .refl l
  refine (List.nodup_append.mpr ⟨hl.2.sublist hsub, by simp, fun a ha c hc e => ?_⟩)
  exact hn (List.mem_singleton.mp hc ▸ e ▸ hsub.subset ha)

theorem addBroken_kept {set : Nat} {reason : DumpReason} (h : Kept d b s) : Kept d b (addBroken set reason s) := by
  refine ite_kept (fun _ => h) fun hn => answerBroken_kept (markSet_kept (h.step fun i _ => ?_))
  cases i with
  | broken => exact pushBroken_sound (by simpa using hn)
  | images => exact fun hs => ⟨(List.length_filter_le _ _).trans hs.1, hs.2.filter _⟩
  | _ => exact id

theorem breakSet_kept {set : Nat} {reason : DumpReason} (h : Kept d b s) : Kept d b (breakSet set reason s) :=
  ite_kept (fun _ => markSet_kept h) fun _ => addBroken_kept (send_kept h)

end

end Sys2Proof.Machine

/-! PROOFS. The same of the blocks that move, route, register, hand on and settle. -/

namespace Sys2Proof.Machine

section
variable {d : Bool} {b s : State}

/-! ### Machine/Gate.lean -/

theorem serveGate_kept (h : Kept d b s) : Kept d b (serveGate s) := by
  obtain ⟨p, o, m, e⟩ := serveGate_spec s
  exact h.of_parts (by rw [e]; rfl)

theorem gateStep_kept {ch : Channel} (h : Kept d b s) : Kept d b (gateStep ch s) := by
  unfold gateStep
  split
  · exact h
  · exact ite_kept (fun _ => h.of_parts rfl) fun _ => h

theorem freeOccupant_kept (h : Kept d b s) : Kept d b (freeOccupant s) := serveGate_kept (h.of_parts rfl)

theorem setRoute_kept {t : Tag} {route : Route} (h : Kept d b s) : Kept d b (setRoute t route s) :=
  mapRec_kept (withRoute_tag s route) h

theorem takeLoop_kept {t : Tag} (h : Kept d b s) : Kept d b (takeLoop t s) :=
  ite_kept (fun _ => h.of_parts rfl) fun _ => h

theorem takeMisroute_kept {t : Tag} (h : Kept d b s) : Kept d b (takeMisroute t s) :=
  ite_kept (fun _ => h.of_parts rfl) fun _ => h.of_parts rfl

theorem releaseMisroute_kept {t : Tag} (h : Kept d b s) : Kept d b (releaseMisroute t s) :=
  ite_kept (fun _ => h.of_parts rfl) fun _ => h

theorem commitMain_kept {r : Record} (h : Kept d b s) : Kept d b (commitMain r s) := h.of_parts rfl

theorem refuseOrder_kept {r : Record} (h : Kept d b s) : Kept d b (refuseOrder r s) := breakSet_kept (raise_kept h)

theorem interruptBill_kept {c seq : Nat} (h : Kept d b s) : Kept d b (interruptBill c seq s) :=
  (breakSet_kept (set := c) (reason := .sequence)
    (raise_kept (q := requestBare .sequence (some ⟨c, seq⟩) false s.gateSensor) h)).of_parts rfl

theorem routeFresh_kept {r : Record} (h : Kept d b s) : Kept d b (routeFresh r s).2 := by
  unfold routeFresh
  split
  · exact commitMain_kept h
  · exact refuseOrder_kept h

theorem routeAtExit_kept {r : Record} (h : Kept d b s) : Kept d b (routeAtExit r s).2 := by
  unfold routeAtExit
  split
  · exact h
  · split
    · exact routeFresh_kept h
    · split
      · split
        · exact commitMain_kept h
        · exact refuseOrder_kept h
      · exact routeFresh_kept (interruptBill_kept h)

theorem listAtGate_kept {t : Tag} (h : Kept d b s) : Kept d b (listAtGate t s) := h.of_parts rfl

theorem decideRoute_kept {r : Record} (h : Kept d b s) : Kept d b (decideRoute r s) := by
  unfold decideRoute
  split
  · exact serveGate_kept (ite_kept (fun _ => takeLoop_kept (listAtGate_kept (setRoute_kept h)))
      fun _ => listAtGate_kept (setRoute_kept h))
  · exact serveGate_kept (listAtGate_kept (setRoute_kept (routeAtExit_kept h)))
  · exact h

theorem occupyGate_kept {t : Tag} (h : Kept d b s) : Kept d b (occupyGate t s) := h.of_parts rfl

theorem misrouteToTray_kept {set : Nat} (h : Kept d b s) : Kept d b (misrouteToTray set s) := by
  unfold misrouteToTray
  split
  · refine ite_kept (fun _ => interruptBill_kept h) fun _ => ?_
    split
    · exact ite_kept (fun _ => interruptBill_kept h) fun _ => h
    · exact h
  · exact ite_kept (fun _ => interruptBill_kept h) fun _ => h
  · exact h

theorem spoilMisrouted_kept {r : Record} (h : Kept d b s) : Kept d b (spoilMisrouted r s) :=
  ite_kept (fun _ => mapRec_kept misroute_tag h) fun _ => breakSet_kept (mapRec_kept misroute_tag h)

theorem answerMisroute_kept {r : Record} {branch : Route} (h : Kept d b s) : Kept d b (answerMisroute r branch s) := by
  unfold answerMisroute
  split
  · exact takeMisroute_kept h
  · exact releaseMisroute_kept h
  · exact misrouteToTray_kept h
  · exact h

theorem routeFault_kept {r : Record} (h : Kept d b s) : Kept d b (routeFault r s) :=
  answerMisroute_kept (occupyGate_kept (spoilMisrouted_kept (setRoute_kept
    ((raise_kept (q := requestFor .route r (some r.pos) s.gateSensor) h).of_parts rfl))))

theorem checkGhost_kept {r : Record} (h : Kept d b s) : Kept d b (checkGhost r s) :=
  ite_kept (fun _ => h.of_parts rfl) fun _ => h

theorem purgeBinFull_kept {t : Tag} (h : Kept d b s) : Kept d b (purgeBinFull t s) :=
  onRec_kept h fun _ _ => ite_kept (fun _ => raise_kept h) fun _ => h

theorem atGate_kept {r : Record} (h : Kept d b s) : Kept d b (atGate r s) := by
  unfold atGate
  split
  · exact h
  · exact serveGate_kept (purgeBinFull_kept (checkGhost_kept
      (ite_kept (fun _ => occupyGate_kept h) fun _ => routeFault_kept h)))

/-! ### Machine/Registration.lean -/

theorem joinImages_kept {e : ImageEntry} (he : s.reg.images.contains e = false) (h : Kept d b s) :
    Kept d b (joinImages e s) := by
  have h1 : Kept d b (if 8 ≤ s.reg.images.length then countStale s else s) :=
    ite_kept (fun _ => h.of_parts rfl) fun _ => h
  have e1 : (if 8 ≤ s.reg.images.length then countStale s else s).reg = s.reg := by split <;> rfl
  refine h1.step fun i _ => ?_
  cases i with
  | images =>
    rintro ⟨hl, hn⟩
    show (pushImage e _).length ≤ 8 ∧ (pushImage e _).Nodup
    rw [e1] at hl hn ⊢
    have hsub : (if 8 ≤ s.reg.images.length then s.reg.images.drop 1 else s.reg.images).Sublist s.reg.images := by
      split
      · exact List.drop_sublist 1 _
      · exact .refl _
    unfold pushImage
    refine ⟨?_, List.nodup_append.mpr ⟨hn.sublist hsub, by simp, fun a ha c hc hac => ?_⟩⟩
    · split <;> simp <;> omega
    · have : e ∈ s.reg.images := List.mem_singleton.mp hc ▸ hac ▸ hsub.subset ha
      simp [this] at he
  | _ => exact id

theorem dropImages_kept {r : Record} (h : Kept d b s) : Kept d b (dropImages r s) :=
  h.step fun i _ => by
    cases i with
    | images => exact fun hs => ⟨(List.length_filter_le _ _).trans hs.1, hs.2.filter _⟩
    | _ => exact id

theorem giveSync_kept {r : Record} (h : Kept d b s) : Kept d b (giveSync r s) :=
  (h.sent (post_sent _ _ _)).of_parts rfl

theorem setImage_kept {t : Tag} {i : ImageState} (h : Kept d b s) : Kept d b (setImage t i s) :=
  mapRec_kept (fun _ => rfl) h

theorem raiseImage_kept {r : Record} (h : Kept d b s) : Kept d b (raiseImage r s) := raise_kept h

theorem syncAction_kept {r : Record} (h : Kept d b s) : Kept d b (syncAction r s) := by
  unfold syncAction
  split
  · exact ite_kept (fun _ => setImage_kept h) fun _ => giveSync_kept (setImage_kept h)
  · exact reviewImageWait_kept (raiseImage_kept (setImage_kept h))
  · exact h

theorem beginImageWait_kept {t : Tag} (h : Kept d b s) : Kept d b (beginImageWait t s) :=
  ite_kept (fun _ => setImage_kept h) fun _ =>
    (addReason_kept (r := .imageWait) (setImage_kept (t := t) (i := .waiting) h)).of_parts (by
      obtain ⟨_, _, _, _, e, -⟩ := addReason_spec .imageWait (setImage t .waiting s)
      rw [e]
      rfl)

theorem decideImage_kept {r : Record} (h : Kept d b s) : Kept d b (decideImage r s) :=
  ite_kept (fun _ => setImage_kept (dropImages_kept h)) fun _ =>
    ite_kept (fun _ => setImage_kept (dropImages_kept h)) fun _ => beginImageWait_kept h

theorem atRegSensor_kept {t : Tag} {before : Nat} (h : Kept d b s) : Kept d b (atRegSensor t before s) := by
  refine onRec_kept h fun r _ => ite_kept (fun _ => h) fun _ => ite_kept (fun _ => ?_) fun _ => decideImage_kept h
  have hm := mapRec_kept (t := t) (f := fun x : Record => { x with reached := { x.reached with sync := true } })
    (fun _ => rfl) (decideImage_kept (r := r) h)
  exact onRec_kept hm fun _ _ => syncAction_kept hm

theorem missedReg_kept {r : Record} (h : Kept d b s) : Kept d b (missedReg r s) := raiseImage_kept (setImage_kept h)

theorem expireImages_kept {rs : List Record} (h : Kept d b s) : Kept d b (expireImages rs s) :=
  foldl_kept (fun _ _ h => ite_kept (fun _ => raiseImage_kept (setImage_kept h)) fun _ => h) rs h

theorem takeImage_kept {e : ImageEntry} (h : Kept d b s) : Kept d b (takeImage e s) := by
  refine ite_kept (fun _ => h) fun _ => ?_
  split
  · exact ite_kept (fun _ => reviewImageWait_kept (setImage_kept h)) fun _ => h.of_parts rfl
  · exact ite_kept (fun _ => h) fun hn => joinImages_kept (by simpa using hn) h

/-! ### Machine/Handoff.lean -/

theorem leaveQueue_kept {r : Record} (h : Kept d b s) : Kept d b (leaveQueue r s) := by
  refine serveGate_kept (reviewImageWait_kept (h.step fun i _ => ?_))
  have hB : (if s.inv.loop = some r.tag then { s.drive with chB := s.drive.chB.request .forward } else s.drive).hold =
      s.drive.hold := by split <;> rfl
  cases i with
  | queue =>
    rintro ⟨hl, hn⟩
    exact ⟨(List.length_filter_le _ _).trans hl, hn.sublist (List.filter_sublist.map _)⟩
  | hold =>
    intro hs
    simpa only [State.meets, State.holdSound, hB] using hs
  | pending =>
    intro hs
    simpa only [State.meets, State.pendingSound, faults_without_codes] using hs
  | orders =>
    intro hs
    simp only [State.meets, State.ordersSound]
    split <;> exact hs
  | shape =>
    intro hs
    simpa [State.meets, State.shapeSound, SensorUnit.without] using hs
  | driven =>
    simp only [State.meets, drivenSound_iff]
    split
    · simp only [request_run]
      exact id
    · exact id
  | _ => exact id

theorem joinBroken_kept {r : Record} (h : Kept d b s) : Kept d b (joinBroken r s) :=
  ite_kept (fun _ => h) fun _ => ite_kept (fun _ => mapRec_kept (breakIn_tag _) h) fun _ =>
    ite_kept (fun _ => addBroken_kept h) fun _ => h

theorem joinSpeed_kept {r : Record} (h : Kept d b s) : Kept d b (joinSpeed r s) :=
  ite_kept (fun _ => h.of_parts rfl) fun _ => ite_kept (fun _ => raise_kept h) fun _ => h

theorem countGhost_kept {r : Record} (h : Kept d b s) : Kept d b (countGhost r s) :=
  ite_kept (fun _ => h.of_parts rfl) fun _ => h

@[simp] theorem joinSpeed_track (r : Record) (s : State) : (joinSpeed r s).track = s.track := by
  unfold joinSpeed
  split
  · rfl
  · split <;> rfl

@[simp] theorem countGhost_track (r : Record) (s : State) : (countGhost r s).track = s.track := by
  unfold countGhost
  split <;> rfl

/-- A tag is held where some record of the queue carries it (R11). -/
theorem held_eq_false {t : Tag} (h : s.held t = false) : t ∉ s.track.queue.map Record.tag := by
  intro hm
  obtain ⟨r, hr, rfl⟩ := List.mem_map.mp hm
  have hn : s.track.queue.find? (fun x => x.tag == r.tag) = none := by simpa [State.held, State.rec?] using h
  simpa using List.find?_eq_none.mp hn r hr

/-- A record joins where there is room for it and none of its tag (R11). -/
theorem appendRecord_kept {r : Record} (hl : s.track.queue.length < 8) (hh : s.held r.tag = false) (h : Kept d b s) :
    Kept d b (appendRecord r s) :=
  h.step fun i _ => by
    cases i with
    | queue =>
      rintro ⟨-, hn⟩
      refine ⟨by simp [appendRecord]; omega, ?_⟩
      simp only [appendRecord, List.map_append, List.map_cons, List.map_nil, List.nodup_append]
      refine ⟨hn, by simp, fun a ha c hc hac => held_eq_false hh ?_⟩
      exact List.mem_singleton.mp hc ▸ hac ▸ ha
    | _ => exact id

theorem joinQueue_kept {r : Record} (hl : s.track.queue.length < 8) (hh : s.held r.tag = false) (h : Kept d b s) :
    Kept d b (joinQueue r s) :=
  joinBroken_kept (appendRecord_kept (by simpa using hl) (by simpa [State.held, State.rec?] using hh)
    (countGhost_kept (joinSpeed_kept h)))

theorem noteSet_kept {side : Side} {ghost : Bool} {set : Nat} {last : Bool} (h : Kept d b s) :
    Kept d b (noteSet side ghost set last s) :=
  ite_kept (fun _ => h) fun _ => h.of_parts rfl

@[simp] theorem noteSet_track (side : Side) (ghost : Bool) (set : Nat) (last : Bool) (s : State) :
    (noteSet side ghost set last s).track = s.track := by
  unfold noteSet
  split <;> rfl

theorem sendOffer_kept {r : Record} (h : Kept d b s) : Kept d b (sendOffer r s) :=
  mapRec_kept (fun _ => rfl) (send_kept h)

theorem offerIfDue_kept {t : Tag} (h : Kept d b s) : Kept d b (offerIfDue t s) :=
  onRec_kept h fun _ _ => ite_kept (fun _ => sendOffer_kept h) fun _ => h

theorem sendOffers_kept (h : Kept d b s) : Kept d b (sendOffers s) :=
  ite_kept (fun _ => foldl_kept (fun _ _ h => offerIfDue_kept h) _ h) fun _ => h

theorem passRecord_kept {r : Record} (h : Kept d b s) : Kept d b (passRecord r s) :=
  extendHolds_kept (mapRec_kept (fun _ => rfl) (send_kept h))

theorem passIfTaken_kept {r : Record} (h : Kept d b s) : Kept d b (passIfTaken r s) :=
  ite_kept (fun _ => passRecord_kept h) fun _ => h

theorem deferOffer_kept {side : UpSide} {o : Offer} {reason : DeferReason} (h : Kept d b s) :
    Kept d b (deferOffer side o reason s) := by
  have h1 : Kept d b
      { s with
        port := s.port.post (s.sideAddr side) (.defer o.tag o.last reason)
        hand := (s.hand.setSlot none side).setDeferral
          { reason := reason, dup := if reason = .duplicate then some o.tag else none } side } :=
    (h.sent (post_sent _ _ _)).of_parts rfl
  unfold deferOffer
  refine ite_kept (fun _ => ?_) fun _ => h1
  split
  · exact raise_kept h1
  · exact raise_kept h1

/-- An offer that no cause stops finds room, and no record of its tag (R78). -/
theorem judge_free {side : UpSide} {o : Offer} (h : s.judge side o = .free) :
    s.track.queue.length < 8 ∧ s.held o.tag = false := by
  unfold State.judge at h
  split_ifs at h with _ _ h1 _ h2
  exact ⟨Nat.lt_of_not_le h2, by simpa using fun e => h1 (.inl e)⟩

theorem takeOffer_kept {side : UpSide} {o : Offer} (hl : s.track.queue.length < 8) (hh : s.held o.tag = false)
    (h : Kept d b s) : Kept d b (takeOffer side o s) :=
  joinQueue_kept (by simpa using hl) (by simpa [State.held, State.rec?, freshRecord] using hh)
    (noteSet_kept ((h.sent (post_sent _ _ _)).of_parts rfl))

theorem takeSide_kept {side : UpSide} {contested : Bool} (hf : s.slotFree side = true) (h : Kept d b s) :
    Kept d b (takeSide side contested s) := by
  unfold takeSide
  unfold State.slotFree at hf
  split
  · rename_i o ho
    simp only [ho, decide_eq_true_eq] at hf
    exact takeOffer_kept (judge_free hf).1 (judge_free hf).2 (h.of_parts rfl)
  · exact h

theorem takeFree_kept (h : Kept d b s) : Kept d b (takeFree s) := by
  refine ite_kept (fun hf => takeSide_kept ?_ h) fun _ => ite_kept (fun hf => takeSide_kept hf h) fun _ =>
    ite_kept (fun hf => takeSide_kept hf h) fun _ => h
  cases s.winner with
  | up1 => exact hf.1
  | up2 => exact hf.2

theorem examineSlot_kept {side : UpSide} (h : Kept d b s) : Kept d b (examineSlot side s) := by
  unfold examineSlot
  split
  · exact h
  · split
    · exact deferOffer_kept h
    · exact h

theorem examineSlots_kept (h : Kept d b s) : Kept d b (examineSlots s) :=
  takeFree_kept (examineSlot_kept (examineSlot_kept h))

theorem takeOfferFrame_kept {src : Nat} {o : Offer} (h : Kept d b s) : Kept d b (takeOfferFrame src o s) :=
  have h1 := examineSlot_kept (side := s.slotOf src)
    (Kept.of_parts (t := { s with hand := s.hand.setSlot (some o) (s.slotOf src) }) h rfl)
  ite_kept (fun _ => takeFree_kept h1) fun _ => h1

theorem enterRecord_kept {r : Record} (h : Kept d b s) : Kept d b (enterRecord r s) :=
  extendHolds_kept (mapRec_kept (fun _ => rfl) h)

theorem endHoldWait_kept {t : Tag} (h : Kept d b s) : Kept d b (endHoldWait t s) :=
  ite_kept (fun _ => removeReason_kept (h.of_parts rfl)) fun _ => h

theorem beginHoldWait_kept {t : Tag} (h : Kept d b s) : Kept d b (beginHoldWait t s) :=
  addReason_kept (h.of_parts rfl)

/-! ### Machine/Thresholds.lean -/

theorem testEntry_kept {t : Tag} (h : Kept d b s) : Kept d b (testEntry t s) :=
  onRec_kept h fun _ _ => ite_kept (fun _ => mapRec_kept (fun _ => rfl) h) fun _ => h

theorem testOffer_kept {t : Tag} (h : Kept d b s) : Kept d b (testOffer t s) :=
  onRec_kept h fun _ _ => ite_kept (fun _ => mapRec_kept (fun _ => rfl) h) fun _ =>
    ite_kept (fun _ => mapRec_kept (fun _ => rfl) h) fun _ => h

theorem testStop_kept {t : Tag} (h : Kept d b s) : Kept d b (testStop t s) :=
  onRec_kept h fun _ _ => ite_kept (fun _ => mapRec_kept (fun _ => rfl) h) fun _ => h

theorem testReturnStop_kept {t : Tag} (h : Kept d b s) : Kept d b (testReturnStop t s) := by
  have h1 := mapRec_kept (t := t) (f := fun x : Record => { x with reached := { x.reached with revStop := true } })
    (fun _ => rfl) h
  exact onRec_kept h fun _ _ => ite_kept (fun _ => ite_kept (fun _ => h1.of_parts rfl) fun _ => h1) fun _ => h

theorem testExit_kept {t : Tag} (h : Kept d b s) : Kept d b (testExit t s) :=
  onRec_kept h fun _ _ => ite_kept (fun _ => passIfTaken_kept (mapRec_kept (fun _ => rfl) h)) fun _ =>
    ite_kept (fun _ => passIfTaken_kept (mapRec_kept (fun _ => rfl) h)) fun _ => h

theorem testExitTrail_kept {t : Tag} (h : Kept d b s) : Kept d b (testExitTrail t s) :=
  onRec_kept h fun _ _ => ite_kept (fun _ => leaveQueue_kept h) fun _ => h

theorem testDeadline_kept {t : Tag} (h : Kept d b s) : Kept d b (testDeadline t s) := by
  have h1 := mapRec_kept (t := t) (f := fun x : Record => { x with reached := { x.reached with deadline := true } })
    (fun _ => rfl) h
  have h2 := mapRec_kept (t := t) (f := fun x : Record => { x with reached := { x.reached with revDeadline := true } })
    (fun _ => rfl) h
  exact onRec_kept h fun _ _ => ite_kept (fun _ => ite_kept (fun _ => raise_kept h1) fun _ => h1) fun _ =>
    ite_kept (fun _ => ite_kept (fun _ => raise_kept h2) fun _ => h2) fun _ => h

theorem testDecision_kept {t : Tag} (h : Kept d b s) : Kept d b (testDecision t s) :=
  onRec_kept h fun _ _ => by
    dsimp only
    split
    · exact h
    · exact ite_kept (fun _ => decideRoute_kept (mapRec_kept (fun _ => rfl) h)) fun _ => h

theorem testGate_kept {t : Tag} (h : Kept d b s) : Kept d b (testGate t s) :=
  onRec_kept h fun _ _ => by
    dsimp only
    split
    · exact h
    · exact ite_kept (fun _ => atGate_kept (mapRec_kept (fun _ => rfl) h)) fun _ => h

theorem testGhostGate_kept {t : Tag} (h : Kept d b s) : Kept d b (testGhostGate t s) :=
  onRec_kept h fun _ _ => by
    split
    · exact h
    · exact ite_kept (fun _ => freeOccupant_kept h) fun _ => h

theorem syncHere_kept {r : Record} (h : Kept d b s) : Kept d b (syncHere r s) :=
  ite_kept (fun _ => h) fun _ => syncAction_kept h

theorem testSync_kept {t : Tag} (h : Kept d b s) : Kept d b (testSync t s) :=
  onRec_kept h fun _ _ => by
    dsimp only
    split
    · exact h
    · exact ite_kept (fun _ => syncHere_kept (mapRec_kept (fun _ => rfl) h)) fun _ => h

theorem testCompileStop_kept {t : Tag} (h : Kept d b s) : Kept d b (testCompileStop t s) :=
  onRec_kept h fun _ _ => ite_kept (fun _ => mapRec_kept (fun _ => rfl) h) fun _ => h

theorem testPurge_kept {t : Tag} (h : Kept d b s) : Kept d b (testPurge t s) :=
  onRec_kept h fun _ _ => ite_kept (fun _ => leaveQueue_kept h) fun _ => h

theorem testThresholds_kept {t : Tag} (h : Kept d b s) : Kept d b (testThresholds t s) :=
  testPurge_kept (testCompileStop_kept (testSync_kept (testGhostGate_kept (testGate_kept (testDecision_kept
    (testDeadline_kept (testExitTrail_kept (testExit_kept (testReturnStop_kept (testStop_kept (testOffer_kept
      (testEntry_kept h))))))))))))

theorem handConfirmation_kept {k : Nat} {r : Record} {before : Nat} (h : Kept d b s) :
    Kept d b (handConfirmation k r before s) := by
  unfold handConfirmation
  have h1 : Kept d b (if k = 0 then
      (match s.upstreamOf r.source with
       | some a => send a (.arrived r.tag r.last) s
       | none =>
         if s.role = .feed ∧ s.feed.pick = some r.tag then { s with feed := { s.feed with pick := none } } else s)
      else s) := by
    refine ite_kept (fun _ => ?_) fun _ => h
    split
    · exact send_kept h
    · exact ite_kept (fun _ => h.of_parts rfl) fun _ => h
  exact ite_kept (fun _ => atRegSensor_kept h1) fun _ => h1

theorem confirmGhost_kept {fuel : Nat} {t : Tag} (h : Kept d b s) : Kept d b (confirmGhost fuel t s) := by
  induction fuel generalizing s with
  | zero => exact h
  | succ n ih =>
    unfold confirmGhost
    split
    · exact h
    · split
      · exact h
      · exact ite_kept (fun _ => ih (handConfirmation_kept (mapRec_kept (ghostConfirmAt_tag _ _) (setSensor_kept h))))
          fun _ => h

/-! ### Machine/Settle.lean -/

theorem settleStop_kept {before : State} (h : Kept d b s) : Kept d b (settleStop before s) := by
  unfold settleStop
  split
  · exact h
  · exact ite_kept (fun _ => h) fun _ => beginHoldWait_kept h

theorem settleTray_kept {before : State} (h : Kept d b s) : Kept d b (settleTray before s) :=
  ite_kept (fun _ => ite_kept (fun _ => h) fun _ => addReason_kept h) fun _ =>
    ite_kept (fun _ => removeReason_kept h) fun _ => h

theorem settleLoop_kept {before : State} (h : Kept d b s) : Kept d b (settleLoop before s) :=
  ite_kept (fun _ => addReason_kept h) fun _ => h

theorem settleSlots_kept {before : State} (h : Kept d b s) : Kept d b (settleSlots before s) :=
  ite_kept (fun _ => examineSlots_kept h) fun _ => h

theorem settleHolds_kept {before : State} (h : Kept d b s) : Kept d b (settleHolds before s) :=
  sendDuplicateReadies_kept (settleSlots_kept (settleLoop_kept (settleTray_kept (settleStop_kept (sendOffers_kept h)))))

/-- A channel that has no demand does not run on (R54, R55). -/
theorem mayRun_iff : s.mayRun = true ↔ s.ctl.st.steps = true ∧ s.drive.hold = [] := by
  simp [State.mayRun, List.isEmpty_iff]

theorem mayRun_of_demandA (h : s.demandA = true) : s.mayRun = true := by
  simp only [State.demandA, Bool.and_eq_true] at h
  exact h.1

theorem mayRun_of_demandB (h : s.demandB = true) : s.mayRun = true := by
  simp only [State.demandB, Bool.and_eq_true] at h
  exact h.1

/-- Once channels without demand have lost it, none runs where it may not (R54). -/
theorem settleStops_driven : (settleStops s).drivenSound := by
  rw [drivenSound_iff]
  simp only [settleStops, applyWant_run]
  rintro (hr | hr)
  · split at hr
    · exact mayRun_iff.mp (mayRun_of_demandA ‹_›)
    · exact (hr.elim (loseDemand_stands _).1 (loseDemand_stands _).2).elim
  · split at hr
    · exact mayRun_iff.mp (mayRun_of_demandB ‹_›)
    · exact (hr.elim (loseDemand_stands _).1 (loseDemand_stands _).2).elim

/-- A channel stops where it has lost demand, so settling keeps every bound and restores that of the channels. -/
theorem settleStops_kept (h : Kept false b s) : Kept true b (settleStops s) := fun i _ hb => by
  cases i with
  | driven => exact settleStops_driven
  | _ => exact h _ (by simp) hb

theorem reverseLoop_kept (h : Kept d b s) : Kept d b (reverseLoop s) := by
  unfold reverseLoop
  split
  · exact h
  · refine testThresholds_kept (mapRec_kept (rebase_tag _ _) ?_)
    exact (chans_kept (x := s.drive.chA) (y := s.drive.chB.request .reverse) id (by simp) h).of_parts rfl

theorem settleReversal_kept (h : Kept d b s) : Kept d b (settleReversal s) :=
  ite_kept (fun _ => sendOffers_kept (reverseLoop_kept h)) fun _ => h

theorem settleTimers_kept (h : Kept d b s) : Kept d b (settleTimers s) :=
  h.of_parts (by simp only [State.parts, settleTimers]; split <;> rfl)

theorem settleStarts_kept (h : Kept d b s) : Kept d b (settleStarts s) :=
  h.step fun i _ => by
    cases i with
    | driven =>
      simp only [State.meets, drivenSound_iff, settleStarts]
      rintro hs (hr | hr)
      · split at hr
        · exact mayRun_iff.mp (mayRun_of_demandA ‹_›)
        · exact hs (.inl hr)
      · split at hr
        · exact mayRun_iff.mp (mayRun_of_demandB ‹_›)
        · exact hs (.inr hr)
    | _ => exact id

theorem settleDrive_kept (h : Kept false b s) : Kept d b (settleDrive s) :=
  (Kept.of_parts (t := settleDrive s)
    (settleStarts_kept (settleTimers_kept (settleReversal_kept (settleStops_kept h)))) rfl).weaken

theorem settle_kept {before : State} (h : Kept false b s) : Kept d b (settle before s) :=
  settleDrive_kept (settleHolds_kept h)

end

end Sys2Proof.Machine

/-! PROOFS. The same of the commands, and of a step: every bound of Safety.lean is kept (R11, R20, R54, R59, R85, R112, R140,
R141, R148, R180, R184, R189). -/

namespace Sys2Proof.Machine

section
variable {d : Bool} {b s : State}

/-! ### Machine/Compile.lean -/

theorem applyEntry_kept {e : TrayEntry} (h : Kept d b s) : Kept d b (applyEntry e s) := by
  have h1 : Kept d b { s with comp := s.comp.counted e } := h.of_parts rfl
  exact ite_kept (fun _ => orderDump_kept h1) fun _ => ite_kept (fun _ => orderEject_kept h1) fun _ =>
    ite_kept (fun _ => orderEject_kept h1) fun _ => h1

theorem breakSuspect_kept {e : TrayEntry} (h : Kept d b s) : Kept d b (breakSuspect e s) :=
  ite_kept (fun _ => breakSet_kept h) fun _ => h

theorem addLate_kept {e : TrayEntry} (h : Kept d b s) : Kept d b (addLate e s) := h.of_parts rfl

theorem enterTray_kept {r : Record} {suspect : Bool} (h : Kept d b s) : Kept d b (enterTray r suspect s) :=
  breakSuspect_kept (ite_kept (fun _ => applyEntry_kept (leaveQueue_kept h)) fun _ => addLate_kept (leaveQueue_kept h))

theorem applyLate_kept {late : List TrayEntry} (h : Kept d b s) : Kept d b (applyLate late s) := by
  induction late generalizing s with
  | nil => exact h.of_parts rfl
  | cons e rest ih =>
    exact ite_kept (fun _ => ih (applyEntry_kept h)) fun _ => (applyEntry_kept (e := e) h).of_parts rfl

theorem completeEject_kept (h : Kept d b s) : Kept d b (completeEject s) := applyLate_kept (h.of_parts rfl)

theorem completeDump_kept (h : Kept d b s) : Kept d b (completeDump s) := applyLate_kept (h.of_parts rfl)

/-! ### Machine/Tracking.lean -/

theorem moveRecords_kept {ch : Channel} (h : Kept d b s) : Kept d b (moveRecords ch s) :=
  mapQueue_kept (fun r => by split <;> rfl) h

theorem moveSensors_kept {ch : Channel} (h : Kept d b s) : Kept d b (moveSensors ch s) :=
  h.of_parts (by simp [State.parts, moveSensors])

theorem moveRunout_kept {ch : Channel} (h : Kept d b s) : Kept d b (moveRunout ch s) :=
  ite_kept (fun _ => ite_kept (fun _ => h.of_parts rfl) fun _ => h.of_parts rfl) fun _ => h

theorem missAt_kept {k : Nat} {r : Record} (h : Kept d b s) : Kept d b (missAt k r s) := by
  have h1 := mapRec_kept (t := r.tag) (f := Record.advance s k) (advance_tag s k)
    (raise_kept (q := requestFor .miss r (some r.pos) (some k)) h)
  have h2 := ite_kept (c := s.role = .register ∧ s.regSensor = some k ∧ r.dir = .forward)
    (fun _ => onRec_kept (t := r.tag) (f := missedReg) h1 fun _ _ => missedReg_kept h1) fun _ => h1
  exact ite_kept (fun _ => freeOccupant_kept h2) fun _ => h2

theorem testLate_kept {t : Tag} (h : Kept d b s) : Kept d b (testLate t s) :=
  onRec_kept h fun _ _ => by
    split
    · exact ite_kept (fun _ => missAt_kept h) fun _ => h
    · exact h

theorem testRearm_kept {t : Tag} (h : Kept d b s) : Kept d b (testRearm t s) :=
  onRec_kept h fun _ _ => by
    split
    · exact ite_kept (fun _ => mapRec_kept (rearm_tag s) h) fun _ => h
    · exact h

theorem testStall_kept {t : Tag} {k : Nat} (h : Kept d b s) : Kept d b (testStall t s k) :=
  onRec_kept h fun _ _ => ite_kept (fun _ => raise_kept (setSensor_kept h)) fun _ => h

theorem testStalls_kept {t : Tag} (h : Kept d b s) : Kept d b (testStalls t s) :=
  foldl_kept (fun _ _ h => testStall_kept h) _ h

theorem startRunout_kept (h : Kept d b s) : Kept d b (startRunout s) := h.of_parts rfl

theorem testRunout_kept {t : Tag} (h : Kept d b s) : Kept d b (testRunout t s) :=
  onRec_kept h fun _ _ => by
    split
    · exact h
    · exact ite_kept (fun _ => startRunout_kept h) fun _ => h

theorem testTray_kept {t : Tag} (h : Kept d b s) : Kept d b (testTray t s) :=
  onRec_kept h fun _ _ => by
    split
    · exact h
    · exact ite_kept (fun _ => enterTray_kept h) fun _ => h

theorem testRecord_kept {t : Tag} (h : Kept d b s) : Kept d b (testRecord t s) :=
  testRearm_kept (testTray_kept (testRunout_kept (testThresholds_kept (confirmGhost_kept (testStalls_kept (testLate_kept
    (testEntry_kept h)))))))

theorem stepChannel_kept {ch : Channel} (h : Kept d b s) : Kept d b (stepChannel ch s) :=
  foldl_kept (fun _ _ h => testRecord_kept h) _
    (moveRunout_kept (gateStep_kept (moveSensors_kept (moveRecords_kept (setChan_issue_kept h)))))

theorem checkGap_kept {k p : Nat} {t : Tag} (h : Kept d b s) : Kept d b (checkGap k p t s) :=
  onRec_kept h fun _ _ => ite_kept (fun _ => raise_kept h) fun _ => h

theorem confirmEdge_kept {k : Nat} {r : Record} (h : Kept d b s) : Kept d b (confirmEdge k r s) :=
  handConfirmation_kept (testThresholds_kept (checkGap_kept (mapRec_kept (confirmAt_tag _ _) (setSensor_kept h))))

theorem earlyEdge_kept {k : Nat} {r : Record} (h : Kept d b s) : Kept d b (earlyEdge k r s) :=
  checkGap_kept (raise_kept (setSensor_kept h))

theorem checkLead_kept {k : Nat} (h : Kept d b s) : Kept d b (checkLead k s) := by
  unfold checkLead
  split
  · exact raise_kept (setSensor_kept h)
  · exact ite_kept (fun _ => setSensor_kept h) fun _ =>
      ite_kept (fun _ => confirmEdge_kept h) fun _ => earlyEdge_kept h

theorem sweepLead_kept {k : Nat} (h : Kept d b s) : Kept d b (sweepLead k s) := by
  have h1 : Kept d b { s with sweep := { s.sweep with results := s.sweep.results.residual k } } := h.of_parts rfl
  unfold sweepLead
  split
  · exact setSensor_kept h1
  · exact setSensor_kept h1

theorem takeLead_kept {k : Nat} (h : Kept d b s) : Kept d b (takeLead k s) :=
  ite_kept (fun _ => checkLead_kept (setSensor_kept h)) fun _ =>
    ite_kept (fun _ => sweepLead_kept (setSensor_kept h)) fun _ => setSensor_kept (setSensor_kept h)

theorem handGate_kept {k : Nat} (h : Kept d b s) : Kept d b (handGate k s) :=
  ite_kept (fun _ => freeOccupant_kept h) fun _ => h

theorem handInvert_kept {k : Nat} {r : Record} (h : Kept d b s) : Kept d b (handInvert k r s) :=
  ite_kept (fun _ => startRunout_kept h) fun _ => h

theorem handCompile_kept {k : Nat} {r : Record} {q : Sensor} {short : Bool} (h : Kept d b s) :
    Kept d b (handCompile k r q short s) :=
  ite_kept (fun _ => enterTray_kept h) fun _ => h

theorem takeOwned_kept {k : Nat} {q : Sensor} {r : Record} (h : Kept d b s) : Kept d b (takeOwned k q r s) := by
  have h1 := ite_kept (c := s.shortDue q r = true)
    (fun _ => raise_kept (q := requestFor .short r (some r.pos) (some k)) h) fun _ => h
  exact ite_kept (fun _ => handCompile_kept (handInvert_kept (handGate_kept h1))) fun _ => h1

theorem takeTrail_kept {k : Nat} (h : Kept d b s) : Kept d b (takeTrail k s) := by
  unfold takeTrail
  split
  · exact takeOwned_kept (setSensor_kept h)
  · exact ite_kept (fun _ => handGate_kept (setSensor_kept h)) fun _ => setSensor_kept h

/-! ### Machine/Feed.lean -/

theorem feedHeard_kept {o : FeedOrder} (h : Kept d b s) : Kept d b (feedHeard o s) := by
  refine ite_kept (fun ha => settle_kept ?_) fun _ => h.of_parts rfl
  refine Kept.step (fun i _ hb => h i (by simp_all) hb) fun i _ => ?_
  cases i with
  | orders =>
    rintro ⟨hl, hn⟩
    simp only [State.acceptsOrder, Bool.and_eq_true, decide_eq_true_eq, Bool.not_eq_true', List.any_eq_false,
      beq_iff_eq] at ha
    obtain ⟨⟨-, hlt⟩, hne⟩ := ha
    refine ⟨by simp; omega, ?_⟩
    simp only [List.map_append, List.map_cons, List.map_nil, List.nodup_append]
    refine ⟨hn, by simp, fun a ha c hc hac => ?_⟩
    obtain ⟨x, hx, rfl⟩ := List.mem_map.mp ha
    exact hne x hx (hac.trans (List.mem_singleton.mp hc))
  | _ => exact id

theorem supplyOut_kept (h : Kept d b s) : Kept d b (supplyOut s) :=
  ite_kept (fun _ => h) fun _ => (raise_kept (q := requestBare .bin none false none) h).of_parts rfl

/-- The orders that are left keep the bounds. -/
theorem dropOrders_kept {l : List FeedOrder} (hl : l.Sublist s.feed.orders) (h : Kept d b s) :
    Kept d b { s with feed := { s.feed with orders := l } } :=
  h.step fun i _ => by
    cases i with
    | orders => exact fun hs => ⟨hl.length_le.trans hs.1, hs.2.sublist (hl.map _)⟩
    | _ => exact id

theorem startPick_kept {o : FeedOrder} (hl : s.track.queue.length < 8) (hh : s.held o.tag = false) (h : Kept d b s) :
    Kept d b (startPick o s) :=
  joinQueue_kept (by simpa using hl) (by simpa [State.held, State.rec?, pickedRecord, freshRecord] using hh)
    (noteSet_kept (h.of_parts rfl))

theorem pickFrom_kept {orders : List FeedOrder} (ho : orders.Sublist s.feed.orders) (h : Kept d b s) :
    Kept d b (pickFrom orders s) := by
  induction orders generalizing s with
  | nil => exact h
  | cons o rest ih =>
    have hr : rest.Sublist s.feed.orders := (List.sublist_cons_self o rest).trans ho
    refine ite_kept (fun _ => h) fun hp => ite_kept (fun _ => supplyOut_kept h) fun _ => ?_
    refine ite_kept (fun _ => ih (List.Sublist.refl _) (raise_kept (dropOrders_kept hr h))) fun hh => ?_
    have hroom : s.track.queue.length < 8 := by
      simp only [State.pickReady, Bool.and_eq_false_iff, not_or] at hp
      simpa using hp.1.1.2
    exact startPick_kept hroom (by simpa using hh) (dropOrders_kept hr h)

/-! ### Machine/Control.lean -/

theorem onEntry_kept {n : StationState} (h : Kept d b s) : Kept d b (onEntry n s) := by
  have hl : Kept d b
      { s with
        sweep := { s.sweep with active := false }
        flt := { s.flt with pending := [] }
        hand := { s.hand with slot1 := none, slot2 := none } } := h.step fun i _ => by
    cases i with
    | pending => exact fun _ => List.nodup_nil
    | _ => exact id
  unfold onEntry
  split
  · exact sendReadies_kept h
  · exact sendReadies_kept (h.of_parts rfl)
  · exact sendReadies_kept h
  · exact clearHold_kept h
  · exact clearHold_kept (h.of_parts rfl)
  · exact clearHold_kept hl
  · exact h

/-- Entering a state keeps every bound but that of the channels, which settling restores (R54). -/
theorem enterState_kept {n : StationState} (h : Kept false b s) : Kept false b (enterState n s) := by
  refine ite_kept (fun _ => h) fun _ => onEntry_kept (h.step fun i hi => ?_)
  cases i with
  | driven => cases hi rfl
  | _ => exact id

/-- Where no steps are issued the channels stand or ramp down, and any state may be entered (R54). -/
theorem enterState_kept_of_idle {n : StationState} (hs : s.ctl.st.steps = false) (h : Kept d b s) :
    Kept d b (enterState n s) := by
  refine ite_kept (fun _ => h) fun _ => onEntry_kept (h.step fun i _ => ?_)
  cases i with
  | driven =>
    simp only [State.meets, drivenSound_iff]
    exact fun hd hr => absurd (hd hr).1 (by simp [hs])
  | _ => exact id

theorem examinePick_kept (h : Kept d b s) : Kept d b (examinePick s) :=
  ite_kept (fun _ => pickFrom_kept (List.Sublist.refl _) h) fun _ => h

theorem changeState_kept {n : StationState} (h : Kept false b s) : Kept false b (changeState n s) :=
  ite_kept (fun _ => h) fun _ => examinePick_kept (examineSlots_kept (enterState_kept h))

theorem endSweep_kept (h : Kept false b s) : Kept false b (endSweep s) :=
  changeState_kept ((h.sent (post_sent _ _ _)).of_parts rfl)

theorem endSweepIfDue_kept (h : Kept false b s) : Kept false b (endSweepIfDue s) :=
  ite_kept (fun _ => endSweep_kept h) fun _ => h

theorem drainSweep_kept (h : Kept false b s) : Kept false b (drainSweep s) := endSweepIfDue_kept (h.of_parts rfl)

theorem drainStation_kept (h : Kept false b s) : Kept false b (drainStation s) := by
  unfold drainStation
  split
  · exact changeState_kept h
  · exact drainSweep_kept h
  · exact h

theorem startStation_kept (h : Kept true b s) : Kept true b (startStation s) :=
  ite_kept (fun _ => settle_kept (reply_kept (changeState_kept h.weaken))) fun _ => reply_kept h

theorem drainCommand_kept (h : Kept true b s) : Kept true b (drainCommand s) :=
  ite_kept (fun _ => settle_kept (reply_kept (drainStation_kept h.weaken))) fun _ => reply_kept h

theorem linesFallen_kept {before : State} (h : Kept d b s) : Kept d b (linesFallen before s) := by
  have h1 := ite_kept (c := before.functionActive .binFull = true ∧ s.functionActive .binFull = false)
    (fun _ => binFreed_kept h) fun _ => h
  exact ite_kept (fun _ => h1.of_parts rfl) fun _ => h1

theorem linesRisen_kept {before : State} (h : Kept false b s) : Kept false b (linesRisen before s) := by
  have h1 := ite_kept (c := before.functionActive .interlock = false ∧ s.functionActive .interlock = true ∧
      s.ctl.st.interlocks = true)
    (fun _ => raise_kept (q := requestBare .interlock none false none) h) fun _ => h
  exact ite_kept (fun _ => drainStation_kept h1) fun _ => h1

theorem raiseHandoff_kept {t : Option Tag} (h : Kept d b s) : Kept d b (raiseHandoff t s) := by
  unfold raiseHandoff
  split
  · exact h
  · exact onRec_kept h fun _ _ => raise_kept h

theorem endImageWait_kept (h : Kept d b s) : Kept d b (endImageWait s) :=
  reviewImageWait_kept (expireImages_kept (h.of_parts rfl))

/-- Every block at its reset value meets every bound. -/
theorem fullReset_meets (a r : Nat) (pins : Pins) (waiting : List Instr) (i : Bound) :
    (State.fullReset a r pins waiting).meets i := by
  cases i with
  | queue => exact ⟨Nat.zero_le _, List.nodup_nil⟩
  | hold => exact ⟨Nat.zero_le _, List.nodup_nil⟩
  | broken => exact ⟨Nat.zero_le _, List.nodup_nil⟩
  | stack => exact Nat.zero_le _
  | pending => exact List.nodup_nil
  | transmit => exact Nat.zero_le _
  | order => exact .nil
  | buffer => exact Nat.zero_le _
  | images => exact ⟨Nat.zero_le _, List.nodup_nil⟩
  | orders => exact ⟨Nat.zero_le _, List.nodup_nil⟩
  | shape => exact ⟨rfl, rfl, rfl⟩
  | driven =>
    intro ch _ hr
    cases ch <;> rcases hr with hr | hr <;> cases hr

/-! ### Machine/Faults.lean -/

theorem reportFault_kept {q : Request} (h : Kept d b s) : Kept d b (reportFault q s) := send_kept h

theorem spoil_kept {q : Request} (h : Kept d b s) : Kept d b (spoil q s) := by
  unfold spoil
  split
  · exact h
  · have h1 := ite_kept (c := q.gone = true) (fun _ => h) fun _ => mapRec_kept (t := ‹Tag›) spoil_tag h
    exact ite_kept (fun _ => h1) fun _ => breakSet_kept h1

theorem lockdown_kept {q : Request} (h : Kept false b s) : Kept false b (lockdown q s) :=
  send_kept (reportFault_kept (enterState_kept (emergencyStop_kept h)))

/-- A context record joins a stack that is not full (R148). -/
theorem pushContext_kept {c : Context} (hf : s.stackFull = false) (h : Kept d b s) : Kept d b (pushContext c s) :=
  h.step fun i _ => by
    cases i with
    | stack =>
      intro _
      have : s.flt.stack.length < 3 := by simpa [State.stackFull] using hf
      exact this
    | _ => exact id

theorem holdAction_kept {q : Request} (hf : s.stackFull = false) (h : Kept false b s) : Kept false b (holdAction q s) :=
  have h1 := pushContext_kept (c := contextOf q false s) hf h
  ite_kept (fun _ => h1) fun _ => ite_kept (fun _ => changeState_kept (changeState_kept h1)) fun _ => changeState_kept h1

theorem tellHalt_kept {q : Request} (h : Kept d b s) : Kept d b (tellHalt q s) :=
  ite_kept (fun _ => h) fun _ => send_kept h

theorem stopAction_kept {q : Request} (hf : s.stackFull = false) (h : Kept false b s) : Kept false b (stopAction q s) :=
  changeState_kept (tellHalt_kept
    ((emergencyStop_kept (pushContext_kept (c := contextOf q true s) hf h)).of_parts rfl))

theorem applyAction_kept {q : Request} {action : Action} {report : Bool} (h : Kept false b s) :
    Kept false b (applyAction q action report s) := by
  have tell : ∀ {x : State}, Kept false b x → Kept false b (if report then reportFault q x else x) :=
    fun h => ite_kept (fun _ => reportFault_kept h) fun _ => h
  cases action with
  | count => exact tell h
  | spoil => exact tell (spoil_kept h)
  | hold => exact ite_kept (fun _ => lockdown_kept h) fun hf => tell (holdAction_kept (by simpa using hf) h)
  | stop => exact ite_kept (fun _ => lockdown_kept h) fun hf => tell (stopAction_kept (by simpa using hf) h)

theorem takeRequest_kept {q : Request} (h : Kept d b s) : Kept d b (takeRequest q s) :=
  h.step fun i _ => by
    have hs : (takeRequest q s).flt.stack = s.flt.stack := by unfold takeRequest; dsimp only; split <;> rfl
    have hp : (takeRequest q s).flt.pending = s.flt.pending.filter fun x => x.code != q.code := by
      unfold takeRequest; dsimp only; split <;> rfl
    have hc : (takeRequest q s).flt.counters.length = s.flt.counters.length := by
      unfold takeRequest; dsimp only; split
      · exact count_counters_length _ _
      · rfl
    cases i with
    | stack => exact fun h => by simpa only [State.meets, State.stackSound, hs] using h
    | pending =>
      intro h
      simp only [State.meets, State.pendingSound, hp]
      exact List.Nodup.sublist (List.filter_sublist.map _) h
    | shape => exact fun ⟨h1, h2, h3⟩ => ⟨h1, hc.trans h2, h3⟩
    | _ => exact id

theorem dispatch_kept {q : Request} (h : Kept false b s) : Kept false b (dispatch q s) := by
  unfold dispatch
  split
  · exact applyAction_kept (takeRequest_kept h)
  · exact lockdown_kept (takeRequest_kept h)

theorem haltHeard_kept (h : Kept d b s) : Kept d b (haltHeard s) := ite_kept (fun _ => raise_kept h) fun _ => h

theorem popEntry_kept {c : Context} {rest : List Context} (hs : s.flt.stack = c :: rest) (h : Kept false b s) :
    Kept false b (popEntry c rest s) := by
  refine changeState_kept (h.step fun i _ => ?_)
  cases i with
  | stack =>
    intro hl
    have : s.flt.stack.length ≤ 3 := hl
    rw [hs, List.length_cons] at this
    exact Nat.le_of_succ_le this
  | _ => exact id

theorem resumeStation_kept (h : Kept true b s) : Kept true b (resumeStation s) := by
  refine ite_kept (fun _ => ?_) fun _ => reply_kept h
  split
  · exact reply_kept h
  · exact ite_kept (fun _ => settle_kept (reply_kept (endSweepIfDue_kept (popEntry_kept ‹_› h.weaken))))
      fun _ => reply_kept h

theorem clearTray_kept (h : Kept d b s) : Kept d b (clearTray s) := by
  have h1 : Kept d b (purgeTray s) := ite_kept (fun _ => send_kept h) fun _ => h
  have h2 : Kept d b (purgeLate (purgeTray s)) := h1.sent (foldl_sent (fun p _ => post_sent p _ _) _ _)
  exact h2.of_parts rfl

theorem clearSheets_kept (h : Kept d b s) : Kept d b (clearSheets s) :=
  h.step fun i _ => by
    cases i with
    | queue => exact fun _ => ⟨Nat.zero_le _, List.nodup_nil⟩
    | images => exact fun _ => ⟨Nat.zero_le _, List.nodup_nil⟩
    | orders => exact fun _ => ⟨Nat.zero_le _, List.nodup_nil⟩
    | pending =>
      intro hs
      simpa only [State.meets, State.pendingSound, clearSheets, faults_clearPath_codes] using hs
    | shape =>
      intro hs
      simpa [State.meets, State.shapeSound, clearSheets] using hs
    | driven =>
      simp only [State.meets, drivenSound_iff, clearSheets, Chan.clear]
      exact id
    | _ => exact id

theorem clearCommand_kept (h : Kept d b s) : Kept d b (clearCommand s) :=
  ite_kept (fun _ => reply_kept (clearTray_kept (clearSheets_kept (clearHold_kept h)))) fun _ => reply_kept h

/-! ### Machine/Configure.lean -/

theorem putParam_kept {i v : Nat} (h : Kept d b s) : Kept d b (putParam i v s) := by
  have h1 : Kept d b { s with cfg := { s.cfg with params := s.cfg.params.set i v, index := i + 1 } } :=
    h.of_parts (by simp [State.parts])
  exact ite_kept (fun _ => h1.of_parts (by simp [State.parts, freshSensors])) fun _ =>
    ite_kept (fun _ => (linesFallen_kept (before := s) h1).of_parts rfl) fun _ => h1

theorem writeParam_kept {i v : Nat} (h : Kept d b s) : Kept d b (writeParam i v s) :=
  ite_kept (fun _ => h.of_parts rfl) fun _ => putParam_kept (ite_kept (fun _ => h.of_parts rfl) fun _ => h)

theorem writeParams_kept {i : Nat} {values : List Half} (h : Kept d b s) : Kept d b (writeParams i values s) := by
  induction values generalizing i s with
  | nil => exact h
  | cons v rest ih => exact ih (writeParam_kept h)

/-- The commit check runs only where no steps are issued (R159, R160). -/
theorem commit_kept (hs : s.ctl.st.steps = false) (h : Kept d b s) : Kept d b (commit s) := by
  unfold commit
  split
  · exact replyConfig_kept (enterState_kept_of_idle hs (h.of_parts rfl))
  · exact replyConfig_kept (enterState_kept_of_idle hs h)

/-- Writing parameters leaves Station Control as it is. -/
theorem writeParam_ctl (i v : Nat) (s : State) : (writeParam i v s).ctl = s.ctl := by
  have fallen : ∀ x y : State, (linesFallen x y).ctl = y.ctl := by
    intro x y
    unfold linesFallen
    dsimp only
    have hb : (binFreed y).ctl = y.ctl := ctl_of_calm (binFreed_calm y)
    split <;> split <;> first | rfl | exact hb
  unfold writeParam
  split
  · rfl
  · unfold putParam
    dsimp only
    split
    · split <;> rfl
    · split
      · exact (fallen _ _).trans (by split <;> rfl)
      · split <;> rfl

theorem writeParams_ctl (i : Nat) (values : List Half) (s : State) : (writeParams i values s).ctl = s.ctl := by
  induction values generalizing i s with
  | nil => rfl
  | cons v rest ih => exact (ih _ _).trans (writeParam_ctl i v.toNat s)

theorem configureStation_kept {start : BitVec 7} {endMark : Bool} {values : List Half} (hs : s.ctl.st.steps = false)
    (h : Kept d b s) : Kept d b (configureStation start endMark values s) :=
  ite_kept (fun _ => commit_kept (by rw [writeParams_ctl]; exact hs) (writeParams_kept h)) fun _ => writeParams_kept h

theorem answerQuery_kept {selector : Nat} {clear : Bool} (h : Kept d b s) : Kept d b (answerQuery selector clear s) := by
  refine ite_kept (fun _ => ?_) fun _ => send_kept h
  have h1 : Kept d b (send s.engAddr (s.answer selector) s) := send_kept h
  unfold clearAnswered
  split
  · exact h1
  · refine h1.step fun i _ => ?_
    cases i with
    | shape =>
      simp only [State.meets, State.shapeSound]
      rintro ⟨h1, h2, h3⟩
      have h4 : s.flt.counters.length = 16 := h2
      exact ⟨h1, by simp [h4], h3⟩
    | _ => exact id
  · refine h1.step fun i _ => ?_
    cases i with
    | shape =>
      simp only [State.meets, State.shapeSound]
      rintro ⟨h1, h2, h3⟩
      have h4 : s.flt.counters.length = 16 := h2
      exact ⟨h1, by simp [h4], h3⟩
    | _ => exact id
  · exact h1.of_parts rfl
  · exact h1.of_parts rfl

theorem restartStation_kept {a r : Nat} (h : Kept d b s) : Kept d b (restartStation a r s) := fun i hi hb => by
  have hr := fullReset_meets a r s.pins s.pending i
  have hs := h i hi hb
  have hsub : (s.port.restart a).tx.Sublist s.port.tx := by
    unfold Port.restart
    dsimp only
    split
    · exact List.filter_sublist
    · exact List.nil_sublist _
  cases i with
  | transmit => exact hsub.length_le.trans hs
  | order => exact List.Pairwise.sublist hsub hs
  | shape => exact ⟨rfl, rfl, hs.2.2⟩
  | _ => exact hr

theorem leaveSelftest_kept (hs : s.ctl.st.steps = false) (h : Kept d b s) : Kept d b (leaveSelftest s) :=
  ite_kept (fun _ => h) fun _ => ite_kept (fun _ => commit_kept hs (send_kept h)) fun _ =>
    enterState_kept_of_idle hs (send_kept h)

/-! ### Machine/SheetFrames.lean -/

theorem passHeard_kept {src : Nat} {t : FrameTag} (h : Kept true b s) : Kept true b (passHeard src t s) := by
  unfold passHeard
  split
  · exact settle_kept (enterRecord_kept h.weaken)
  · exact ite_kept (fun _ => raise_kept h) fun _ => h.of_parts rfl

theorem arrivedHeard_kept {src : Nat} {t : FrameTag} (h : Kept true b s) : Kept true b (arrivedHeard src t s) := by
  unfold arrivedHeard
  split
  · exact settle_kept (testExitTrail_kept (mapRec_kept (fun _ => rfl) h.weaken))
  · exact h.of_parts rfl

theorem takeRecord_kept {r : Record} (h : Kept d b s) : Kept d b (takeRecord r s) := by
  have h1 : Kept d b (endReturnWait r.tag (endHoldWait r.tag
      (mapRec r.tag (fun x => { x with stage := .taken (s.downstream r), offerOwed := false }) s))) :=
    have h2 := endHoldWait_kept (t := r.tag) (mapRec_kept (t := r.tag)
      (f := fun x : Record => { x with stage := .taken (s.downstream r), offerOwed := false }) (fun _ => rfl) h)
    ite_kept (fun _ => h2.of_parts rfl) fun _ => h2
  exact ite_kept (fun _ => passRecord_kept h1) fun _ => h1

theorem takeHeard_kept {src : Nat} {t : FrameTag} (h : Kept true b s) : Kept true b (takeHeard src t s) := by
  unfold takeHeard
  split
  · exact settle_kept (takeRecord_kept h.weaken)
  · exact h.of_parts rfl

theorem deferHeard_kept {src : Nat} {t : FrameTag} (h : Kept d b s) : Kept d b (deferHeard src t s) := by
  unfold deferHeard
  split
  · exact mapRec_kept (fun _ => rfl) h
  · exact h.of_parts rfl

theorem readyHeard_kept {src : Nat} (h : Kept d b s) : Kept d b (readyHeard src s) := by
  refine ite_kept (fun _ => ?_) fun _ => h
  split
  · exact sendOffer_kept (mapQueue_kept (fun r => by split <;> rfl) h)
  · exact h

/-- There is a place for an entry of another origin only where at most six such entries stand (R59). -/
theorem others_le_of_hasPlace (h : s.holdHasPlace = true) :
    (s.drive.hold.filter fun e => e.origin != s.ctl.address).length ≤ 6 := by
  unfold State.holdHasPlace at h
  split at h
  · rename_i ho
    have hl : s.drive.hold.length ≤ 7 := by simpa using h
    obtain ⟨e, he⟩ := Option.isSome_iff_exists.mp ho
    have hlt := List.length_filter_lt_length_iff_exists (p := fun e : HoldEntry => e.origin != s.ctl.address)
      (l := s.drive.hold)
    have : (s.drive.hold.filter fun e => e.origin != s.ctl.address).length < s.drive.hold.length :=
      hlt.mpr ⟨e, List.mem_of_find?_eq_some he, by simpa using List.find?_some he⟩
    omega
  · exact (List.length_filter_le _ _).trans (by simpa using h)

theorem recordHold_kept {src origin : Nat} (hn : s.holdEntry? origin = none) (hp : s.holdHasPlace = true)
    (h : Kept false b s) : Kept false b (recordHold src origin s) :=
  sendAll_kept (h.step fun i hi => by
    cases i with
    | hold => exact pushHold_holdSound hn (.inr (others_le_of_hasPlace hp))
    | driven => cases hi rfl
    | _ => exact id)

theorem holdHeard_kept {src origin : Nat} (h : Kept true b s) : Kept true b (holdHeard src origin s) :=
  ite_kept (fun _ => h) fun hc => ite_kept
    (fun hp => settle_kept (recordHold_kept (by simpa using fun e => hc (.inr (.inr e))) hp h.weaken))
    fun _ => h.of_parts rfl

theorem goHeard_kept {origin : Nat} (h : Kept true b s) : Kept true b (goHeard origin s) := by
  refine ite_kept (fun _ => h) fun _ => ?_
  split
  · exact settle_kept (releaseEntry_kept h.weaken)
  · exact h

theorem imageHeard_kept {t : FrameTag} {side : Nat} (h : Kept true b s) : Kept true b (imageHeard t side s) :=
  ite_kept (fun _ => h) fun _ => ite_kept (fun _ => h.of_parts rfl) fun _ => settle_kept (takeImage_kept h.weaken)

/-! ### Machine/PathSweep.lean -/

theorem examineLaunch_kept (h : Kept d b s) : Kept d b (examineLaunch s) := by
  refine ite_kept (fun hr => ?_) fun _ => h
  simp only [State.launchReady, Bool.and_eq_true, Bool.not_eq_true', decide_eq_true_eq] at hr
  obtain ⟨⟨⟨-, hl⟩, -⟩, hh⟩ := hr
  exact joinQueue_kept hl hh (h.of_parts rfl)

theorem sweepStation_kept {g n origin : Nat} (h : Kept true b s) : Kept true b (sweepStation g n origin s) :=
  ite_kept (fun _ => settle_kept (reply_kept (examineLaunch_kept (changeState_kept (h.weaken.of_parts rfl)))))
    fun _ => reply_kept (h.of_parts rfl)

/-! ### The port (R180 to R182) -/

theorem admitFrame_kept {h : Header} {k : Rules} {body : State → State} (hk : Kept d b s)
    (hb : s.refusesKind k.admission = false → Kept d b (body s)) : Kept d b (admitFrame h k body s) :=
  ite_kept (fun _ => hk.of_parts rfl) fun hn => ite_kept (fun _ => hk) fun _ => hb (by simpa using fun e => hn (.inr e))

theorem takeFrame_kept {c : Instr} (h : Kept true b s) : Kept true b (takeFrame c s) := by
  cases c with
  | halt => exact admitFrame_kept h fun _ => haltHeard_kept h
  | pass => exact admitFrame_kept h fun _ => passHeard_kept h
  | arrived => exact admitFrame_kept h fun _ => arrivedHeard_kept h
  | hold => exact admitFrame_kept h fun _ => holdHeard_kept h
  | go => exact admitFrame_kept h fun _ => goHeard_kept h
  | broken => exact admitFrame_kept h fun _ => settle_kept (addBroken_kept h.weaken)
  | offer => exact admitFrame_kept h fun _ => settle_kept (takeOfferFrame_kept h.weaken)
  | take => exact admitFrame_kept h fun _ => takeHeard_kept h
  | defer => exact admitFrame_kept h fun _ => deferHeard_kept h
  | ready => exact admitFrame_kept h fun _ => readyHeard_kept h
  | configure =>
    refine admitFrame_kept h fun hr => configureStation_kept ?_ h
    simp only [State.refusesKind, decide_eq_false_iff_not, not_and, not_not] at hr
    by_cases hu : s.ctl.st = .unconfigured
    · rw [hu]; rfl
    · rw [hr hu]; rfl
  | start => exact admitFrame_kept h fun _ => startStation_kept h
  | drain => exact admitFrame_kept h fun _ => drainCommand_kept h
  | resume => exact admitFrame_kept h fun _ => resumeStation_kept h
  | clearpath => exact admitFrame_kept h fun _ => clearCommand_kept h
  | restart => exact admitFrame_kept h fun _ => restartStation_kept h
  | feed => exact admitFrame_kept h fun _ => feedHeard_kept h
  | image => exact admitFrame_kept h fun _ => imageHeard_kept h
  | sweep => exact admitFrame_kept h fun _ => sweepStation_kept h
  | query => exact admitFrame_kept h fun _ => answerQuery_kept h
  | _ => exact h

theorem bufferFrame_kept {c : Instr} (hf : s.bufferFull = false) (h : Kept d b s) : Kept d b (bufferFrame c s) :=
  h.step fun i _ => by
    cases i with
    | buffer =>
      intro _
      have : s.port.rx.length < 2 := by simpa [State.bufferFull] using hf
      simpa [State.meets, State.bufferSound] using Nat.succ_le_of_lt this
    | _ => exact id

theorem receive_kept {c : Instr} {h : Header} {take : State → State} (hk : Kept d b s) (ht : Kept d b (take s)) :
    Kept d b (receive c h take s) :=
  ite_kept (fun _ => hk) fun _ => ite_kept (fun _ => hk.of_parts rfl) fun hf => ite_kept (fun _ => hk.of_parts rfl)
    fun _ => ite_kept (fun _ => ht) fun _ => bufferFrame_kept (by simpa using hf) hk

theorem frameHeard_kept {levels : List Bool} (h : Kept d b s) : Kept d b (frameHeard levels s) := by
  refine ite_kept (fun _ => h) fun _ => ?_
  split
  · exact h.of_parts rfl
  · refine ite_kept (fun _ => h.of_parts rfl) fun _ => ite_kept (fun _ => h) fun _ => ite_kept (fun _ => h.of_parts rfl)
      fun hf => ?_
    split
    · exact h.of_parts rfl
    · exact h.of_parts rfl
    · exact ite_kept (fun _ => bufferFrame_kept (by simpa using hf) h) fun _ => h.of_parts rfl

theorem takeBuffered_kept (h : Kept true b s) : Kept true b (takeBuffered s) := by
  unfold takeBuffered
  split
  · exact h
  · rename_i c rest hrx
    refine ite_kept (fun _ => h) fun _ => takeFrame_kept (h.step fun i _ => ?_)
    cases i with
    | buffer =>
      intro hl
      have : s.port.rx.length ≤ 2 := hl
      rw [hrx, List.length_cons] at this
      exact Nat.le_of_succ_le this
    | _ => exact id

/-! ### The sending side (R179, R184) -/

/-- A transmit queue whose frames stand as they stood keeps the bounds (R184). -/
theorem Kept.tx {p : Port} (h : Kept d b s) (hx : p.rx = s.port.rx)
    (ht : (p.tx.map TxEntry.cls).Sublist (s.port.tx.map TxEntry.cls)) : Kept d b { s with port := p } :=
  h.step fun i _ => by
    cases i with
    | transmit => exact fun hs => (by simpa using ht.length_le : p.tx.length ≤ s.port.tx.length).trans hs
    | order => exact fun hs => List.pairwise_map.mp ((List.pairwise_map.mpr hs).sublist ht)
    | buffer => exact fun hs => by simpa only [State.meets, State.bufferSound, hx] using hs
    | _ => exact id

end

/-! ### Commands and steps -/

/-- What a command answers keeps the bounds, when the state in the answer does. -/
theorem of_next {P : State → Prop} {x t : State} (h : (Host.Outcome.next x : Host.Outcome State Fault Refusal) = .next t)
    (hx : P x) : P t := by
  cases h
  exact hx

/-- The same of a command that is carried out on a condition only. -/
theorem of_ite_next {P : State → Prop} {c : Prop} [Decidable c] {x y t : State}
    (h : (if c then Host.Outcome.next x else Host.Outcome.next y : Host.Outcome State Fault Refusal) = .next t)
    (hx : c → P x) (hy : P y) : P t := by
  split at h
  · exact of_next h (hx ‹_›)
  · exact of_next h hy

/-- Every command keeps every bound. -/
theorem exec_kept {c : Instr} {s t : State} (h : exec c s = .next t) : Kept true s t := by
  have k : ∀ {d : Bool}, Kept d s s := Kept.refl _ s
  have pinned : ∀ {p : Pins}, Kept true s { s with pins := p } := k.of_parts rfl
  have frame : ∀ {i : Instr} {hd : Header} {take : State → State}, take s = takeFrame i s →
      exec c s = .next (receive i hd take s) → Kept true s t := by
    intro i hd take ht he
    exact of_next (he.symm.trans h) (receive_kept k (ht ▸ takeFrame_kept k))
  cases c with
  | fullReset a r => exact of_next h fun i _ _ => fullReset_meets _ _ _ _ i
  | selftestComplete stuck levels =>
    refine of_ite_next h (fun hc => leaveSelftest_kept ?_ (k.of_parts ?_)) k
    · show s.ctl.st.steps = false
      rw [hc.2.1]
      rfl
    · simp [State.parts, takeReadings]
  | step ch => exact of_ite_next h (fun _ => settle_kept (stepChannel_kept k)) k
  | leadEdge n => exact of_ite_next h (fun _ => settle_kept (takeLead_kept (k.of_parts rfl))) pinned
  | trailEdge n => exact of_ite_next h (fun _ => settle_kept (takeTrail_kept (k.of_parts rfl))) pinned
  | lineActive n => exact of_ite_next h (fun _ => pinned) (settle_kept (linesRisen_kept (k.of_parts rfl)))
  | lineInactive n => exact of_ite_next h (fun _ => pinned) (settle_kept (linesFallen_kept (k.of_parts rfl)))
  | pickStart => exact of_ite_next h (fun _ => k) (settle_kept (pickFrom_kept (List.Sublist.refl _) k))
  | ghostLaunch => exact of_ite_next h (fun _ => k) (settle_kept (examineLaunch_kept k))
  | slotExamination => exact of_ite_next h (fun _ => k) (settle_kept (examineSlots_kept k))
  | drainEnd => exact of_ite_next h (fun _ => settle_kept (changeState_kept k)) k
  | pauseEnd => exact of_ite_next h (fun _ => settle_kept (changeState_kept k)) k
  | sweepEnd => exact of_ite_next h (fun _ => settle_kept (endSweep_kept k)) k
  | holdWaitExpiry => exact of_ite_next h (fun _ => raiseHandoff_kept (k.of_parts rfl)) k
  | returnWaitExpiry => exact of_ite_next h (fun _ => raiseHandoff_kept (k.of_parts rfl)) k
  | imageWaitExpiry => exact of_ite_next h (fun _ => settle_kept (endImageWait_kept k)) k
  | ejectComplete => exact of_ite_next h (fun _ => settle_kept (completeEject_kept k)) k
  | dumpComplete => exact of_ite_next h (fun _ => settle_kept (completeDump_kept k)) k
  | pageSyncPulseEnd => exact of_ite_next h (fun _ => k) (k.of_parts rfl)
  | faultDispatch =>
    simp only [exec, execFaultDispatch] at h
    split at h
    · exact of_next h k
    · exact of_ite_next h (fun _ => settle_kept (dispatch_kept k)) k
  | frameError levels => exact of_next h (frameHeard_kept k)
  | frameSendStart =>
    refine of_ite_next h (fun _ => k.tx ?_ ?_) k
    · unfold Port.startHead; split <;> rfl
    · unfold Port.startHead
      split
      · exact .refl _
      · rename_i e rest he
        rw [he]
        exact .refl _
  | arbitrationLost => exact of_ite_next h (fun _ => k) (k.tx rfl (by rw [List.map_map]; exact .refl _))
  | frameSent => exact of_ite_next h (fun _ => k.tx rfl (List.filter_sublist.map _)) k
  | link => exact of_ite_next h (fun _ => (raise_kept (q := requestBare .link none false none) k).of_parts rfl) k
  | resetPinHeldLow => exact of_next h ((emergencyStop_kept k).of_parts rfl)
  | halt hd code => exact frame (i := .halt hd code) rfl rfl
  | pass hd t => exact frame (i := .pass hd t) rfl rfl
  | arrived hd t => exact frame (i := .arrived hd t) rfl rfl
  | hold hd o => exact frame (i := .hold hd o) rfl rfl
  | go hd o => exact frame (i := .go hd o) rfl rfl
  | broken hd set => exact frame (i := .broken hd set) rfl rfl
  | offer hd o => exact frame (i := .offer hd o) rfl rfl
  | take hd t => exact frame (i := .take hd t) rfl rfl
  | defer hd t reason => exact frame (i := .defer hd t reason) rfl rfl
  | ready hd => exact frame (i := .ready hd) rfl rfl
  | configure hd start endMark values => exact frame (i := .configure hd start endMark values) rfl rfl
  | start hd => exact frame (i := .start hd) rfl rfl
  | drain hd => exact frame (i := .drain hd) rfl rfl
  | resume hd => exact frame (i := .resume hd) rfl rfl
  | clearpath hd => exact frame (i := .clearpath hd) rfl rfl
  | restart hd a r => exact frame (i := .restart hd a r) rfl rfl
  | feed hd o => exact frame (i := .feed hd o) rfl rfl
  | image hd t side => exact frame (i := .image hd t side) rfl rfl
  | sweep hd g n o => exact frame (i := .sweep hd g n o) rfl rfl
  | query hd q clear => exact frame (i := .query hd q clear) rfl rfl

/-- Every step keeps every bound. -/
theorem step_meets {s t : State} (h : step s = .next t) (i : Bound) (hs : s.meets i) : t.meets i := by
  unfold step at h
  split at h
  · exact of_next h (takeBuffered_kept (Kept.refl true s)) i (fun _ => rfl) hs
  · rename_i c rest _
    have hw : Kept true s (s.waitingFor rest) := (Kept.refl true s).of_parts rfl
    exact exec_kept h i (fun _ => rfl) (hw i (fun _ => rfl) hs)

/-- Settles O7: a record joins only where there is room and its tag is not held. -/
theorem queueBoundKept : Obligations.QueueBoundKept := fun _ _ hs h => step_meets h .queue hs

/-- Settles O8: an entry joins only under an origin the set lacks, another station's only where there is a place. -/
theorem holdBoundKept : Obligations.HoldBoundKept := fun _ _ hs h => step_meets h .hold hs

/-- Settles O9: a set joins only where it is not listed, and a full list loses its oldest. -/
theorem brokenBoundKept : Obligations.BrokenBoundKept := fun _ _ hs h => step_meets h .broken hs

/-- Settles O10: the stack is pushed only below its bound, a code pends once, frames join in the order of class and evict
from a full queue, and a full receive buffer takes no frame. -/
theorem faultAndTransmitBoundsKept : Obligations.FaultAndTransmitBoundsKept :=
  ⟨fun _ _ hs h => step_meets h .stack hs, fun _ _ hs h => step_meets h .pending hs,
    fun _ _ hs h => step_meets h .transmit hs, fun _ _ hs h => step_meets h .order hs,
    fun _ _ hs h => step_meets h .buffer hs⟩

/-- Settles O11: entries and orders join only where they are not listed, and the tables keep their lengths. -/
theorem listBoundsKept : Obligations.ListBoundsKept :=
  ⟨fun _ _ hs h => step_meets h .images hs, fun _ _ hs h => step_meets h .orders hs,
    fun _ _ hs h => step_meets h .shape hs⟩

/-- Settles O12: every event that holds the station or leaves the stepping states settles, and settling takes demand from
the channels; the other events start none. -/
theorem heldChannelsNeverRun : Obligations.HeldChannelsNeverRun := fun _ _ hs h => step_meets h .driven hs

/-- Settles O13: every block is at its reset value. -/
theorem resetMeetsEveryBound : Obligations.ResetMeetsEveryBound :=
  have h := fullReset_meets 10 0 { sensors := 0#6, lines := 0#4 } []
  ⟨h .queue, h .hold, h .broken, h .stack, h .pending, h .transmit, h .images, h .orders, h .shape, h .driven, h .order,
    h .buffer⟩

end Sys2Proof.Machine

/-! PROOFS. What every command leaves alone: the queue of waiting commands, and outside configuration the parameters (R158,
R160, R187); and what LOCKDOWN, SELFTEST and the RESET pin shut out (R150, R155, R156). -/

namespace Sys2Proof.Machine

/-! ### The Configuration Store and the waiting commands through the operations of Station Control -/

/-- The Configuration Store and the queue of waiting commands. -/
def State.store (s : State) : ConfigStore × List Instr := (s.cfg, s.pending)

theorem store_of_calm {s t : State} (h : t.calm = s.calm) : t.store = s.store :=
  Prod.ext (cfg_of_calm h) (pending_of_calm h)

@[simp] theorem setState_store (n : StationState) (s : State) : (setState n s).store = s.store := rfl

@[simp] theorem onEntry_calm (n : StationState) (s : State) : (onEntry n s).calm = s.calm := by
  cases n <;> simp [onEntry]

@[simp] theorem enterState_store (n : StationState) (s : State) : (enterState n s).store = s.store := by
  unfold enterState
  split
  · rfl
  · exact (store_of_calm (onEntry_calm n _)).trans (setState_store n s)

@[simp] theorem changeState_store (n : StationState) (s : State) : (changeState n s).store = s.store := by
  unfold changeState
  split
  · rfl
  · exact (store_of_calm (by simp)).trans (enterState_store n s)

@[simp] theorem endSweepIfDue_store (s : State) : (endSweepIfDue s).store = s.store := by
  unfold endSweepIfDue
  split
  · exact changeState_store _ _
  · rfl

@[simp] theorem drainStation_store (s : State) : (drainStation s).store = s.store := by
  unfold drainStation
  split
  · exact changeState_store _ _
  · exact endSweepIfDue_store _
  · rfl

@[simp] theorem settle_store (b s : State) : (settle b s).store = s.store := store_of_calm (settle_calm b s)

@[simp] theorem reply_store (reason : StatusReason) (s : State) : (reply reason s).store = s.store := rfl

@[simp] theorem startStation_store (s : State) : (startStation s).store = s.store := by
  unfold startStation
  split <;> simp

@[simp] theorem drainCommand_store (s : State) : (drainCommand s).store = s.store := by
  unfold drainCommand
  split <;> simp

@[simp] theorem linesRisen_store (b s : State) : (linesRisen b s).store = s.store := by
  unfold linesRisen
  dsimp only
  split
  · rw [drainStation_store]
    split <;> rfl
  · split <;> rfl

@[simp] theorem linesFallen_calm (b s : State) : (linesFallen b s).calm = s.calm := by
  unfold linesFallen
  dsimp only
  split <;> split <;> simp

@[simp] theorem emergencyStop_store (s : State) : (emergencyStop s).store = s.store := rfl

@[simp] theorem lockdown_store (q : Request) (s : State) : (lockdown q s).store = s.store :=
  (store_of_calm (s := enterState .lockdown (emergencyStop s)) (by simp [lockdown])).trans
    ((enterState_store .lockdown _).trans (emergencyStop_store s))

@[simp] theorem pushContext_store (c : Context) (s : State) : (pushContext c s).store = s.store := rfl

@[simp] theorem holdAction_store (q : Request) (s : State) : (holdAction q s).store = s.store := by
  unfold holdAction pauseAtOnce
  dsimp only
  split
  · rfl
  · split <;> simp

@[simp] theorem stopAction_store (q : Request) (s : State) : (stopAction q s).store = s.store :=
  (changeState_store _ _).trans (store_of_calm (by simp))

@[simp] theorem applyAction_store (q : Request) (action : Action) (report : Bool) (s : State) :
    (applyAction q action report s).store = s.store := by
  have tell : ∀ x : State, (if report then reportFault q x else x).store = x.store := by
    intro x
    split <;> rfl
  cases action with
  | count => exact tell s
  | spoil => exact (tell _).trans (store_of_calm (spoil_calm q s))
  | hold =>
    unfold applyAction
    dsimp only
    split
    · exact lockdown_store q s
    · exact (tell _).trans (holdAction_store q s)
  | stop =>
    unfold applyAction
    dsimp only
    split
    · exact lockdown_store q s
    · exact (tell _).trans (stopAction_store q s)

@[simp] theorem dispatch_store (q : Request) (s : State) : (dispatch q s).store = s.store := by
  have ht : (takeRequest q s).store = s.store := store_of_calm (takeRequest_calm q s)
  unfold dispatch
  split
  · exact (applyAction_store _ _ _ _).trans ht
  · exact (lockdown_store _ _).trans ht

@[simp] theorem resumeStation_store (s : State) : (resumeStation s).store = s.store := by
  unfold resumeStation popEntry
  split
  · split
    · rfl
    · split
      · simp only [settle_store, reply_store, endSweepIfDue_store, changeState_store]
        rfl
      · rfl
  · rfl

@[simp] theorem sweepStation_store (g n origin : Nat) (s : State) : (sweepStation g n origin s).store = s.store := by
  unfold sweepStation beginSweep
  split
  · simp only [settle_store, reply_store, store_of_calm (examineLaunch_calm _), changeState_store]
    rfl
  · rfl

/-! ### Commands: the waiting commands, and the parameters outside configuration -/

/-- From `s` to `t` the waiting commands stand, and so do the parameters unless the station may be configured (R160). -/
structure State.Stays (s t : State) : Prop where
  pending : t.pending = s.pending
  params : s.ctl.st ≠ .unconfigured → s.ctl.st ≠ .ready → t.cfg.params = s.cfg.params

theorem stays_of_store {s t : State} (h : t.store = s.store) : s.Stays t :=
  ⟨congrArg (·.2) h, fun _ _ => congrArg (·.1.params) h⟩

theorem stays_of_calm {s t : State} (h : t.calm = s.calm) : s.Stays t := stays_of_store (store_of_calm h)

theorem stays_refl (s : State) : s.Stays s := stays_of_store rfl

theorem commit_stays (s : State) : s.Stays (commit s) := by
  unfold commit
  split
  · have h := (store_of_calm (replyConfig_calm none _)).trans (enterState_store .ready { s with cfg := s.derived })
    exact ⟨congrArg (·.2) h, fun _ _ => congrArg (·.1.params) h⟩
  · exact stays_of_store ((store_of_calm (replyConfig_calm _ _)).trans (enterState_store _ s))

theorem writeParam_pending (i v : Nat) (s : State) : (writeParam i v s).pending = s.pending := by
  unfold writeParam
  split
  · rfl
  · unfold putParam
    dsimp only
    split
    · split <;> rfl
    · split
      · refine (pending_of_calm (endPulse_calm _)).trans ((pending_of_calm (linesFallen_calm _ _)).trans ?_)
        split <;> rfl
      · split <;> rfl

theorem writeParams_pending (i : Nat) (values : List Half) (s : State) : (writeParams i values s).pending = s.pending := by
  induction values generalizing i s with
  | nil => rfl
  | cons v rest ih => exact (ih _ _).trans (writeParam_pending i v.toNat s)

theorem configureStation_pending (start : BitVec 7) (endMark : Bool) (values : List Half) (s : State) :
    (configureStation start endMark values s).pending = s.pending := by
  unfold configureStation
  dsimp only
  split
  · exact (commit_stays _).pending.trans (writeParams_pending _ _ s)
  · exact writeParams_pending _ _ s

theorem answerQuery_stays (selector : Nat) (clear : Bool) (s : State) : s.Stays (answerQuery selector clear s) := by
  unfold answerQuery clearAnswered
  dsimp only
  split
  · split <;> exact ⟨rfl, fun _ _ => rfl⟩
  · exact stays_of_store rfl

theorem admitFrame_stays {h : Header} {k : Rules} {body : State → State} {s : State}
    (hb : s.refusesKind k.admission = false → s.Stays (body s)) : s.Stays (admitFrame h k body s) := by
  unfold admitFrame
  split
  · exact stays_of_store rfl
  · split
    · exact stays_refl s
    · exact hb (by simp_all)

theorem takeFrame_stays (c : Instr) (s : State) : s.Stays (takeFrame c s) := by
  cases c with
  | halt h code =>
    exact admitFrame_stays (h := h) (k := ⟨.anyone, .plain⟩) (body := haltHeard) fun _ => stays_of_calm (haltHeard_calm s)
  | pass => exact admitFrame_stays fun _ => stays_of_calm (by simp)
  | arrived => exact admitFrame_stays fun _ => stays_of_calm (by simp)
  | hold => exact admitFrame_stays fun _ => stays_of_calm (by simp)
  | go => exact admitFrame_stays fun _ => stays_of_calm (by simp)
  | broken h set =>
    exact admitFrame_stays (h := h) (k := ⟨.anyone, .plain⟩) (body := fun s => settle s (addBroken set.toNat .broken s))
      fun _ => stays_of_calm ((settle_calm s _).trans (addBroken_calm set.toNat .broken s))
  | offer => exact admitFrame_stays fun _ => stays_of_calm (by simp)
  | take => exact admitFrame_stays fun _ => stays_of_calm (by simp)
  | defer => exact admitFrame_stays fun _ => stays_of_calm (by simp)
  | ready => exact admitFrame_stays fun _ => stays_of_calm (by simp)
  | configure h start endMark values =>
    refine admitFrame_stays fun hr => ⟨configureStation_pending start endMark values s, fun h1 h2 => ?_⟩
    simp [State.refusesKind, h1, h2] at hr
  | start => exact admitFrame_stays fun _ => stays_of_store (startStation_store s)
  | drain => exact admitFrame_stays fun _ => stays_of_store (drainCommand_store s)
  | resume => exact admitFrame_stays fun _ => stays_of_store (resumeStation_store s)
  | clearpath => exact admitFrame_stays fun _ => stays_of_calm (by simp)
  | restart => exact admitFrame_stays fun _ => ⟨rfl, fun _ _ => rfl⟩
  | feed => exact admitFrame_stays fun _ => stays_of_calm (by simp)
  | image => exact admitFrame_stays fun _ => stays_of_calm (by simp)
  | sweep => exact admitFrame_stays fun _ => stays_of_store (sweepStation_store _ _ _ s)
  | query => exact admitFrame_stays fun _ => answerQuery_stays _ _ s
  | _ => exact stays_refl s

theorem receive_stays {c : Instr} {h : Header} {take : State → State} {s : State} (ht : s.Stays (take s)) :
    s.Stays (receive c h take s) := by
  unfold receive
  split
  · exact stays_refl s
  · split
    · exact stays_of_store rfl
    · split
      · exact stays_of_store rfl
      · split
        · exact ht
        · exact stays_of_store rfl

theorem frameHeard_calm (levels : List Bool) (s : State) : (frameHeard levels s).calm = s.calm := by
  unfold frameHeard judgeFrame
  (repeat' split) <;> rfl

theorem leaveSelftest_stays (s : State) : s.Stays (leaveSelftest s) := by
  unfold leaveSelftest
  split
  · exact stays_refl s
  · split
    · exact ⟨(commit_stays _).pending, (commit_stays (sendJoin s)).params⟩
    · exact stays_of_store ((enterState_store _ _).trans rfl)

/-- A command that is a frame comes to its turn at once, or waits, or is discarded by the port (R180). -/
theorem exec_frame {c : Instr} {h : Header} (hc : c.header? = some h) (s : State) :
    exec c s = .next (receive c h (takeFrame c) s) := by
  cases c <;> first | cases hc; rfl | cases hc

/-- No command but a full reset touches the waiting commands, or outside configuration a parameter. -/
theorem exec_stays {c : Instr} {s t : State} (h : exec c s = .next t) (hc : ∀ a r, c ≠ .fullReset a r) : s.Stays t := by
  have pinned : ∀ p : Pins, s.Stays { s with pins := p } := fun p => stays_of_store rfl
  rcases hh : c.header? with _ | hd
  case some => exact of_next ((exec_frame hh s).symm.trans h) (receive_stays (takeFrame_stays c s))
  cases c with
  | fullReset a r => exact absurd rfl (hc a r)
  | selftestComplete stuck levels =>
    exact of_ite_next h (fun _ => ⟨(leaveSelftest_stays (takeReadings stuck levels s)).pending,
      (leaveSelftest_stays (takeReadings stuck levels s)).params⟩) (stays_refl s)
  | step ch => exact of_ite_next h (fun _ => stays_of_calm (by simp)) (stays_refl s)
  | leadEdge n =>
    exact of_ite_next h
      (fun _ => stays_of_store ((settle_store _ _).trans ((store_of_calm (takeLead_calm _ _)).trans rfl))) (pinned _)
  | trailEdge n =>
    exact of_ite_next h
      (fun _ => stays_of_store ((settle_store _ _).trans ((store_of_calm (takeTrail_calm _ _)).trans rfl))) (pinned _)
  | lineActive n =>
    exact of_ite_next h (fun _ => pinned _)
      (stays_of_store ((settle_store _ _).trans ((linesRisen_store _ _).trans rfl)))
  | lineInactive n =>
    exact of_ite_next h (fun _ => pinned _)
      (stays_of_store ((settle_store _ _).trans ((store_of_calm (linesFallen_calm _ _)).trans rfl)))
  | pickStart => exact of_ite_next h (fun _ => stays_refl s) (stays_of_calm (by simp))
  | ghostLaunch => exact of_ite_next h (fun _ => stays_refl s) (stays_of_calm (by simp))
  | slotExamination => exact of_ite_next h (fun _ => stays_refl s) (stays_of_calm (by simp))
  | drainEnd => exact of_ite_next h (fun _ => stays_of_store (by simp)) (stays_refl s)
  | pauseEnd => exact of_ite_next h (fun _ => stays_of_store (by simp)) (stays_refl s)
  | sweepEnd =>
    exact of_ite_next h (fun _ => stays_of_store ((settle_store _ _).trans (changeState_store _ _))) (stays_refl s)
  | holdWaitExpiry => exact of_ite_next h (fun _ => stays_of_calm (by simp)) (stays_refl s)
  | returnWaitExpiry => exact of_ite_next h (fun _ => stays_of_calm (by simp)) (stays_refl s)
  | imageWaitExpiry => exact of_ite_next h (fun _ => stays_of_calm (by simp)) (stays_refl s)
  | ejectComplete => exact of_ite_next h (fun _ => stays_of_calm (by simp)) (stays_refl s)
  | dumpComplete => exact of_ite_next h (fun _ => stays_of_calm (by simp)) (stays_refl s)
  | pageSyncPulseEnd => exact of_ite_next h (fun _ => stays_refl s) (stays_of_store rfl)
  | faultDispatch =>
    simp only [exec, execFaultDispatch] at h
    split at h
    · exact of_next h (stays_refl s)
    · exact of_ite_next h (fun _ => stays_of_store ((settle_store _ _).trans (dispatch_store _ s))) (stays_refl s)
  | frameError levels => exact of_next h (stays_of_calm (frameHeard_calm levels s))
  | frameSendStart => exact of_ite_next h (fun _ => stays_of_store rfl) (stays_refl s)
  | arbitrationLost => exact of_ite_next h (fun _ => stays_refl s) (stays_of_store rfl)
  | frameSent => exact of_ite_next h (fun _ => stays_of_store rfl) (stays_refl s)
  | link => exact of_ite_next h (fun _ => stays_of_store rfl) (stays_refl s)
  | resetPinHeldLow => exact of_next h (stays_of_store rfl)
  | _ => cases hh

/-- A command carried out on a condition only answers a next state. -/
theorem ite_answers {c : Prop} [Decidable c] (x y : State) :
    ∃ t, (if c then Host.Outcome.next x else Host.Outcome.next y : Host.Outcome State Fault Refusal) = .next t := by
  split <;> exact ⟨_, rfl⟩

/-- No command faults or is refused. -/
theorem exec_answers (c : Instr) (s : State) : ∃ t, exec c s = .next t := by
  rcases hh : c.header? with _ | hd
  case some => exact ⟨_, exec_frame hh s⟩
  cases c with
  | fullReset a r => exact ⟨_, rfl⟩
  | frameError levels => exact ⟨_, rfl⟩
  | resetPinHeldLow => exact ⟨_, rfl⟩
  | faultDispatch =>
    simp only [exec, execFaultDispatch]
    split
    · exact ⟨_, rfl⟩
    · exact ite_answers _ _
  | halt | pass | arrived | hold | go | broken | offer | take | defer | ready | configure | start | drain | resume
  | clearpath | restart | feed | image | sweep | query => cases hh
  | _ => exact ite_answers _ _

/-- Settles O2: the arms of `exec` all answer `next`, and no operation of a block reaches the waiting commands. -/
theorem everyCommandCompletes : Obligations.EveryCommandCompletes := by
  intro c s
  obtain ⟨t, ht⟩ := exec_answers c s
  refine ⟨t, ht, ?_⟩
  by_cases hc : ∃ a r, c = .fullReset a r
  · obtain ⟨a, r, rfl⟩ := hc
    exact of_next (P := fun t => t.pending = s.pending) ht rfl
  · exact (exec_stays ht fun a r e => hc ⟨a, r, e⟩).pending

/-- Settles O3: only CONFIGURE writes the table, and the port refuses it outside UNCONFIGURED and READY. -/
theorem parametersStandOutsideConfiguration : Obligations.ParametersStandOutsideConfiguration := by
  refine ⟨fun c s t h hc => (exec_stays h hc).params, fun s t hp h h1 h2 => ?_⟩
  unfold step at h
  rw [hp] at h
  refine of_next (P := fun t => t.cfg.params = s.cfg.params) h ?_
  unfold takeBuffered
  split
  · rfl
  · split
    · rfl
    · exact (takeFrame_stays _ _).params h1 h2

/-! ### LOCKDOWN (R150) -/

/-- In LOCKDOWN a frame that is neither RESTART nor QUERY comes to nothing at its turn but the foreign counter (R150). -/
theorem admitFrame_lockdown {h : Header} {k : Rules} {body : State → State} {s : State} (hs : s.ctl.st = .lockdown)
    (hk : k.admission ≠ .always) : admitFrame h k body s = countForeign s ∨ admitFrame h k body s = s := by
  unfold admitFrame
  split
  · exact .inl rfl
  · exact .inr (if_pos ⟨hs, hk⟩)

theorem takeFrame_lockdown {c : Instr} {s : State} (hs : s.ctl.st = .lockdown) (hr : ∀ h a r, c ≠ .restart h a r)
    (hq : ∀ h q b, c ≠ .query h q b) : takeFrame c s = countForeign s ∨ takeFrame c s = s := by
  cases c with
  | restart h a r => exact absurd rfl (hr h a r)
  | query h q b => exact absurd rfl (hq h q b)
  | halt h code => exact admitFrame_lockdown (h := h) (k := ⟨.anyone, .plain⟩) (body := haltHeard) hs nofun
  | broken h set =>
    exact admitFrame_lockdown (h := h) (k := ⟨.anyone, .plain⟩)
      (body := fun s => settle s (addBroken set.toNat .broken s)) hs nofun
  | pass | arrived | hold | go | offer | take | defer | ready | configure | start | drain | resume | clearpath | feed
  | image | sweep => exact admitFrame_lockdown hs nofun
  | _ => exact .inr rfl

theorem takeFrame_lockdown_st {c : Instr} {s : State} (hs : s.ctl.st = .lockdown) :
    (takeFrame c s).ctl.st = .lockdown ∨ ((takeFrame c s).ctl.st = .selftest ∧ ∃ h a r, c = .restart h a r) := by
  by_cases hr : ∃ h a r, c = .restart h a r
  · obtain ⟨h, a, r, rfl⟩ := hr
    unfold takeFrame admitRestart admitFrame
    dsimp only
    split
    · exact .inl hs
    · split
      · exact .inl hs
      · exact .inr ⟨rfl, _, _, _, rfl⟩
  · by_cases hq : ∃ h q b, c = .query h q b
    · obtain ⟨h, q, b, rfl⟩ := hq
      refine .inl ?_
      have ha : (answerQuery q.toNat b s).ctl = s.ctl := by
        unfold answerQuery clearAnswered
        dsimp only
        split
        · split <;> rfl
        · rfl
      unfold takeFrame admitQuery admitFrame
      dsimp only
      split
      · exact hs
      · split
        · exact hs
        · rw [ha, hs]
    · rcases takeFrame_lockdown hs (fun h a r e => hr ⟨h, a, r, e⟩) (fun h q b e => hq ⟨h, q, b, e⟩) with e | e
      · exact .inl (by rw [e]; exact hs)
      · exact .inl (by rw [e]; exact hs)

/-- A frame that the port discards or keeps waiting leaves Station Control as it is (R180). -/
theorem receive_cases (c : Instr) (h : Header) (take : State → State) (s : State) :
    receive c h take s = s ∨ receive c h take s = countOverrun s ∨ receive c h take s = countCheckError s ∨
      (receive c h take s = take s ∧ s.port.rx = []) ∨
      (receive c h take s = bufferFrame c s ∧ s.port.rx.length = 1) := by
  unfold receive
  split
  · exact .inl rfl
  · split
    · exact .inr (.inl rfl)
    · rename_i hf
      split
      · exact .inr (.inr (.inl rfl))
      · split
        · exact .inr (.inr (.inr (.inl ⟨rfl, ‹_›⟩)))
        · rename_i hn
          refine .inr (.inr (.inr (.inr ⟨rfl, ?_⟩)))
          have h1 := List.length_pos_iff.mpr hn
          have h2 : s.port.rx.length < 2 := by simpa [State.bufferFull] using hf
          omega

/-- Where a state stands that a command has led to from LOCKDOWN (R150). -/
def LeavesLockdown (c : Instr) (t : State) : Prop :=
  t.ctl.st = .lockdown ∨ (t.ctl.st = .selftest ∧ ((∃ a r, c = .fullReset a r) ∨ ∃ h a r, c = .restart h a r))

/-- A command carried out on a condition only leads where the state in each answer stands. -/
theorem st_of_ite_next {c : Prop} [Decidable c] {x y t : State} {st : StationState}
    (h : (if c then Host.Outcome.next x else Host.Outcome.next y : Host.Outcome State Fault Refusal) = .next t)
    (hx : c → x.ctl.st = st) (hy : y.ctl.st = st) : t.ctl.st = st :=
  of_ite_next (P := fun t => t.ctl.st = st) h hx hy

theorem st_of_calm {s t : State} (h : t.calm = s.calm) : t.ctl.st = s.ctl.st := congrArg Control.st (ctl_of_calm h)

/-- In LOCKDOWN the PAUSE line drains nothing (R162). -/
theorem linesRisen_lockdown {b s : State} (hs : s.ctl.st = .lockdown) : (linesRisen b s).ctl.st = .lockdown := by
  have hd : ∀ x : State, x.ctl.st = .lockdown → (drainStation x).ctl.st = .lockdown := by
    intro x hx
    simp [drainStation, hx]
  unfold linesRisen
  dsimp only
  split
  · exact hd _ (by split <;> exact hs)
  · split <;> exact hs

/-- From LOCKDOWN a command leads to LOCKDOWN, or it is a reset and leads to SELFTEST (R150). -/
theorem exec_lockdown_st {c : Instr} {s t : State} (hs : s.ctl.st = .lockdown) (h : exec c s = .next t) :
    LeavesLockdown c t := by
  rcases hh : c.header? with _ | hd
  case some =>
    have ht := (exec_frame hh s).symm.trans h
    rcases receive_cases c hd (takeFrame c) s with e | e | e | ⟨e, -⟩ | ⟨e, -⟩
    · exact of_next ht (by rw [e]; exact .inl hs)
    · exact of_next ht (by rw [e]; exact .inl hs)
    · exact of_next ht (by rw [e]; exact .inl hs)
    · exact of_next ht (by rw [e]; exact (takeFrame_lockdown_st hs).imp id fun ⟨e, x⟩ => ⟨e, .inr x⟩)
    · exact of_next ht (by rw [e]; exact .inl hs)
  cases c with
  | fullReset a r => exact of_next h (.inr ⟨rfl, .inl ⟨a, r, rfl⟩⟩)
  | selftestComplete => exact .inl (st_of_ite_next h (fun hc => absurd hc.2.1 (by simp [hs])) hs)
  | step ch => exact .inl (st_of_ite_next h (fun _ => (st_of_calm (by simp)).trans hs) hs)
  | leadEdge n =>
    exact .inl (st_of_ite_next h
      (fun _ => (st_of_calm (settle_calm _ _)).trans ((st_of_calm (takeLead_calm _ _)).trans hs)) hs)
  | trailEdge n =>
    exact .inl (st_of_ite_next h
      (fun _ => (st_of_calm (settle_calm _ _)).trans ((st_of_calm (takeTrail_calm _ _)).trans hs)) hs)
  | lineActive n =>
    exact .inl (st_of_ite_next h (fun _ => hs) ((st_of_calm (settle_calm _ _)).trans (linesRisen_lockdown hs)))
  | lineInactive n =>
    exact .inl (st_of_ite_next h (fun _ => hs)
      ((st_of_calm (settle_calm _ _)).trans ((st_of_calm (linesFallen_calm _ _)).trans hs)))
  | pickStart => exact .inl (st_of_ite_next h (fun _ => hs) ((st_of_calm (by simp)).trans hs))
  | ghostLaunch => exact .inl (st_of_ite_next h (fun _ => hs) ((st_of_calm (by simp)).trans hs))
  | slotExamination => exact .inl (st_of_ite_next h (fun _ => hs) ((st_of_calm (by simp)).trans hs))
  | drainEnd => exact .inl (st_of_ite_next h (fun hc => absurd hc.2.1 (by simp [hs])) hs)
  | pauseEnd => exact .inl (st_of_ite_next h (fun hc => absurd hc.2.1 (by simp [hs])) hs)
  | sweepEnd => exact .inl (st_of_ite_next h (fun hc => absurd hc.2 (by simp [State.sweepDue, hs])) hs)
  | holdWaitExpiry =>
    exact .inl (st_of_ite_next h (fun _ => (st_of_calm (raiseHandoff_calm _ _)).trans hs) hs)
  | returnWaitExpiry =>
    exact .inl (st_of_ite_next h (fun _ => (st_of_calm (raiseHandoff_calm _ _)).trans hs) hs)
  | imageWaitExpiry => exact .inl (st_of_ite_next h (fun _ => (st_of_calm (by simp)).trans hs) hs)
  | ejectComplete => exact .inl (st_of_ite_next h (fun _ => (st_of_calm (by simp)).trans hs) hs)
  | dumpComplete => exact .inl (st_of_ite_next h (fun _ => (st_of_calm (by simp)).trans hs) hs)
  | pageSyncPulseEnd => exact .inl (st_of_ite_next h (fun _ => hs) hs)
  | faultDispatch =>
    simp only [exec, execFaultDispatch] at h
    split at h
    · exact of_next h (.inl hs)
    · exact .inl (st_of_ite_next h (fun hc => absurd hc.2 (by simp [hs, StationState.faultsPend])) hs)
  | frameError levels => exact of_next h (.inl ((st_of_calm (frameHeard_calm levels s)).trans hs))
  | frameSendStart => exact .inl (st_of_ite_next h (fun _ => hs) hs)
  | arbitrationLost => exact .inl (st_of_ite_next h (fun _ => hs) hs)
  | frameSent => exact .inl (st_of_ite_next h (fun _ => hs) hs)
  | link => exact .inl (st_of_ite_next h (fun _ => hs) hs)
  | resetPinHeldLow => exact of_next h (.inl hs)
  | _ => cases hh

/-- Settles O4: the port hands on RESTART and QUERY alone, and no event of the station's own leaves LOCKDOWN. -/
theorem lockdownIsLeftOnlyByReset : Obligations.LockdownIsLeftOnlyByReset := by
  refine ⟨fun c s t hs h => exec_lockdown_st hs h, fun s t hs hp h => ?_⟩
  unfold step at h
  rw [hp] at h
  rw [← Host.Outcome.next.inj h]
  unfold takeBuffered
  split
  · exact .inl hs
  · rename_i c rest hrx
    split
    · exact .inl hs
    · refine (takeFrame_lockdown_st (s := { s with port := { s.port with rx := rest } }) hs).imp id ?_
      rintro ⟨e, hd, a, r, rfl⟩
      exact ⟨e, hd, a, r, rest, hrx⟩

end Sys2Proof.Machine

/-! PROOFS. The port's turns, resets, the ramp table, the sending side and the order of the transmit queue. -/

namespace Sys2Proof.Machine

/-! ### A frame's turn (R180) -/

/-- Settles O1: by the equations of `step`, and a frame heard with an empty buffer is handed to `takeFrame`. -/
theorem stepTakesTheFrontCommand : Obligations.StepTakesTheFrontCommand := by
  refine ⟨?front, ?buffered, ?idle, ?heard⟩
  case front =>
    intro c rest s hp
    unfold step
    rw [hp]
    rfl
  case buffered =>
    intro c rest s hp hrx hl hs
    have hopen : s.portClosed = false := by simp [State.portClosed, hl, hs]
    simp only [step, takeBuffered, hp, hrx, hopen, Bool.false_eq_true, if_false]
  case idle =>
    intro s hp h
    rcases hrx : s.port.rx with _ | ⟨c, rest⟩
    · simp only [step, takeBuffered, hp, hrx]
    · have hclosed : s.portClosed = true := by
        rcases h with h | h | h
        · simp [hrx] at h
        · simp [State.portClosed, h]
        · simp [State.portClosed, h]
      simp only [step, takeBuffered, hp, hrx, hclosed, if_true]
  case heard =>
    intro c h s hc hsound hh
    rw [exec_frame hc]
    exact congrArg _ (receive_heard hh hsound)

/-! ### SELFTEST and LOCKDOWN take no frame (R150, R156) -/

/-- A completed frame in LOCKDOWN is counted, waits, or comes to nothing (R150, R180). -/
theorem exec_frame_lockdown {c : Instr} {h : Header} {s : State} (hc : c.header? = some h) (hs : s.ctl.st = .lockdown)
    (hr : ∀ h a r, c ≠ .restart h a r) (hq : ∀ h q b, c ≠ .query h q b) :
    ∃ (o e f : Nat) (rx : List Instr), exec c s = .next { s with port := { s.port with
        overruns := o, checkErrors := e, foreign := f, rx := rx } } ∧
      (rx = s.port.rx ∨ (s.port.rx.length = 1 ∧ rx = s.port.rx ++ [c])) := by
  rw [exec_frame hc]
  rcases receive_cases c h (takeFrame c) s with e | e | e | ⟨e, -⟩ | ⟨e, hl⟩
  · exact ⟨_, _, _, _, congrArg _ e, .inl rfl⟩
  · exact ⟨_, _, _, _, congrArg _ e, .inl rfl⟩
  · exact ⟨_, _, _, _, congrArg _ e, .inl rfl⟩
  · rcases takeFrame_lockdown hs hr hq with e2 | e2
    · exact ⟨_, _, _, _, congrArg _ (e.trans e2), .inl rfl⟩
    · exact ⟨_, _, _, _, congrArg _ (e.trans e2), .inl rfl⟩
  · exact ⟨_, _, _, _, congrArg _ e, .inr ⟨hl, rfl⟩⟩

/-- A completed frame given by its levels changes counters of the port, or joins the receive buffer (R180, R181). -/
theorem frameHeard_cases (l : List Bool) (s : State) :
    frameHeard l s = s ∨ frameHeard l s = countCheckError s ∨ frameHeard l s = countOverrun s ∨
      frameHeard l s = countForeign s ∨ (s.port.rx.length ≤ 1 ∧ ∃ c, frameHeard l s = bufferFrame c s) := by
  unfold frameHeard
  split
  · exact .inl rfl
  · split
    · exact .inr (.inl rfl)
    · unfold judgeFrame
      split
      · exact .inr (.inl rfl)
      · split
        · exact .inl rfl
        · split
          · exact .inr (.inr (.inl rfl))
          · rename_i hf
            have hl : s.port.rx.length < 2 := by simpa [State.bufferFull] using hf
            split
            · exact .inr (.inl rfl)
            · exact .inr (.inr (.inr (.inl rfl)))
            · split
              · exact .inr (.inr (.inr (.inr ⟨Nat.le_of_lt_succ hl, _, rfl⟩)))
              · exact .inr (.inl rfl)

/-- Settles O5: in SELFTEST the port is closed; in LOCKDOWN a frame is counted, waits, or is dropped at its turn. -/
theorem framesInSelftestAndLockdown : Obligations.FramesInSelftestAndLockdown := by
  refine ⟨?selftest, ?frames, ?levels, ?turn⟩
  case selftest =>
    intro c s hs hc
    have hp : s.portClosed = true := by simp [State.portClosed, hs]
    rcases hc with hc | ⟨l, rfl⟩
    · obtain ⟨h, hh⟩ := Option.isSome_iff_exists.mp hc
      rw [exec_frame hh]
      exact congrArg _ (receive_closed hp)
    · exact congrArg _ (if_pos hp)
  case frames =>
    intro c s hs hc hr hq
    obtain ⟨h, hh⟩ := Option.isSome_iff_exists.mp hc
    exact exec_frame_lockdown hh hs hr hq
  case levels =>
    intro l s _
    rcases frameHeard_cases l s with e | e | e | e | ⟨hl, c, e⟩
    · exact ⟨_, _, _, _, congrArg _ e, .inl rfl⟩
    · exact ⟨_, _, _, _, congrArg _ e, .inl rfl⟩
    · exact ⟨_, _, _, _, congrArg _ e, .inl rfl⟩
    · exact ⟨_, _, _, _, congrArg _ e, .inl rfl⟩
    · exact ⟨_, _, _, _, congrArg _ e, .inr ⟨hl, c, rfl⟩⟩
  case turn =>
    intro c rest s hs hl hr hq hp hrx
    have ht : step s = .next (takeFrame c { s with port := { s.port with rx := rest } }) :=
      stepTakesTheFrontCommand.2.1 c rest s hp hrx hl (by simp [hs])
    rcases takeFrame_lockdown (s := { s with port := { s.port with rx := rest } }) hs hr hq with e | e
    · exact ⟨_, ht.trans (congrArg _ e)⟩
    · exact ⟨s.port.foreign, ht.trans (congrArg _ e)⟩

/-! ### The RESET pin (R155) -/

/-- A command carried out on a condition that does not hold changes at most the pins. -/
theorem ite_pinned {c : Prop} [Decidable c] {s x : State} {p : Pins} (hc : ¬ c) :
    ∃ p : Pins, (if c then Host.Outcome.next x else Host.Outcome.next { s with pins := p } :
      Host.Outcome State Fault Refusal) = .next { s with pins := p } := ⟨p, if_neg hc⟩

/-- While the RESET pin is low a command notes at most the input levels (R155). -/
theorem exec_resetLow {c : Instr} {s : State} (hl : s.ctl.resetLow = true) (hf : ∀ a r, c ≠ .fullReset a r)
    (hr : c ≠ .resetPinHeldLow) : ∃ p : Pins, exec c s = .next { s with pins := p } := by
  have hp : s.portClosed = true := by simp [State.portClosed, hl]
  have low : s.ctl.resetLow ≠ false := by simp [hl]
  rcases hh : c.header? with _ | hd
  case some => exact ⟨s.pins, (exec_frame hh s).trans (congrArg _ (receive_closed hp))⟩
  cases c with
  | fullReset a r => exact absurd rfl (hf a r)
  | resetPinHeldLow => exact absurd rfl hr
  | leadEdge n => exact ⟨_, if_neg (by simp [State.filters, hl])⟩
  | trailEdge n => exact ⟨_, if_neg (by simp [State.filters, hl])⟩
  | lineActive n => exact ⟨_, if_pos hl⟩
  | lineInactive n => exact ⟨_, if_pos hl⟩
  | pickStart => exact ⟨s.pins, if_pos hl⟩
  | ghostLaunch => exact ⟨s.pins, if_pos hl⟩
  | slotExamination => exact ⟨s.pins, if_pos hp⟩
  | pageSyncPulseEnd => exact ⟨s.pins, if_pos hl⟩
  | arbitrationLost => exact ⟨s.pins, if_pos hl⟩
  | frameError levels => exact ⟨s.pins, congrArg _ (if_pos hp)⟩
  | faultDispatch =>
    refine ⟨s.pins, ?_⟩
    simp only [exec, execFaultDispatch]
    split
    · rfl
    · exact if_neg fun h => low h.1
  | halt | pass | arrived | hold | go | broken | offer | take | defer | ready | configure | start | drain | resume
  | clearpath | restart | feed | image | sweep | query => cases hh
  | _ => exact ⟨s.pins, if_neg fun h => low h.1⟩

/-- Where the outputs are off, each assignable line that is an output stands at its inactive level (R155, R164). -/
theorem lineOut_off {s : State} (h : s.outputsOff = true) (n : Nat) :
    s.lineOut n =
      if s.lineFunction n = .pageSync ∨ s.lineFunction n = .offset ∨ s.lineFunction n = .faultLamp then
        some (!s.lineActiveHigh n)
      else none := by
  unfold State.lineOut
  cases s.lineFunction n <;> simp [h]

/-- Settles O6: each event asks for the pin to be high, the port is closed, and the outputs are functions of the pin. -/
theorem heldInResetNothingHappens : Obligations.HeldInResetNothingHappens := by
  refine ⟨fun c s hl hf hr => exec_resetLow hl hf hr, ?pin, ?outputs, ?wire, ?emitters⟩
  case pin =>
    intro s
    simp only [exec, execResetPinHeldLow, emergencyStop, halt_spec]
    rfl
  case outputs =>
    intro s h
    have ho : s.outputsOff = true := by
      unfold State.outputsOff
      rcases h with h | h <;> simp [h]
    exact ⟨by simp [State.ejectOut, ho], by simp [State.dumpOut, ho], by simp [State.gateOut, ho],
      fun ch => by simp [State.directionOut, ho], lineOut_off ho⟩
  case wire =>
    intro s h
    exact ⟨by simp [State.wire, h], by simp [State.emittersOn, h]⟩
  case emitters =>
    intro s h
    simp [State.emittersOn, h]

/-! ### FULL_RESET and RESTART (R155, R158) -/

/-- Every sensor after a full reset, those beyond the table read as such too (R23). -/
theorem fullReset_sensor (a r : Nat) (p : Pins) (w : List Instr) (k : Nat) :
    (State.fullReset a r p w).sensor k = Sensor.reset := by
  simp only [State.sensor, State.fullReset, List.getD_eq_getElem?_getD, List.getElem?_replicate]
  split <;> rfl

/-- After a full reset no line has a function (R164, R189). -/
theorem fullReset_lineOut (a r : Nat) (p : Pins) (w : List Instr) {n : Nat} (hn : n < 4) :
    (State.fullReset a r p w).lineOut n = none := by
  have hp : (State.fullReset a r p w).lineParam n = 256 := by
    obtain rfl | rfl | rfl | rfl : n = 0 ∨ n = 1 ∨ n = 2 ∨ n = 3 := by omega
    all_goals rfl
  have hf : (State.fullReset a r p w).lineFunction n = .none := by
    unfold State.lineFunction
    rw [hp]
    rfl
  rw [lineOut_off (by rfl), hf]
  rfl

/-- Settles O14: FULL_RESET answers `State.fullReset`, whose blocks are the reset values. -/
theorem fullResetLeavesTheResetValues : Obligations.FullResetLeavesTheResetValues := by
  intro a r s
  refine ⟨State.fullReset a.toNat r.toNat s.pins s.pending, rfl, rfl, rfl, rfl, rfl, rfl,
    fun k => fullReset_sensor _ _ _ _ k, fun ch => ?_, rfl, rfl, fun side => ?_, rfl, rfl, rfl, rfl, rfl, rfl, rfl, rfl,
    rfl, rfl, rfl, rfl, rfl, rfl, rfl, rfl, fun n hn => fullReset_lineOut _ _ _ _ hn, rfl, rfl, rfl, rfl⟩
  · cases ch <;> rfl
  · cases side <;> exact ⟨rfl, rfl⟩

/-- Settles O16: the port hands RESTART of ENGADDR to `restartStation`. -/
theorem restartKeepsOnlyItsOwn : Obligations.RestartKeepsOnlyItsOwn := by
  intro h a r s hh
  have he : exec (.restart h a r) s = .next (restartStation a.toNat r.toNat s) :=
    (congrArg _ (receive_heard (c := .restart h a r) hh.1 rfl)).trans (congrArg _ (admit_engine hh rfl (.inr rfl)))
  rw [he]
  simp only [restartStation, Port.restart, validAddress, decide_eq_true_eq]
  rfl

/-! ### SELFTEST_COMPLETE (R156, R159) -/

/-- Entering UNCONFIGURED changes the state's name alone. -/
theorem enterState_unconfigured (s : State) : enterState .unconfigured s = setState .unconfigured s := by
  unfold enterState
  split
  · rename_i h
    unfold setState
    rw [← h]
  · rfl

theorem enterState_of_ne {n : StationState} {s : State} (h : s.ctl.st ≠ n) : enterState n s = onEntry n (setState n s) :=
  if_neg h

/-- With no entry in the hold set, clearing it ends the waits alone (R67, R74, R116). -/
theorem clearHold_of_empty {s : State} (h : s.drive.hold = []) : clearHold s = { s with
    hand := { s.hand with waiting := none, holdTimer := .idle }
    reg := { s.reg with timer := .idle } } := by
  unfold clearHold
  rw [h]
  have : { s.drive with hold := [] } = s.drive := by rw [← h]
  rw [this]
  rfl

/-- A commit check that passes takes a station that is not READY, under no hold, there with the derived points (R188). -/
theorem commit_passes {s : State} (hc : s.commitCheck = none) (hs : s.ctl.st ≠ .ready) (hh : s.drive.hold = []) :
    commit s = replyConfig none { s with
      ctl := { s.ctl with st := .ready }
      cfg := s.derived
      hand := { s.hand with waiting := none, holdTimer := .idle }
      reg := { s.reg with timer := .idle } } := by
  have he : enterState .ready { s with cfg := s.derived } =
      clearHold (setState .ready { s with cfg := s.derived }) := enterState_of_ne hs
  have hempty : (setState .ready { s with cfg := s.derived }).drive.hold = [] := hh
  simp only [commit, hc]
  rw [he, clearHold_of_empty hempty]
  rfl

/-- SELFTEST_COMPLETE with the self-test running takes the readings and leaves SELFTEST (R156). -/
theorem exec_selftestComplete {stuck levels : BitVec 6} {s : State} (hl : s.ctl.resetLow = false)
    (hs : s.ctl.st = .selftest) (ht : s.ctl.selftest = true) :
    exec (.selftestComplete stuck levels) s = .next (leaveSelftest (takeReadings stuck levels s)) :=
  if_pos ⟨hl, hs, ht⟩

theorem validAddress_of {a : Nat} (h1 : 1 ≤ a) (h2 : a ≤ 62) : validAddress a = true := by simp [validAddress, h1, h2]

/-- Leaving SELFTEST keeps the self-test's end and the readings (R156). -/
theorem leaveSelftest_keeps (s : State) :
    (leaveSelftest s).ctl.selftest = s.ctl.selftest ∧ (leaveSelftest s).ctl.resetLow = s.ctl.resetLow ∧
      (leaveSelftest s).sens = s.sens := by
  have entry : ∀ n x, n = StationState.ready ∨ n = .unconfigured →
      (enterState n x).ctl.selftest = x.ctl.selftest ∧ (enterState n x).ctl.resetLow = x.ctl.resetLow ∧
        (enterState n x).sens = x.sens := by
    intro n x hn
    unfold enterState
    split
    · exact ⟨rfl, rfl, rfl⟩
    · rcases hn with rfl | rfl <;> exact ⟨rfl, rfl, rfl⟩
  unfold leaveSelftest
  split
  · exact ⟨rfl, rfl, rfl⟩
  · split
    · unfold commit
      split
      · exact entry .ready { sendJoin s with cfg := (sendJoin s).derived } (.inl rfl)
      · exact entry .unconfigured (sendJoin s) (.inr rfl)
    · exact entry .unconfigured (sendJoin s) (.inr rfl)

/-- Settles O15: the readings, then by the address and the kind of reset nothing, JOIN, or JOIN and the commit check. -/
theorem selftestCompleteLeavesSelftest : Obligations.SelftestCompleteLeavesSelftest := by
  refine ⟨?fresh, ?silent, ?passes, ?fails, ?readings⟩
  case fresh =>
    intro stuck levels s hl hs ht hr h1 h2
    rw [exec_selftestComplete hl hs ht]
    refine congrArg _ ?_
    unfold leaveSelftest
    rw [if_neg (by simp [takeReadings, validAddress_of h1 h2]), if_neg (by simp [takeReadings, hr]),
      enterState_unconfigured]
    rfl
  case silent =>
    intro stuck levels s hl hs ht ha
    rw [exec_selftestComplete hl hs ht]
    have hv : validAddress s.ctl.address = false := decide_eq_false (by omega)
    exact congrArg _ (if_pos (by simp [takeReadings, hv]))
  case passes =>
    intro stuck levels s hl hs ht hr h1 h2 hh hc
    have hc' : (sendJoin (takeReadings stuck levels s)).commitCheck = none := hc
    rw [exec_selftestComplete hl hs ht]
    refine congrArg _ ?_
    unfold leaveSelftest
    rw [if_neg (by simp [takeReadings, validAddress_of h1 h2]), if_pos (show (takeReadings stuck levels s).ctl.restarted = true from hr)]
    rw [commit_passes hc' (show s.ctl.st ≠ .ready by simp [hs]) hh]
    have h0 : s.drive.hold.length = 0 := by rw [hh]; rfl
    rw [← h0]
    rfl
  case fails =>
    intro stuck levels i s hl hs ht hr h1 h2 hc
    have hc' : (sendJoin (takeReadings stuck levels s)).commitCheck = some i := hc
    rw [exec_selftestComplete hl hs ht]
    refine congrArg _ ?_
    unfold leaveSelftest
    rw [if_neg (by simp [takeReadings, validAddress_of h1 h2]), if_pos (show (takeReadings stuck levels s).ctl.restarted = true from hr)]
    simp only [commit, hc']
    rw [enterState_unconfigured]
    rfl
  case readings =>
    intro stuck levels s t hl hs ht h
    obtain ⟨e1, e2, e3⟩ := leaveSelftest_keeps (takeReadings stuck levels s)
    rw [exec_selftestComplete hl hs ht] at h
    rw [← Host.Outcome.next.inj h]
    refine ⟨?_, fun k hk => ?_⟩
    · have hlow : (takeReadings stuck levels s).ctl.resetLow = false := hl
      have hself : (takeReadings stuck levels s).ctl.selftest = false := rfl
      rw [State.emittersOn, e1, e2, hlow, hself]
      rfl

    rw [State.sensor, e3]
    simp [takeReadings, List.getD_eq_getElem?_getD, List.getElem?_eq_getElem hk]

/-! ### Nothing moves outside the stepping states (R43, R54) -/

/-- A state that issues no steps checks no edges. -/
theorem checks_of_steps {st : StationState} (h : st.steps = false) : st.checks = false := by
  cases st <;> first | rfl | cases h

/-- Settles O18: without steps a lead edge and a trail edge write their sensor alone. -/
theorem nothingMovesOutsideTheSteppingStates : Obligations.NothingMovesOutsideTheSteppingStates := by
  refine ⟨?stands, ?lead, ?trail⟩
  case stands =>
    intro s ch h
    refine if_neg fun ⟨_, hs, hr⟩ => ?_
    rcases h with h | h
    · simp [hs] at h
    · exact hr h
  case lead =>
    intro s k hl hs hst hk hq hc
    rw [exec_leadEdge_uncovered (filters_of_inUse hl hs hk) hc]
    have e : takeLead k (pinSensor k true s) = setSensor k Sensor.coverUnowned (pinSensor k true s) := by
      have hw : s.ctl.st ≠ .sweeping := by rintro h; rw [h] at hst; cases hst
      unfold takeLead
      simp only [pinSensor_ctl, checks_of_steps hst, Bool.false_eq_true, if_false, hw,
        setSensor_setSensor, disown_comp_cover]
    rw [e]
    exact congrArg _ (settle_same (b := s) hq rfl rfl rfl rfl rfl)
  case trail =>
    intro s k hl hs hst hk hq hc
    rw [exec_trailEdge_covered (filters_of_inUse hl hs hk) hc]
    have e : takeTrail k (pinSensor k false s) = setSensor k Sensor.uncover (pinSensor k false s) := by
      unfold takeTrail
      dsimp only
      split
      · unfold takeOwned
        have hsh : ∀ q r, (setSensor k (fun x => { x.disown with covered := false, uncovered := 0 })
            (pinSensor k false s)).shortDue q r = false := by
          intro q r
          simp [State.shortDue, checks_of_steps hst]
        simp only [hsh, Bool.false_eq_true, if_false, setSensor_ctl, pinSensor_ctl, hst]
        rfl
      · rw [if_neg (by simp [hst])]
        rfl
    rw [e]
    exact congrArg _ (settle_same (b := s) hq rfl rfl rfl rfl rfl)

/-! ### The ramp table (R52) -/

/-- Settles O24: `rampPeriod` is the table's formula, and division by K is monotone. -/
theorem rampTable : Obligations.RampTable := by
  intro rst t k i
  refine ⟨fun hk hi => ?quotient, fun hk => ?ends, fun hk => ?falls, fun hr => ?flat, rfl⟩
  case quotient =>
    refine ⟨(max rst t - t) * i / k, Nat.div_mul_le_self _ _, ?_, ?_⟩
    · have := Nat.lt_div_mul_add (a := (max rst t - t) * i) (b := k) hk
      omega
    · have : (max rst t - t) * i / k ≤ max rst t - t :=
        Nat.div_le_of_le_mul (by rw [Nat.mul_comm]; exact Nat.mul_le_mul_right _ hi)
      rw [rampPeriod, if_neg (by omega)]
      omega
  case ends =>
    rw [rampPeriod, rampPeriod, if_neg (by omega), if_neg (by omega), Nat.mul_div_cancel _ hk]
    exact ⟨by simp, by omega⟩
  case falls =>
    rw [rampPeriod, rampPeriod, if_neg (by omega), if_neg (by omega)]
    exact Nat.sub_le_sub_left (Nat.div_le_div_right (Nat.mul_le_mul_left _ (Nat.le_succ i))) _
  case flat =>
    rw [rampPeriod, max_eq_right hr]
    split <;> simp

/-! ### The sending side (R179, R184, R185) -/

theorem isSending_of_none {p : Port} (h : ∀ x ∈ p.tx, x.sending = false) : p.isSending = false := by
  simpa [Port.isSending] using h

/-- A fault raised pends where the state lets it and is counted anywhere (R140, R141). -/
theorem raise_of_pends {q : Request} {s : State} (h : s.ctl.st.faultsPend = true) :
    raise q s = { s with flt := (s.flt.count q.code).pend q } := by
  unfold raise
  rw [if_pos h]

theorem raise_of_counts {q : Request} {s : State} (h : s.ctl.st.faultsPend = false) :
    raise q s = { s with flt := s.flt.count q.code } := by
  unfold raise
  rw [if_neg (by simp [h])]

/-- Settles O36: each command of the sending side by its one equation. -/
theorem sendingSide : Obligations.SendingSide := by
  refine ⟨?start, ?lost, ?sent, ?counted, ?raised, ?pulse⟩
  case start =>
    intro s e rest hl ht hn
    have hx := isSending_of_none (p := s.port) hn
    refine (if_pos ⟨hl, hx⟩).trans ?_
    unfold Port.startHead
    rw [ht]
  case lost =>
    intro s hl
    exact if_neg (by simp [hl])
  case sent =>
    intro s e before after hl ht he hn
    have hkeep : (before ++ e :: after).filter (fun e => !e.sending) = before ++ after := by
      have h1 : before.filter (fun e => !e.sending) = before :=
        List.filter_eq_self.mpr fun x hx => by simp [hn x (List.mem_append_left _ hx)]
      have h2 : after.filter (fun e => !e.sending) = after :=
        List.filter_eq_self.mpr fun x hx => by simp [hn x (List.mem_append_right _ hx)]
      simp [h1, h2, he]
    have hany : ((before ++ e :: after).any fun e => !e.sending) = decide (before ++ after ≠ []) := by
      rw [← hkeep]
      rw [Bool.eq_iff_iff]
      simp [List.filter_eq_nil_iff]
    refine (if_pos ⟨hl, by simp [Port.isSending, ht, he]⟩).trans ?_
    unfold Port.finish
    rw [ht, hkeep, hany]
    by_cases h0 : before ++ after = [] <;> simp [h0]
  case counted =>
    intro s hl ht hr hp
    refine (if_pos ⟨hl, ht, hr⟩).trans ?_
    rw [raise_of_counts hp]
    rfl
  case raised =>
    intro s hl ht hr hp
    refine (if_pos ⟨hl, ht, hr⟩).trans ?_
    rw [raise_of_pends hp]
    rfl
  case pulse =>
    intro s hl
    exact if_neg (by simp [hl])

/-! ### The order of the transmit queue (R184) -/

/-- Where a frame of class c joins a queue in order: behind its class or a better one, before every worse one. -/
def joinedAt (f : Frame) (l : List TxEntry) : List TxEntry :=
  (l.filter fun e => decide (e.cls ≤ f.body.cls)) ++
    { frame := f, sending := false } :: l.filter fun e => decide (f.body.cls < e.cls)

theorem insertByClass_eq {f : Frame} {l : List TxEntry} (h : l.Pairwise fun a b => a.cls ≤ b.cls) :
    insertByClass ⟨f, false⟩ l = joinedAt f l := by
  have hc : (⟨f, false⟩ : TxEntry).cls = f.body.cls := rfl
  induction l with
  | nil => rfl
  | cons x xs ih =>
    obtain ⟨hx, hxs⟩ := List.pairwise_cons.mp h
    unfold insertByClass joinedAt
    rw [hc]
    split
    · rename_i hlt
      have all : ∀ y ∈ x :: xs, f.body.cls < y.cls := fun y hy => by
        rcases List.mem_cons.mp hy with rfl | hy
        · exact hlt
        · exact hlt.trans_le (hx y hy)
      rw [List.filter_eq_nil_iff.mpr fun y hy => by simpa using all y hy,
        List.filter_eq_self.mpr fun y hy => by simpa using all y hy]
      rfl
    · rename_i hge
      rw [ih hxs]
      simp [joinedAt, hge, Nat.le_of_not_lt hge]

/-- The worst class is that of some frame not being sent, and no such frame is of a worse one (R184). -/
theorem worstClass_le {l : List TxEntry} {e : TxEntry} (he : e ∈ l) (hs : e.sending = false) :
    ∃ c, worstClass l = some c ∧ e.cls ≤ c := by
  induction l with
  | nil => cases he
  | cons x xs ih =>
    unfold worstClass
    rcases List.mem_cons.mp he with rfl | hm
    · rw [if_neg (by simp [hs])]
      cases hw : worstClass xs with
      | none => exact ⟨_, rfl, le_refl _⟩
      | some d => exact ⟨_, rfl, le_max_left _ _⟩
    · obtain ⟨c, hc, hle⟩ := ih hm
      rw [hc]
      split
      · exact ⟨c, rfl, hle⟩
      · exact ⟨_, rfl, hle.trans (le_max_right _ _)⟩

/-- The frame that an eviction takes is the newest one of its class not being sent (R184). -/
theorem dropNewest_eq {c : Nat} {before after : List TxEntry} {x : TxEntry} (hx : x.evictable c = true)
    (ha : ∀ e ∈ after, e.evictable c = false) : dropNewest c (before ++ x :: after) = before ++ after := by
  have hn : after.any (TxEntry.evictable c) = false := by simpa using ha
  induction before with
  | nil => simp [dropNewest, hn, hx]
  | cons b bs ih => simp [dropNewest, hx, ih]

/-- Settles O55: a frame joins by class, and the eviction takes the newest frame of the worst class. -/
theorem transmitQueueOrder : Obligations.TransmitQueueOrder := by
  intro p f hp
  refine ⟨?room, ?drops, ?evicts⟩
  case room =>
    intro hl
    rw [Port.enqueue, if_pos hl, insertByClass_eq hp]
    rfl
  case drops =>
    intro hl hw
    rw [Port.enqueue, if_neg (by omega)]
    cases hc : worstClass p.tx with
    | none => rfl
    | some c =>
      obtain ⟨e, he, hs, hcls⟩ := worstClass_mem hc
      have := hw e he hs
      exact if_neg (by omega)
  case evicts =>
    intro before after x hl ht hs hlt hw hafter
    have hx : x ∈ p.tx := by rw [ht]; simp
    obtain ⟨c, hc, hle⟩ := worstClass_le hx hs
    obtain ⟨e, he, hes, hecls⟩ := worstClass_mem hc
    have hcx : c = x.cls := le_antisymm (hecls ▸ hw e he hes) hle
    subst hcx
    rw [Port.enqueue, if_neg (by omega), hc]
    dsimp only
    rw [if_pos hlt, ht, dropNewest_eq (by simp [TxEntry.evictable, hs])
      (fun e he => by simp only [TxEntry.evictable, Bool.and_eq_false_iff]; by_cases h : e.sending = false
                      · exact .inr (by simpa using hafter e he h)
                      · exact .inl (by simpa using h)),
      insertByClass_eq (hp.sublist (by rw [ht]; simp))]
    rfl

end Sys2Proof.Machine

/-! PROOFS. How the Drive Unit settles after an event (R48, R52 to R55, R57). -/

namespace Sys2Proof.Machine

/-- A generator loses demand where it has none, and applies a direction wanted where it then stands (R54, R55). -/
def Chan.stopsOn (c : Chan) (demand : Bool) : Chan := (if demand then c else c.loseDemand).applyWant

/-- A generator with demand begins a ramp-up where it stands (R53). -/
def Chan.startsOn (c : Chan) (demand : Bool) (len : Nat) : Chan := if demand then c.beginRamp len else c

/-- The period of the step to come, from the generator's state (R52 to R54). -/
def Chan.periodOn (c : Chan) (len start target : Nat) : Nat :=
  match c.run with
  | .stopped => 0
  | .rampUp => rampPeriod start target len (c.ramp + 1)
  | .atSpeed => target
  | .rampDown => rampPeriod start target len (c.ramp - 1)

/-- What settling makes of one channel, by its own demand. -/
def Chan.settledOn (c : Chan) (demand : Bool) (len start target : Nat) : Chan :=
  let d := (c.stopsOn demand).startsOn demand len
  { d with period := d.periodOn len start target }

/-- An armed timer starts once what it waits for stands (R74, R105, R116). -/
def Timer.startedBy (t : Timer) (stands : Bool) : Timer := if stands = true ∧ t = .armed then .running else t

/-- A channel stands when it was stopped, or has lost demand in RAMP-UP or AT SPEED at ramp index 0 (R54). -/
def Chan.stands (c : Chan) (demand : Bool) : Bool :=
  decide (c.run = .stopped ∨ (demand = false ∧ c.run ≠ .rampDown ∧ c.ramp = 0))

/-- Both channels stand, each by its own demand. -/
def State.bothStand (s : State) : Bool := s.drive.chA.stands s.demandA && s.drive.chB.stands s.demandB

theorem stopsOn_run (c : Chan) (demand : Bool) :
    (c.stopsOn demand).run = (if demand then c else c.loseDemand).run := by
  rw [Chan.stopsOn, (applyWant_spec _).1]

theorem stopsOn_ramp (c : Chan) (demand : Bool) : (c.stopsOn demand).ramp = c.ramp := by
  rw [Chan.stopsOn, (applyWant_spec _).1]
  cases demand with
  | true => rfl
  | false =>
    show c.loseDemand.ramp = c.ramp
    rw [(loseDemand_spec c).1]

theorem stopsOn_stopped_iff (c : Chan) (demand : Bool) : (c.stopsOn demand).run = .stopped ↔ c.stands demand = true := by
  rw [stopsOn_run, Chan.stands, decide_eq_true_eq]
  cases demand with
  | true => simp
  | false =>
    simp only [Bool.false_eq_true, if_false]
    rcases (loseDemand_spec c).2 with ⟨hr, e⟩ | ⟨h1, h2, e⟩
    · rw [e]
      by_cases h0 : c.ramp = 0 <;> rcases hr with hr | hr <;> simp [h0, hr]
    · rw [e]
      cases hrun : c.run with
      | rampUp => exact absurd hrun h1
      | atSpeed => exact absurd hrun h2
      | stopped => simp
      | rampDown => simp

/-- What stands has applied the direction wanted; what moves keeps both (R55, R57). -/
theorem stopsOn_dir (c : Chan) (demand : Bool) :
    (c.stands demand = true ∧ (c.stopsOn demand).dir = c.want.getD c.dir ∧ (c.stopsOn demand).want = none) ∨
      (c.stands demand = false ∧ (c.stopsOn demand).dir = c.dir ∧ (c.stopsOn demand).want = c.want) := by
  have hd : (if demand then c else c.loseDemand).dir = c.dir ∧ (if demand then c else c.loseDemand).want = c.want := by
    cases demand with
    | true => exact ⟨rfl, rfl⟩
    | false =>
      show c.loseDemand.dir = c.dir ∧ c.loseDemand.want = c.want
      rw [(loseDemand_spec c).1]
      exact ⟨rfl, rfl⟩
  have hs := stopsOn_stopped_iff c demand
  rw [stopsOn_run] at hs
  rcases (applyWant_spec (if demand then c else c.loseDemand)).2 with ⟨hr, hw, e⟩ | ⟨hr, e⟩
  · exact .inl ⟨hs.mp hr, by rw [Chan.stopsOn, e, hd.1, hd.2], hw⟩
  · exact .inr ⟨by simpa using fun h => hr (hs.mpr h), by rw [Chan.stopsOn, e, hd.1], by rw [Chan.stopsOn, e, hd.2]⟩

/-- A channel that stands and has demand begins at ramp index 0; any other is as the stops left it (R53, R55). -/
theorem settledOn_of_begins {c : Chan} (h : c.run = .stopped) (len start target : Nat) :
    (c.settledOn true len start target).ramp = 0 ∧
      (c.settledOn true len start target).run = if len = 0 then .atSpeed else .rampUp := by
  have hs : c.stands true = true := by simp [Chan.stands, h]
  have hr := (stopsOn_stopped_iff c true).mpr hs
  rcases stopsOn_dir c true with ⟨-, -, hw⟩ | ⟨hf, -⟩
  · unfold Chan.settledOn Chan.startsOn
    rw [if_pos rfl]
    rcases beginRamp_spec (c.stopsOn true) len with ⟨-, -, e⟩ | ⟨hn, -⟩
    · rw [e]
      exact ⟨rfl, rfl⟩
    · exact absurd ⟨hr, hw⟩ hn
  · rw [hs] at hf
    cases hf

theorem settledOn_of_keeps {c : Chan} {demand : Bool} (h : demand = true → c.run ≠ .stopped) (len start target : Nat) :
    (c.settledOn demand len start target).run = (c.stopsOn demand).run ∧
      (c.settledOn demand len start target).ramp = c.ramp := by
  rw [← stopsOn_ramp c demand]
  cases demand with
  | false => exact ⟨rfl, rfl⟩
  | true =>
    unfold Chan.settledOn Chan.startsOn
    rw [if_pos rfl]
    rcases beginRamp_spec (c.stopsOn true) len with ⟨hr, -⟩ | ⟨-, e⟩
    · rw [stopsOn_run] at hr
      exact absurd hr (h rfl)
    · rw [e]
      exact ⟨rfl, rfl⟩

theorem settledOn_dir (c : Chan) (demand : Bool) (len start target : Nat) :
    (c.settledOn demand len start target).dir = (c.stopsOn demand).dir ∧
      (c.settledOn demand len start target).want = (c.stopsOn demand).want := by
  unfold Chan.settledOn Chan.startsOn
  cases demand with
  | false => exact ⟨rfl, rfl⟩
  | true =>
    rcases beginRamp_spec (c.stopsOn true) len with ⟨-, -, e⟩ | ⟨-, e⟩ <;> rw [if_pos rfl, e] <;> exact ⟨rfl, rfl⟩

theorem settledOn_period (c : Chan) (demand : Bool) (len start target : Nat) :
    (c.settledOn demand len start target).period =
      (c.settledOn demand len start target).periodOn len start target := rfl

/-- Settling with no reversal waiting: each channel by its demand, and the timers by the channels that stand. -/
theorem settleDrive_eq {s : State} (h : s.inv.seq ≠ .stopping) :
    settleDrive s = { s with
      drive := { s.drive with
        chA := s.drive.chA.settledOn s.demandA (s.rampLen .a) (s.rampStart .a) (s.target .a)
        chB := s.drive.chB.settledOn s.demandB (s.rampLen .b) (s.rampStart .b) (s.target .b) }
      hand := { s.hand with holdTimer := s.hand.holdTimer.startedBy s.bothStand }
      reg := { s.reg with timer := s.reg.timer.startedBy s.bothStand }
      inv := { s.inv with timer := s.inv.timer.startedBy (s.drive.chB.stands s.demandB) } } := by
  have hr : settleReversal (settleStops s) = settleStops s := if_neg fun e => h e.2.1
  have hb : (settleStops s).drive.chB.run = .stopped ↔ s.drive.chB.stands s.demandB = true := stopsOn_stopped_iff _ _
  have hab : (settleStops s).bothStopped = true ↔ s.bothStand = true := by
    rw [State.bothStand, Bool.and_eq_true, ← stopsOn_stopped_iff, ← stopsOn_stopped_iff]
    simp [State.bothStopped, settleStops, Chan.stopsOn]
  have ht : settleTimers (settleStops s) = { settleStops s with
      hand := { s.hand with holdTimer := s.hand.holdTimer.startedBy s.bothStand }
      reg := { s.reg with timer := s.reg.timer.startedBy s.bothStand }
      inv := { s.inv with timer := s.inv.timer.startedBy (s.drive.chB.stands s.demandB) } } := by
    have hhand : (settleStops s).hand = s.hand := rfl
    have hreg : (settleStops s).reg = s.reg := rfl
    have hinv : (settleStops s).inv = s.inv := rfl
    unfold settleTimers Timer.startedBy
    simp only [hab, hb, hhand, hreg, hinv]
    congr 1 <;> split <;> rfl
  unfold settleDrive
  rw [hr, ht]
  rfl

theorem startedBy_running_iff (t : Timer) (b : Bool) :
    t.startedBy b = .running ↔ t = .running ∨ (t = .armed ∧ b = true) := by
  unfold Timer.startedBy
  cases t <;> simp

theorem startedBy_idle_iff (t : Timer) (b : Bool) : t.startedBy b = .idle ↔ t = .idle := by
  unfold Timer.startedBy
  cases t <;> cases b <;> simp

/-- The claims of R52 to R57 about one channel and its demand. -/
theorem settledOn_spec (c : Chan) (demand : Bool) (k start target : Nat) :
    let c' := c.settledOn demand k start target
    (demand = false → c.run = .rampUp ∨ c.run = .atSpeed → c.ramp ≠ 0 → c'.run = .rampDown ∧ c'.ramp = c.ramp) ∧
    (demand = false → c.run = .rampUp ∨ c.run = .atSpeed → c.ramp = 0 → c'.run = .stopped ∧ c'.ramp = 0) ∧
    (demand = false → c.run = .stopped → c'.run = .stopped ∧ c'.ramp = c.ramp) ∧
    (demand = true → c.run = .stopped → c'.ramp = 0 ∧ c'.run = if k = 0 then .atSpeed else .rampUp) ∧
    (demand = true → c.run = .rampUp ∨ c.run = .atSpeed → c'.run = c.run ∧ c'.ramp = c.ramp) ∧
    (c.run = .rampDown → c'.run = .rampDown ∧ c'.ramp = c.ramp) ∧
    (c.run ≠ .stopped → (demand = true ∨ c.ramp ≠ 0 ∨ c.run = .rampDown) → c'.dir = c.dir ∧ c'.want = c.want) ∧
    (c.stands demand = true → c'.dir = c.want.getD c.dir ∧ c'.want = none) ∧
    (c'.run = .stopped → c'.period = 0) ∧
    (c'.run = .rampUp → c'.period = rampPeriod start target k (c'.ramp + 1)) ∧
    (c'.run = .atSpeed → c'.period = target) ∧
    (c'.run = .rampDown → c'.period = rampPeriod start target k (c'.ramp - 1)) := by
  intro c'
  have lost : (c.stopsOn false).run = c.loseDemand.run := stopsOn_run c false
  have kept : (c.stopsOn true).run = c.run := stopsOn_run c true
  have keeps := fun h => settledOn_of_keeps (c := c) (demand := demand) h k start target
  have moves : c.run = .rampUp ∨ c.run = .atSpeed → c.run ≠ .stopped := by
    rintro (h | h) <;> simp [h]
  refine ⟨?_, ?_, ?_, ?_, ?_, ?_, ?_, ?_, ?_, ?_, ?_, ?_⟩
  · rintro rfl hr h0
    obtain ⟨e, er⟩ := keeps (fun h => nomatch h)
    refine ⟨?_, er⟩
    rw [e, lost]
    simp [Chan.loseDemand, hr, h0]
  · rintro rfl hr h0
    obtain ⟨e, er⟩ := keeps (fun h => nomatch h)
    refine ⟨?_, er.trans h0⟩
    rw [e, lost]
    simp [Chan.loseDemand, hr, h0]
  · rintro rfl hr
    obtain ⟨e, er⟩ := keeps (fun h => nomatch h)
    refine ⟨?_, er⟩
    rw [e, lost]
    simp [Chan.loseDemand, hr]
  · rintro rfl hr
    exact settledOn_of_begins hr k start target
  · rintro rfl hr
    obtain ⟨e, er⟩ := keeps (fun _ => moves hr)
    exact ⟨e.trans kept, er⟩
  · intro hr
    obtain ⟨e, er⟩ := keeps (fun _ => by simp [hr])
    refine ⟨?_, er⟩
    cases demand with
    | true => exact e.trans (kept.trans hr)
    | false =>
      rw [e, lost]
      simp [Chan.loseDemand, hr]
  · intro hr hd
    have hs : c.stands demand = false := by
      rw [Chan.stands, decide_eq_false_iff_not]
      rintro (h | ⟨h1, h2, h3⟩)
      · exact hr h
      · rcases hd with h | h | h
        · rw [h] at h1; cases h1
        · exact h h3
        · exact h2 h
    obtain ⟨ed, ew⟩ := settledOn_dir c demand k start target
    rcases stopsOn_dir c demand with ⟨h, -⟩ | ⟨-, h1, h2⟩
    · rw [hs] at h
      cases h
    · exact ⟨ed.trans h1, ew.trans h2⟩
  · intro hs
    obtain ⟨ed, ew⟩ := settledOn_dir c demand k start target
    rcases stopsOn_dir c demand with ⟨-, h1, h2⟩ | ⟨h, -⟩
    · exact ⟨ed.trans h1, ew.trans h2⟩
    · rw [hs] at h
      cases h
  all_goals
    intro hr
    show c'.periodOn k start target = _
    rw [Chan.periodOn, hr]

/-- Settles O25: settling is `Chan.settledOn` on each channel, and each timer starts by what stands. -/
theorem channelsSettleByDemand : Obligations.ChannelsSettleByDemand := by
  intro s hseq still
  have hstill : ∀ c d, still c d ↔ c.stands d = true := fun c d => by simp [still, Chan.stands]
  have hboth : s.bothStand = true ↔ still s.drive.chA s.demandA ∧ still s.drive.chB s.demandB := by
    rw [State.bothStand, Bool.and_eq_true, hstill, hstill]
  refine ⟨_, settleDrive_eq hseq, rfl, ?_, startedBy_idle_iff _ _, ?_, startedBy_idle_iff _ _, ?_,
    startedBy_idle_iff _ _, ?_⟩
  · rw [← hboth]
    exact startedBy_running_iff _ _
  · rw [← hboth]
    exact startedBy_running_iff _ _
  · rw [hstill]
    exact startedBy_running_iff _ _
  · intro c c' demand k start target h
    rw [hstill]
    rcases h with h | h <;> cases h <;> exact settledOn_spec _ _ _ _ _

end Sys2Proof.Machine

/-! PROOFS. A step of a FEED or TRANSPORT station that carries its only record (R25): the travel, and each test by the
case in which it does nothing and the case in which it does what it is for. -/

namespace Sys2Proof.Machine

/-! ### The station with one record -/

/-- The station with one record in its queue. -/
def State.lone (s : State) (r : Record) : State := { s with track := { s.track with queue := [r] } }

theorem lone_of_queue {s : State} {r : Record} (h : s.track.queue = [r]) : s.lone r = s := by
  unfold State.lone
  rw [← h]

theorem rec?_lone {s : State} {r : Record} {t : Tag} (h : r.tag = t) : (s.lone r).rec? t = some r := by
  simp [State.rec?, State.lone, h]

theorem mapRec_lone {s : State} {r : Record} {t : Tag} (h : r.tag = t) (f : Record → Record) :
    mapRec t f (s.lone r) = s.lone (f r) := by
  simp [mapRec, State.lone, h]

theorem onRec_of_rec? {s : State} {t : Tag} {r : Record} (h : s.rec? t = some r) (f : Record → State → State) :
    onRec t f s = f r s := by
  simp [onRec, h]

theorem onRec_of_none {s : State} {t : Tag} (h : s.rec? t = none) (f : Record → State → State) : onRec t f s = s := by
  simp [onRec, h]

/-- A FEED or TRANSPORT station with nothing at a gate: no threshold of the other roles concerns it (R26). -/
structure State.Plain (s : State) : Prop where
  role : s.role = .transport ∨ s.role = .feed
  occupant : s.gate.occupant = none

theorem State.Plain.ne {s : State} (h : s.Plain) : s.role ≠ .invert ∧ s.role ≠ .exit ∧ s.role ≠ .register := by
  rcases h.role with e | e <;> simp [e]

theorem State.Plain.testsExit {s : State} (h : s.Plain) {r : Record} (hd : r.dir = .forward) : s.testsExit r = true := by
  obtain ⟨h1, h2, -⟩ := h.ne
  simp [State.testsExit, State.looping, h1, h2, hd]

theorem State.Plain.testsReverse {s : State} (h : s.Plain) (r : Record) : s.testsReverse r = false := by
  simp [State.testsReverse, h.ne.1]

theorem State.Plain.downstream {s : State} (h : s.Plain) (r : Record) : s.downstream r = s.dn1 := by
  simp [State.downstream, h.ne.1]

theorem State.Plain.taken {s : State} (h : s.Plain) (r : Record) : s.taken r = decide (r.stage = .taken s.dn1) := by
  rw [State.taken, h.downstream]

/-! ### Tests that do nothing -/

section Skips

variable {s : State} {t : Tag} {r : Record}

theorem testEntry_skip (hr : s.rec? t = some r) (h : r.reached.entry = true ∨ r.pos < r.length) :
    testEntry t s = s := by
  refine (onRec_of_rec? hr _).trans (if_neg ?_)
  rintro ⟨-, h1, h2⟩
  rcases h with h | h
  · simp [h] at h1
  · omega

theorem testOffer_skip (hp : s.Plain) (hr : s.rec? t = some r)
    (h : r.reached.offer = true ∨ r.pos + s.offerD < s.exitX) : testOffer t s = s := by
  refine (onRec_of_rec? hr _).trans ?_
  rw [if_neg, if_neg (by simp [hp.testsReverse])]
  rintro ⟨-, h1, h2⟩
  rcases h with h | h
  · simp [h] at h1
  · omega

theorem testStop_skip (hr : s.rec? t = some r) (h : r.reached.stop = true ∨ r.pos < s.cfg.stopPoint) :
    testStop t s = s := by
  refine (onRec_of_rec? hr _).trans (if_neg ?_)
  rintro ⟨-, h1, h2⟩
  rcases h with h | h
  · simp [h] at h1
  · omega

theorem testReturnStop_skip (hp : s.Plain) : testReturnStop t s = s := by
  unfold testReturnStop onRec
  split
  · exact if_neg (by simp [hp.testsReverse])
  · rfl

theorem testExit_skip (hp : s.Plain) (hr : s.rec? t = some r) (h : r.reached.exit = true ∨ r.pos < s.exitX) :
    testExit t s = s := by
  refine (onRec_of_rec? hr _).trans ?_
  rw [if_neg, if_neg (by simp [hp.testsReverse])]
  rintro ⟨-, h1, h2⟩
  rcases h with h | h
  · simp [h] at h1
  · omega

theorem testExitTrail_skip (hr : s.rec? t = some r) (hd : r.dir = .forward)
    (h : r.arrival = true → r.pos < s.exitX + r.length) : testExitTrail t s = s := by
  refine (onRec_of_rec? hr _).trans (if_neg ?_)
  rintro ⟨-, ha, ht⟩
  have := h ha
  simp only [State.trailOut, hd, decide_eq_true_eq] at ht
  omega

theorem testDeadline_skip (hp : s.Plain) (hr : s.rec? t = some r)
    (h : r.reached.deadline = true ∨ r.pos < s.exitX + s.arrD) : testDeadline t s = s := by
  refine (onRec_of_rec? hr _).trans ?_
  rw [if_neg, if_neg (by simp [hp.testsReverse])]
  rintro ⟨-, h1, h2⟩
  rcases h with h | h
  · simp [h] at h1
  · omega

/-- The thresholds of the gate, the sync point and the tray belong to other roles (R26). -/
theorem testBranch_skip (hp : s.Plain) :
    testPurge t (testCompileStop t (testSync t (testGhostGate t (testGate t (testDecision t s))))) = s := by
  obtain ⟨h1, h2, h3⟩ := hp.ne
  have e1 : testDecision t s = s := by
    unfold testDecision onRec
    split
    · dsimp only
      split
      · rfl
      · exact if_neg (by simp [h1, h2])
    · rfl
  have e2 : testGate t s = s := by
    unfold testGate onRec
    split
    · dsimp only
      split
      · rfl
      · exact if_neg (by simp [h1, h2])
    · rfl
  have e3 : testGhostGate t s = s := by
    unfold testGhostGate onRec
    split
    · dsimp only
      split
      · rfl
      · exact if_neg (by simp [hp.occupant])
    · rfl
  have e4 : testSync t s = s := by
    unfold testSync onRec
    split
    · dsimp only
      split
      · rfl
      · exact if_neg (by simp [h3])
    · rfl
  have e5 : testCompileStop t s = s := by
    unfold testCompileStop onRec
    split
    · exact if_neg (by simp [h2])
    · rfl
  have e6 : testPurge t s = s := by
    unfold testPurge onRec
    split
    · exact if_neg (by simp [h2])
    · rfl
  rw [e1, e2, e3, e4, e5, e6]

/-- A FORWARD record that reaches no threshold (R26). -/
theorem testThresholds_skip (hp : s.Plain) (hr : s.rec? t = some r) (hd : r.dir = .forward)
    (hn : s.noThreshold r r.pos) : testThresholds t s = s := by
  obtain ⟨n1, n2, n3, n4⟩ := hn
  unfold testThresholds
  rw [testEntry_skip hr n1, testOffer_skip hp hr n2, testStop_skip hr n3, testReturnStop_skip hp,
    testExit_skip hp hr (.inr n4), testExitTrail_skip hr hd (fun _ => by omega),
    testDeadline_skip hp hr (.inr (by omega)), testBranch_skip hp]

theorem testLate_skip (hr : s.rec? t = some r) (hd : r.dir = .forward)
    (h : ∀ w ∈ r.window, ∀ k ∈ r.next, w.late < r.pos → s.repicks r k = true) : testLate t s = s := by
  refine (onRec_of_rec? hr _).trans ?_
  split
  · rename_i w k hw hk
    refine if_neg ?_
    rintro ⟨hl, hn⟩
    simp only [Record.late, hd, decide_eq_true_eq] at hl
    rw [h w hw k hk hl] at hn
    cases hn
  · rfl

theorem testRearm_skip (hr : s.rec? t = some r) (hd : r.dir = .forward)
    (h : ∀ w ∈ r.window, ∀ k ∈ r.next, w.late < r.pos → s.repicks r k = false) : testRearm t s = s := by
  refine (onRec_of_rec? hr _).trans ?_
  split
  · rename_i w k hw hk
    refine if_neg ?_
    rintro ⟨hl, hn⟩
    simp only [Record.late, hd, decide_eq_true_eq] at hl
    rw [h w hw k hk hl] at hn
    cases hn
  · rfl

theorem testStall_skip (hr : s.rec? t = some r) {k : Nat}
    (h : (s.sensor k).owner = some t → (s.sensor k).confirmed = false ∨ (s.sensor k).stalled = true ∨
      covering r (s.sensor k) ≤ s.stallLimit r) : testStall t s k = s := by
  refine (onRec_of_rec? hr _).trans (if_neg ?_)
  rintro ⟨ho, hc, hs, hl⟩
  rcases h ho with h | h | h
  · simp [h] at hc
  · simp [h] at hs
  · omega

theorem foldl_testStall_skip (hr : s.rec? t = some r) {l : List Nat}
    (h : ∀ k ∈ l, (s.sensor k).owner = some t → (s.sensor k).confirmed = false ∨ (s.sensor k).stalled = true ∨
      covering r (s.sensor k) ≤ s.stallLimit r) : l.foldl (testStall t) s = s := by
  induction l with
  | nil => rfl
  | cons k l ih =>
    rw [List.foldl_cons, testStall_skip hr (h k List.mem_cons_self)]
    exact ih fun j hj => h j (List.mem_cons_of_mem _ hj)

theorem testStalls_skip (hr : s.rec? t = some r)
    (h : ∀ k < s.scount, (s.sensor k).owner = some t → (s.sensor k).confirmed = false ∨ (s.sensor k).stalled = true ∨
      covering r (s.sensor k) ≤ s.stallLimit r) : testStalls t s = s :=
  foldl_testStall_skip hr fun k hk => h k (List.mem_range.mp hk)

theorem confirmGhost_skip (hr : s.rec? t = some r) (n : Nat) (h : r.marks.ghost = true → ∀ k ∈ r.next, ¬
    (if r.dir = .forward then s.spos k ≤ r.pos else r.pos ≤ s.spos k)) : confirmGhost n t s = s := by
  cases n with
  | zero => rfl
  | succ n =>
    unfold confirmGhost
    simp only [hr]
    split
    · rfl
    · rename_i k hk
      exact if_neg fun hc => h hc.1 k hk hc.2

theorem testRunout_skip (hp : s.Plain) : testRunout t s = s := by
  unfold testRunout onRec
  split
  · dsimp only
    split
    · rfl
    · exact if_neg (by simp [hp.ne.1])
  · rfl

theorem testTray_skip (hp : s.Plain) : testTray t s = s := by
  unfold testTray onRec
  split
  · dsimp only
    split
    · rfl
    · exact if_neg (by simp [hp.ne.2.1])
  · rfl

end Skips

/-! ### The travel of a step (R19, R25, R53, R54) -/

theorem issue_eq (c : Chan) (len : Nat) :
    c.issue len = match c.run with
      | .stopped => c
      | .rampUp => if c.ramp + 1 < len then { c with ramp := c.ramp + 1 } else { c with run := .atSpeed, ramp := len }
      | .atSpeed => c
      | .rampDown => if c.ramp ≤ 1 then { c with run := .stopped, ramp := 0 } else { c with ramp := c.ramp - 1 } := by
  unfold Chan.issue
  cases c.run with
  | rampUp =>
    dsimp only
    by_cases h : len ≤ c.ramp + 1
    · rw [if_pos h, if_neg (by omega)]
    · rw [if_neg h, if_pos (by omega)]
  | _ => rfl

/-- A gate that makes no move has none to measure (R97). -/
theorem gateStep_of_none {s : State} (h : s.gate.move = .none) (ch : Channel) : gateStep ch s = s := by
  unfold gateStep
  split
  · rfl
  · split
    · have : s.gate.travel (s.stepLen ch) (s.gateSw * 256) = s.gate := by
        unfold Gate.travel
        rw [h]
      rw [this]
    · rfl

theorem travel_forward {r : Record} (h : r.dir = .forward) (len : Nat) :
    r.travel len = { r with lead := min (r.lead + len) 16777215, odo := min (r.odo + len) 16777215 } := by
  unfold Record.travel
  rw [h]
  cases r
  cases h
  rfl

/-- The travel of a step: the channel's, the sensors' and each driven record's. -/
theorem moveStep_eq {s : State} {ch : Channel} {q : List Record} (h : s.stepsOf ch q) :
    moveStep ch s = { s.stepped ch with
      track := { s.track with
        queue := q.map fun r => if s.drivenBy r = some ch then r.travel (s.stepLen ch) else r } } := by
  obtain ⟨-, -, -, hrole, -, hmove, -, -, -, rfl⟩ := h
  have hi : s.role ≠ .invert := by rcases hrole with e | e <;> simp [e]
  have hsens : (fun (k : Nat) (q : Sensor) =>
      if s.inUse k = true ∧ s.zoneOf k = ch then q.open (s.stepLen ch) else q) = fun k q =>
      if k < s.scount ∧ s.zoneOf k = ch ∧ q.covered = false then
        { q with uncovered := min (q.uncovered + s.stepLen ch) 16777215 }
      else q := by
    funext k q
    simp only [State.inUse, decide_eq_true_eq, Sensor.open]
    by_cases h1 : k < s.scount ∧ s.zoneOf k = ch
    · rw [if_pos h1]
      by_cases h2 : q.covered = true
      · rw [if_pos h2, if_neg (by simp [h2])]
      · rw [if_neg h2, if_pos ⟨h1.1, h1.2, by simpa using h2⟩]
        rfl
    · rw [if_neg h1, if_neg fun h => h1 ⟨h.1, h.2.1⟩]
  have hset : setChan ch (fun c => c.issue (s.rampLen ch)) s = { s with drive := (s.stepped ch).drive } := by
    cases ch <;> simp only [setChan, issue_eq] <;> rfl
  unfold moveStep
  rw [hset, gateStep_of_none (by exact hmove)]
  refine (if_neg fun h => hi h.2.1).trans ?_
  exact congrArg (fun f => { s with
    drive := (s.stepped ch).drive
    sens := { s.sens with sensors := s.sens.sensors.mapIdx f }
    track := { s.track with
      queue := s.track.queue.map fun r => if s.drivenBy r = some ch then r.travel (s.stepLen ch) else r } }) hsens

/-- A step that drives no record: the travel, then settling. -/
theorem exec_step_empty {s : State} {ch : Channel} (h : s.stepsOf ch []) :
    exec (.step ch) s = .next (settle s (s.stepped ch)) := by
  have hm := moveStep_eq h
  obtain ⟨hl, hst, hrun, -, -, -, -, -, -, hq⟩ := h
  refine (if_pos ⟨hl, hst, hrun⟩).trans (congrArg _ (congrArg _ ?_))
  have hd : s.driven ch = [] := by simp [State.driven, hq]
  rw [stepChannel, hd, hm]
  show { s.stepped ch with track := { s.track with queue := [] } } = s.stepped ch
  rw [← hq]

/-- A step that carries the station's only record: the travel, the record's tests, then settling. -/
theorem exec_step_lone {s : State} {ch : Channel} {r : Record} {p : Nat} (h : s.carries ch r p) :
    exec (.step ch) s = .next (settle s (testRecord r.tag ((s.stepped ch).lone (s.moved ch r)))) := by
  obtain ⟨hs, hd, hf, -⟩ := h
  have hm := moveStep_eq hs
  obtain ⟨hl, hst, hrun, -, -, -, -, -, -, hq⟩ := hs
  refine (if_pos ⟨hl, hst, hrun⟩).trans (congrArg _ (congrArg _ ?_))
  have hdr : s.driven ch = [r.tag] := by simp [State.driven, hq, hd]
  have hmoved : r.travel (s.stepLen ch) = s.moved ch r := travel_forward hf _
  rw [stepChannel, hdr, hm, List.map_cons, List.map_nil, if_pos hd, hmoved, List.foldl_cons, List.foldl_nil]
  rfl

/-! ### What settling reads of the only record -/

/-- The stop point of the only record (R72). -/
theorem stopDue_lone {s : State} (hp : s.Plain) (r : Record) :
    (s.lone r).stopDue =
      if r.place ≠ .exiting ∧ r.reached.stop = true ∧ s.untaken r = true then some r.tag else none := by
  obtain ⟨h1, h2, -⟩ := hp.ne
  have hx : (s.lone r).role = s.role := rfl
  have hu : (s.lone r).untaken r = s.untaken r := rfl
  have hl : (s.lone r).track.queue = [r] := rfl
  unfold State.stopDue
  rw [hx, if_neg h2, hl, List.find?_cons]
  by_cases hpl : r.place = .exiting
  · simp [hpl]
  · simp [hpl, h1, hu]

/-- An event at a FEED or TRANSPORT station after which nothing waits: the channels and timers alone are left. -/
theorem settle_plain {b s : State} (hb : b.Plain) (hq : s.quiet) (hc : s.ctl.strap = b.ctl.strap)
    (hs : s.stopDue = none ∨ s.stopDue = b.stopDue) (hi : s.inv.loop = none) : settle b s = settleDrive s := by
  obtain ⟨h1, h2, -⟩ := hb.ne
  have hr : s.role = b.role := by unfold State.role; rw [hc]
  refine settle_quiet hq hs ?_ (.inl ?_) (.inl (loopEnded_of_role (by rwa [hr])))
  · simp [State.trayDue, hr, h2]
  · simp [State.loopDue, hi]

/-- What a carried record meets: a plain station that was quiet, with no loop record. -/
theorem State.carries.facts {s : State} {ch : Channel} {r : Record} {p : Nat} (h : s.carries ch r p) :
    s.Plain ∧ s.quiet ∧ s.inv.loop = none ∧ s.track.queue = [r] ∧ s.ctl.st.steps = true ∧ r.place ≠ .expected ∧
      r.dir = .forward ∧ (s.moved ch r).pos = p ∧ r.offerOwed = false := by
  obtain ⟨⟨-, hst, -, hrole, hquiet, -, -, hocc, hloop, hq⟩, hd, hf, hpos⟩ := h
  refine ⟨⟨hrole, hocc⟩, hquiet, hloop, hq, hst, ?_, hf, hpos.symm, hquiet.1 r (by rw [hq]; exact List.mem_cons_self)⟩
  intro he
  simp [State.drivenBy, he] at hd

/-- The carried record's tests where it has reached no limit of a sensor: its thresholds alone. -/
theorem testRecord_free {s : State} {t : Tag} {r : Record} (hr : s.rec? t = some r)
    (hd : r.dir = .forward) (hg : r.marks.ghost = false) (hown : ∀ k < s.scount, (s.sensor k).owner ≠ some t)
    (hon : r.onTime r.pos) (he : r.reached.entry = true ∨ r.pos < r.length) :
    testRecord t s = testRearm t (testTray t (testRunout t (testThresholds t s))) := by
  have late : ∀ w ∈ r.window, ∀ k ∈ r.next, w.late < r.pos → s.repicks r k = true := fun w hw _ _ hl => by
    have := hon w hw
    omega
  unfold testRecord
  rw [testEntry_skip hr he, testLate_skip hr hd late, testStalls_skip hr (fun k hk ho => absurd ho (hown k hk)),
    confirmGhost_skip hr 6 (fun h => by rw [hg] at h; cases h)]

/-- After the thresholds a record on its track has nothing more to be tested for. -/
theorem testAfter_skip {s : State} {t : Tag} {r : Record} (hp : s.Plain) (hr : s.rec? t = some r)
    (hd : r.dir = .forward) (hon : r.onTime r.pos) : testRearm t (testTray t (testRunout t s)) = s := by
  rw [testRunout_skip hp, testTray_skip hp, testRearm_skip hr hd fun w hw _ _ hl => by
    have := hon w hw
    omega]

end Sys2Proof.Machine

/-! PROOFS. STEP and the thresholds of the record it carries (R5, R26, R69, R73, R76). -/

namespace Sys2Proof.Machine

/-! ### Tests that do what they are for -/

section Hits

variable {s : State} {t : Tag} {r : Record}

theorem testEntry_hit (ht : r.tag = t) (hd : r.dir = .forward) (he : r.reached.entry = false) (hl : r.length ≤ r.pos) :
    testEntry t (s.lone r) = s.lone { r with
      place := if r.place = .entering then .inside else r.place
      reached := { r.reached with entry := true } } :=
  (onRec_of_rec? (rec?_lone ht) _).trans ((if_pos ⟨hd, he, hl⟩).trans (mapRec_lone ht _))

theorem testOffer_hit (hp : s.Plain) (ht : r.tag = t) (hd : r.dir = .forward) (he : r.reached.offer = false)
    (hl : s.exitX ≤ r.pos + s.offerD) :
    testOffer t (s.lone r) = s.lone { r with offerOwed := true, reached := { r.reached with offer := true } } :=
  (onRec_of_rec? (rec?_lone ht) _).trans
    ((if_pos ⟨State.Plain.testsExit (s := s.lone r) ⟨hp.role, hp.occupant⟩ hd, he, hl⟩).trans (mapRec_lone ht _))

theorem testStop_hit (hp : s.Plain) (ht : r.tag = t) (hd : r.dir = .forward) (he : r.reached.stop = false)
    (hl : s.cfg.stopPoint ≤ r.pos) :
    testStop t (s.lone r) = s.lone { r with reached := { r.reached with stop := true } } :=
  (onRec_of_rec? (rec?_lone ht) _).trans
    ((if_pos ⟨State.Plain.testsExit (s := s.lone r) ⟨hp.role, hp.occupant⟩ hd, he, hl⟩).trans (mapRec_lone ht _))

theorem testExit_hit (hp : s.Plain) (ht : r.tag = t) (hd : r.dir = .forward) (he : r.reached.exit = false)
    (hl : s.exitX ≤ r.pos) :
    testExit t (s.lone r) = passIfTaken r (s.lone { r with reached := { r.reached with exit := true } }) :=
  (onRec_of_rec? (rec?_lone ht) _).trans
    ((if_pos ⟨State.Plain.testsExit (s := s.lone r) ⟨hp.role, hp.occupant⟩ hd, he, hl⟩).trans
      (congrArg _ (mapRec_lone ht _)))

theorem testDeadline_hit (hp : s.Plain) (ht : r.tag = t) (hd : r.dir = .forward) (he : r.reached.deadline = false)
    (hl : s.exitX + s.arrD ≤ r.pos) :
    testDeadline t (s.lone r) =
      if r.arrival = false then
        raise (requestFor .handoff r (some r.pos) none)
          (s.lone { r with reached := { r.reached with deadline := true } })
      else s.lone { r with reached := { r.reached with deadline := true } } := by
  refine (onRec_of_rec? (rec?_lone ht) _).trans
    ((if_pos ⟨State.Plain.testsExit (s := s.lone r) ⟨hp.role, hp.occupant⟩ hd, he, hl⟩).trans ?_)
  rw [mapRec_lone ht]

theorem testExitTrail_hit (hr : s.rec? t = some r) (hd : r.dir = .forward) (hpl : r.place = .exiting)
    (ha : r.arrival = true) (hl : s.exitX + r.length ≤ r.pos) : testExitTrail t s = leaveQueue r s :=
  (onRec_of_rec? hr _).trans (if_pos ⟨hpl, ha, by simpa [State.trailOut, hd] using hl⟩)

end Hits

/-- With an empty hold set there is no entry a neighbour could lack (R65). -/
theorem extendHolds_of_empty {s : State} (h : s.drive.hold = []) (nb : Nat) : extendHolds nb s = s := by
  unfold extendHolds
  rw [h]
  have : { s.drive with hold := [] } = s.drive := by rw [← h]
  simp only [List.filter_nil, List.foldl_nil, List.map_nil, this]

/-- At the exit boundary of a plain station without a hold a taken record is passed, and any other only notes it (R73). -/
theorem passIfTaken_lone {s : State} {r x : Record} (hp : s.Plain) (hst : s.ctl.st.steps = true) (hx : x.tag = r.tag)
    (hh : r.stage = .taken s.dn1 → s.drive.hold = []) :
    passIfTaken r (s.lone x) =
      { s with port := if r.stage = ExitStage.taken s.dn1 then s.port.post s.dn1 (.pass r.tag r.last) else s.port }.lone
        { x with place := if r.stage = ExitStage.taken s.dn1 then .exiting else x.place } := by
  have htk : (s.lone x).taken r = decide (r.stage = .taken s.dn1) := hp.taken r
  unfold passIfTaken
  by_cases h : r.stage = .taken s.dn1
  · rw [if_pos ⟨by rw [htk]; exact decide_eq_true h, hst⟩, passRecord, extendHolds_of_empty (by exact hh h),
      if_pos h, if_pos h]
    have hd : (s.lone x).downstream r = s.dn1 := hp.downstream r
    rw [hd]
    exact mapRec_lone (s := { s with port := s.port.post s.dn1 (.pass r.tag r.last) }) hx _
  · rw [if_neg (by rw [htk]; simp [h]), if_neg h, if_neg h]

/-! ### The step of a free record -/

/-- The stop point stands where it stood: place, stage and stop threshold of the only record are as before (R72). -/
theorem stopDue_same {b s : State} {r x : Record} (hp : s.Plain) (hq : s.track.queue = [r]) (hc : b.ctl.strap = s.ctl.strap)
    (hg : b.cfg.params = s.cfg.params) (ho : b.gate.occupant = none) (ht : x.tag = r.tag)
    (hpl : x.place = .exiting ↔ r.place = .exiting) (hs : x.reached.stop = r.reached.stop)
    (hst : x.stage = .taken s.dn1 ↔ r.stage = .taken s.dn1) : (b.lone x).stopDue = s.stopDue := by
  have hr : b.role = s.role := by unfold State.role; rw [hc]
  have hb : b.Plain := ⟨by rw [hr]; exact hp.role, ho⟩
  have hdn : b.dn1 = s.dn1 := by unfold State.dn1 State.par; rw [hg]
  have hu : b.untaken x = s.untaken r := by
    rw [State.untaken, State.untaken, hb.taken, hp.taken, hdn, decide_eq_decide.mpr hst]
  rw [stopDue_lone hb, ← lone_of_queue hq, stopDue_lone hp, hs, hu, ht]
  by_cases h : r.place = .exiting
  · simp [h, hpl.mpr h]
  · simp [h, mt hpl.mp h]

theorem quiet_lone {b : State} {x : Record} (hq : b.quiet) (hx : x.offerOwed = false) : (b.lone x).quiet :=
  ⟨by simp [State.lone, hx], hq.2⟩

/-- A step moves the owner of no sensor. -/
theorem stepped_owner (s : State) (ch : Channel) (k : Nat) : ((s.stepped ch).sensor k).owner = (s.sensor k).owner := by
  simp only [State.sensor, List.getD_eq_getElem?_getD, List.getElem?_mapIdx]
  cases s.sens.sensors[k]? with
  | none => rfl
  | some q =>
    simp only [Option.map_some, Option.getD_some]
    split <;> rfl

/-- A step of a record that is no ghost, owns no sensor and is not late: its thresholds, entry first, then settling. -/
theorem exec_step_tested {s b : State} {ch : Channel} {r x : Record} {p : Nat} (h : s.carriesFreely ch r p)
    (he : testEntry r.tag ((s.stepped ch).lone (s.moved ch r)) = (s.stepped ch).lone x)
    (hx : x.tag = r.tag ∧ x.dir = r.dir ∧ x.marks = r.marks ∧ x.lead = (s.moved ch r).lead ∧ x.window = r.window)
    (hT : testThresholds r.tag ((s.stepped ch).lone x) = b)
    (hA : testRearm r.tag (testTray r.tag (testRunout r.tag b)) = b) :
    exec (.step ch) s = .next (settle s b) := by
  obtain ⟨hc, hg, hown, hon⟩ := h
  obtain ⟨hp, -, -, -, -, -, hd, hpos, -⟩ := hc.facts
  obtain ⟨xt, xd, xm, xl, xw⟩ := hx
  have xpos : x.pos = p := (congrArg (· / 256) xl).trans hpos
  have xon : x.onTime x.pos := by
    rw [xpos, Record.onTime, xw]
    exact hon
  have hr : ((s.stepped ch).lone x).rec? r.tag = some x := rec?_lone xt
  have late : ∀ w ∈ x.window, ∀ k ∈ x.next, w.late < x.pos → ((s.stepped ch).lone x).repicks x k = true := by
    intro w hw _ _ hl
    have := xon w hw
    omega
  rw [exec_step_lone hc]
  refine congrArg _ (congrArg _ ?_)
  unfold testRecord
  rw [he, testLate_skip hr (xd.trans hd) late,
    testStalls_skip hr (fun k hk ho => absurd ((stepped_owner s ch k).symm.trans ho) (hown k hk)),
    confirmGhost_skip hr 6 (fun h => by rw [xm, hg] at h; cases h), hT, hA]

/-- The same for a record that stays the station's only one. -/
theorem exec_step_free {s b : State} {ch : Channel} {r x y : Record} {p : Nat} (h : s.carriesFreely ch r p)
    (he : testEntry r.tag ((s.stepped ch).lone (s.moved ch r)) = (s.stepped ch).lone x)
    (hx : x.tag = r.tag ∧ x.dir = r.dir ∧ x.marks = r.marks ∧ x.lead = (s.moved ch r).lead ∧ x.window = r.window)
    (hT : testThresholds r.tag ((s.stepped ch).lone x) = b.lone y) (hb : b.Plain)
    (hy : y.tag = r.tag ∧ y.dir = r.dir ∧ y.lead = (s.moved ch r).lead ∧ y.window = r.window) :
    exec (.step ch) s = .next (settle s (b.lone y)) := by
  obtain ⟨-, -, -, -, -, -, hd, hpos, -⟩ := h.1.facts
  obtain ⟨yt, yd, yl, yw⟩ := hy
  have ypos : y.pos = p := (congrArg (· / 256) yl).trans hpos
  have yon : y.onTime y.pos := by
    rw [ypos, Record.onTime, yw]
    exact h.2.2.2
  exact exec_step_tested h he hx hT
    (testAfter_skip (s := b.lone y) ⟨hb.role, hb.occupant⟩ (rec?_lone yt) (yd.trans hd) yon)

/-- With no reversal and no loop record, an OFFER sent and nothing else waiting, settling ends in the Drive Unit. -/
theorem settle_offered {b s x : State} (hb : b.Plain) (hc : s.ctl.strap = b.ctl.strap) (hx : sendOffers s = x)
    (hr : x.role = s.role) (hs : x.stopDue = none ∨ x.stopDue = b.stopDue) (hi : x.inv.loop = none)
    (h1 : ∀ d ∈ x.hand.deferred1, d.reason ≠ .duplicate) (h2 : ∀ d ∈ x.hand.deferred2, d.reason ≠ .duplicate) :
    settle b s = settleDrive x := by
  obtain ⟨hv, hexit, -⟩ := hb.ne
  have hrole : x.role = b.role := hr.trans (by unfold State.role; rw [hc])
  have e1 : settleStop b x = x := by
    unfold settleStop
    rcases hs with e | e
    · rw [e]
    · rw [e]
      split
      · rfl
      · rename_i t et
        simp [et]
  have e2 : settleTray b x = x := by
    have hx : x.trayDue = false := by simp [State.trayDue, hrole, hexit]
    have hb : b.trayDue = false := by simp [State.trayDue, hexit]
    simp [settleTray, hx, hb]
  have e3 : settleLoop b x = x := by simp [settleLoop, State.loopDue, hi]
  unfold settle settleHolds
  rw [hx, e1, e2, e3, settleSlots_of_none (.inl (loopEnded_of_role (by rwa [hrole]))), sendDuplicateReadies_of_none h1 h2]

/-- The OFFER owed for the only record is sent, or stays owed where there is no downstream (R69). -/
theorem sendOffers_lone {s : State} {r : Record} (hp : s.Plain) (hst : s.ctl.st.steps = true) (ho : r.offerOwed = true) :
    sendOffers (s.lone r) =
      { s with port := if s.dn1 = 0 then s.port else s.port.post s.dn1 (.offer r.asOffer) }.lone
        { r with stage := if s.dn1 = 0 then r.stage else .offered, offerOwed := decide (s.dn1 = 0) } := by
  have hd : (s.lone r).downstream r = s.dn1 := hp.downstream r
  have hn : (s.lone r).offerPostponed r = false := by simp [State.offerPostponed, State.lone]
  have hq : (s.lone r).track.queue = [r] := rfl
  unfold sendOffers
  rw [if_pos (by exact hst), hq, List.foldl_cons, List.foldl_nil]
  refine (onRec_of_rec? (rec?_lone rfl) _).trans ?_
  by_cases h0 : s.dn1 = 0
  · rw [if_neg (by simp [hd, h0]), if_pos h0, if_pos h0, decide_eq_true h0, ← ho]
  · rw [if_pos ⟨ho, by rw [hd]; exact h0, hn⟩, if_neg h0, if_neg h0, decide_eq_false h0, sendOffer, hd]
    exact mapRec_lone (s := { s with port := s.port.post s.dn1 (.offer r.asOffer) }) rfl _

/-- A record in the queue: the position of a raised fault is that of the request. -/
theorem requestFor_of_sheet {r : Record} (h : r.marks.ghost = false) (code : FaultCode) (p k : Option Nat) :
    requestFor code r p k =
      { code := code, original := none, involved := some r.tag, tag := some r.tag, last := r.last, position := p,
        sensor := k, worst := r.worst, ghost := false, gone := false } := by
  unfold requestFor
  rw [h]

/-- With no gate move and no gate list the gate has nothing to serve (R96). -/
theorem serveGate_of_none {s : State} (hm : s.gate.move = .none) (hl : s.gate.list = []) : serveGate s = s := by
  unfold serveGate State.gateWanted
  rw [hm, hl]
  rfl

/-- A gate that neither lists the record nor has it as occupant does not notice it leaving (R94). -/
theorem Gate.without_eq {g : Gate} {t : Tag} (hl : g.list = []) (ho : g.occupant ≠ some t) : g.without t = g := by
  obtain ⟨position, output, move, list, occupant⟩ := g
  obtain rfl : list = [] := hl
  simp [Gate.without, show occupant ≠ some t from ho]

/-- A record leaves a station where it has nothing at the gate, is no loop record, and no image wait is held: every block
that refers to it forgets it (R14, R76). -/
theorem leaveQueue_eq {s : State} {r : Record} (hmove : s.gate.move = .none) (hlist : s.gate.list = [])
    (hocc : s.gate.occupant ≠ some r.tag) (hloop : s.inv.loop ≠ some r.tag) (himg : s.ownHolds .imageWait = false) :
    leaveQueue r s = { s with
      track := { s.track with queue := s.track.queue.filter fun x => x.tag != r.tag }
      flt := s.flt.forgetting r.tag
      sens := { s.sens with
        sensors := s.sens.sensors.map fun q =>
          if q.owner = some r.tag then { q with owner := none, confirmed := false, stalled := false } else q }
      feed := { s.feed with pick := if s.feed.pick = some r.tag then none else s.feed.pick }
      hand := { s.hand with givenUp := if s.hand.givenUp = some r.tag then none else s.hand.givenUp }
      sweep := if r.marks.ghost = true ∧ r.last = true then { s.sweep with lastSeen := true } else s.sweep } := by
  have hgate : s.gate.without r.tag = s.gate := Gate.without_eq hlist hocc
  have hinv : s.inv.without r.tag = s.inv := if_neg hloop
  have hhand : (if s.hand.givenUp = some r.tag then { s.hand with givenUp := none } else s.hand) =
      { s.hand with givenUp := if s.hand.givenUp = some r.tag then none else s.hand.givenUp } := by split <;> rfl
  have hfeed : (if s.feed.pick = some r.tag then { s.feed with pick := none } else s.feed) =
      { s.feed with pick := if s.feed.pick = some r.tag then none else s.feed.pick } := by split <;> rfl
  unfold leaveQueue
  rw [hgate, hinv, hhand, hfeed, if_neg hloop]
  unfold reviewImageWait
  rw [if_pos (.inr (by exact himg)), serveGate_of_none (by exact hmove) (by exact hlist)]
  rfl

/-- No record is at the stop point of an empty station (R72). -/
theorem stopDue_of_empty {s : State} (h : s.track.queue = []) : s.stopDue = none := by
  unfold State.stopDue
  rw [h]
  split <;> rfl

theorem stepped_hold (s : State) (ch : Channel) : (s.stepped ch).drive.hold = s.drive.hold := by
  cases ch <;> rfl

/-- The station after a step is as plain as before it. -/
theorem State.Plain.stepped {s : State} (h : s.Plain) (ch : Channel) : (s.stepped ch).Plain := ⟨h.role, h.occupant⟩

/-- A threshold passed on the way leaves the thresholds of the gate, the sync point and the tray to other roles. -/
theorem testThresholds_plain {s : State} {t : Tag} {b : State} (hb : b.Plain)
    (h : testDeadline t (testExitTrail t (testExit t (testReturnStop t (testStop t (testOffer t (testEntry t s)))))) = b) :
    testThresholds t s = b := by
  unfold testThresholds
  rw [h, testBranch_skip hb]

section Crossings

variable {s : State} {x : Record}

/-- A record that reaches its offer point, and no other threshold (R69). -/
theorem testThresholds_offer (hp : s.Plain) (hd : x.dir = .forward) (he : x.reached.offer = false)
    (hl : s.exitX ≤ x.pos + s.offerD) (hn : s.noThreshold { x with reached := { x.reached with offer := true } } x.pos) :
    testThresholds x.tag (s.lone x) =
      s.lone { x with offerOwed := true, reached := { x.reached with offer := true } } := by
  obtain ⟨n1, -, n3, n4⟩ := hn
  have hr : (s.lone x).rec? x.tag = some x := rec?_lone rfl
  have hy : (s.lone { x with offerOwed := true, reached := { x.reached with offer := true } }).Plain :=
    ⟨hp.role, hp.occupant⟩
  have hr' := rec?_lone (s := s) (t := x.tag)
    (r := { x with offerOwed := true, reached := { x.reached with offer := true } }) rfl
  refine testThresholds_plain hy ?_
  rw [testEntry_skip hr n1, testOffer_hit hp rfl hd he hl, testStop_skip hr' n3, testReturnStop_skip hy,
    testExit_skip hy hr' (.inr n4), testExitTrail_skip hr' hd (fun _ => Nat.lt_add_right _ n4),
    testDeadline_skip hy hr' (.inr (Nat.lt_add_right _ n4))]

/-- A record that reaches its stop point, and no other threshold (R58). -/
theorem testThresholds_stop (hp : s.Plain) (hd : x.dir = .forward) (he : x.reached.stop = false)
    (hl : s.cfg.stopPoint ≤ x.pos) (hn : s.noThreshold { x with reached := { x.reached with stop := true } } x.pos) :
    testThresholds x.tag (s.lone x) = s.lone { x with reached := { x.reached with stop := true } } := by
  obtain ⟨n1, n2, -, n4⟩ := hn
  have hr : (s.lone x).rec? x.tag = some x := rec?_lone rfl
  have hx : (s.lone x).Plain := ⟨hp.role, hp.occupant⟩
  have hy : (s.lone { x with reached := { x.reached with stop := true } }).Plain := ⟨hp.role, hp.occupant⟩
  have hr' := rec?_lone (s := s) (t := x.tag) (r := { x with reached := { x.reached with stop := true } }) rfl
  refine testThresholds_plain hy ?_
  rw [testEntry_skip hr n1, testOffer_skip hx hr n2, testStop_hit hp rfl hd he hl, testReturnStop_skip hy,
    testExit_skip hy hr' (.inr n4), testExitTrail_skip hr' hd (fun _ => Nat.lt_add_right _ n4),
    testDeadline_skip hy hr' (.inr (Nat.lt_add_right _ n4))]

/-- A record that comes to its exit boundary: passed where DN1 has taken it, on its way where not (R73). -/
theorem testThresholds_exit (hp : s.Plain) (hst : s.ctl.st.steps = true) (hd : x.dir = .forward)
    (he : x.reached.entry = true) (ho : x.reached.offer = true) (hs : x.reached.stop = true)
    (hx : x.reached.exit = false) (h1 : s.exitX ≤ x.pos) (h2 : x.pos < s.exitX + x.length)
    (h3 : x.reached.deadline = true ∨ x.pos < s.exitX + s.arrD) (hh : x.stage = .taken s.dn1 → s.drive.hold = []) :
    testThresholds x.tag (s.lone x) =
      { s with port := if x.stage = ExitStage.taken s.dn1 then s.port.post s.dn1 (.pass x.tag x.last) else s.port }.lone
        { x with
          place := if x.stage = ExitStage.taken s.dn1 then .exiting else x.place
          reached := { x.reached with exit := true } } := by
  have hr : (s.lone x).rec? x.tag = some x := rec?_lone rfl
  have hx' : (s.lone x).Plain := ⟨hp.role, hp.occupant⟩
  have hr' := rec?_lone (t := x.tag)
    (s := { s with port := if x.stage = ExitStage.taken s.dn1 then s.port.post s.dn1 (.pass x.tag x.last) else s.port })
    (r := { x with
      place := if x.stage = ExitStage.taken s.dn1 then .exiting else x.place
      reached := { x.reached with exit := true } }) rfl
  refine testThresholds_plain ⟨hp.role, hp.occupant⟩ ?_
  rw [testEntry_skip hr (.inl he), testOffer_skip hx' hr (.inl ho), testStop_skip hr (.inl hs),
    testReturnStop_skip hx', testExit_hit hp rfl hd hx h1, passIfTaken_lone (r := x) (x := { x with reached := { x.reached with exit := true } }) hp hst rfl hh,
    testExitTrail_skip hr' hd (fun _ => h2), testDeadline_skip (by exact ⟨hp.role, hp.occupant⟩) hr' h3]

/-- A record that comes to its arrival deadline: HANDOFF where no arrival has been seen (R76). -/
theorem testThresholds_deadline (hp : s.Plain) (hst : s.ctl.st.steps = true) (hd : x.dir = .forward)
    (he : x.reached.entry = true) (ho : x.reached.offer = true) (hs : x.reached.stop = true)
    (hx : x.reached.exit = true) (h1 : x.reached.deadline = false) (h2 : s.exitX + s.arrD ≤ x.pos)
    (ha : x.arrival = true → x.pos < s.exitX + x.length) :
    testThresholds x.tag (s.lone x) =
      { s with flt := if x.arrival = true then s.flt
          else (s.flt.count .handoff).pend (requestFor .handoff x (some x.pos) none) }.lone
        { x with reached := { x.reached with deadline := true } } := by
  have hr : (s.lone x).rec? x.tag = some x := rec?_lone rfl
  have hx' : (s.lone x).Plain := ⟨hp.role, hp.occupant⟩
  refine testThresholds_plain ⟨hp.role, hp.occupant⟩ ?_
  rw [testEntry_skip hr (.inl he), testOffer_skip hx' hr (.inl ho), testStop_skip hr (.inl hs),
    testReturnStop_skip hx', testExit_skip hx' hr (.inl hx), testExitTrail_skip hr hd ha,
    testDeadline_hit hp rfl hd h1 h2]
  cases harr : x.arrival with
  | true => rfl
  | false =>
    rw [if_pos rfl, raise_of_pends (by exact steps_faultsPend hst)]
    rfl

/-- Tests of a tag that no record of a plain station has do nothing. -/
theorem test_of_none {t : Tag} (h : s.rec? t = none) :
    testDeadline t s = s ∧ testRunout t s = s ∧ testTray t s = s ∧ testRearm t s = s :=
  ⟨onRec_of_none h _, onRec_of_none h _, onRec_of_none h _, onRec_of_none h _⟩

/-- A record whose trail leaves the exit boundary behind with its arrival seen leaves the queue (R76). -/
theorem testThresholds_leaves (hp : s.Plain) (hd : x.dir = .forward) (he : x.reached.entry = true)
    (ho : x.reached.offer = true) (hs : x.reached.stop = true) (hx : x.reached.exit = true) (hpl : x.place = .exiting)
    (ha : x.arrival = true) (hl : s.exitX + x.length ≤ x.pos) {b : State} (hb : leaveQueue x (s.lone x) = b)
    (hbp : b.Plain) (hn : b.track.queue = []) : testThresholds x.tag (s.lone x) = b := by
  have hr : (s.lone x).rec? x.tag = some x := rec?_lone rfl
  have hx' : (s.lone x).Plain := ⟨hp.role, hp.occupant⟩
  have hnone : b.rec? x.tag = none := by rw [State.rec?, hn]; rfl
  refine testThresholds_plain hbp ?_
  rw [testEntry_skip hr (.inl he), testOffer_skip hx' hr (.inl ho), testStop_skip hr (.inl hs),
    testReturnStop_skip hx', testExit_skip hx' hr (.inl hx), testExitTrail_hit hr hd hpl ha hl, hb,
    (test_of_none hnone).1]

end Crossings

/-- Settles O17: the travel of the step, the one threshold the record has reached, and the settling of what that leaves. -/
theorem stepMovesWhatItDrives : Obligations.StepMovesWhatItDrives := by
  refine ⟨?empty, ?nothing, ?entry, ?offer, ?exit, ?deadline, ?leaves⟩
  case empty =>
    intro s ch h
    rw [exec_step_empty h]
    obtain ⟨-, -, -, hrole, hquiet, -, -, hocc, hloop, -⟩ := h
    exact congrArg _ (settle_plain (b := s) ⟨hrole, hocc⟩ hquiet rfl (.inr rfl) hloop)
  case nothing =>
    intro s ch r p h hn
    obtain ⟨hp, hq, hloop, hqueue, -, -, hd, hpos, ho⟩ := h.1.facts
    have hr : ((s.stepped ch).lone (s.moved ch r)).rec? r.tag = some (s.moved ch r) := rec?_lone rfl
    have hn' : ((s.stepped ch).lone (s.moved ch r)).noThreshold (s.moved ch r) (s.moved ch r).pos := by
      rw [hpos]
      exact hn
    have hpl : ((s.stepped ch).lone (s.moved ch r)).Plain := ⟨hp.role, hp.occupant⟩
    rw [exec_step_free h (testEntry_skip hr hn'.1) ⟨rfl, rfl, rfl, rfl, rfl⟩ (testThresholds_skip hpl hr hd hn')
      (hp.stepped ch) ⟨rfl, rfl, rfl, rfl⟩]
    exact congrArg _ (settle_plain hp (quiet_lone (b := s.stepped ch) hq ho) rfl
      (.inr (stopDue_same hp hqueue rfl rfl hp.occupant rfl .rfl rfl .rfl)) hloop)
  case entry =>
    intro s ch r p h he hl hn
    obtain ⟨hp, hq, hloop, hqueue, -, -, hd, hpos, ho⟩ := h.1.facts
    have hin := testEntry_hit (s := s.stepped ch) (r := s.moved ch r) rfl hd he (by rw [hpos]; exact hl)
    have hr := rec?_lone (s := s.stepped ch) (t := r.tag) (r := { s.moved ch r with
      place := if r.place = .entering then .inside else r.place
      reached := { r.reached with entry := true } }) rfl
    have hpl : ((s.stepped ch).lone { s.moved ch r with
      place := if r.place = .entering then .inside else r.place
      reached := { r.reached with entry := true } }).Plain := ⟨hp.role, hp.occupant⟩
    rw [exec_step_free h hin ⟨rfl, rfl, rfl, rfl, rfl⟩
      (testThresholds_skip hpl hr hd (by rw [Record.pos, show (s.moved ch r).lead / 256 = p from hpos]; exact hn))
      (hp.stepped ch) ⟨rfl, rfl, rfl, rfl⟩]
    refine congrArg _ (settle_plain hp (quiet_lone (b := s.stepped ch) hq ho) rfl
      (.inr (stopDue_same hp hqueue rfl rfl hp.occupant rfl ?_ rfl .rfl)) hloop)
    show (if r.place = .entering then .inside else r.place) = Place.exiting ↔ _
    split
    · rename_i e
      simp [e]
    · rfl
  case offer =>
    intro s ch r p h he hl hn hst
    obtain ⟨hp, hq, hloop, hqueue, hsteps, -, hd, hpos, ho⟩ := h.1.facts
    have hr := rec?_lone (s := s.stepped ch) (r := s.moved ch r) rfl
    rw [← hpos] at hl hn
    have hT := testThresholds_offer (hp.stepped ch) (x := s.moved ch r) hd he hl hn
    have hsend := sendOffers_lone (hp.stepped ch) hsteps (r := { s.moved ch r with
      offerOwed := true, reached := { r.reached with offer := true } }) rfl
    rw [exec_step_free h (testEntry_skip hr hn.1) ⟨rfl, rfl, rfl, rfl, rfl⟩ hT (hp.stepped ch) ⟨rfl, rfl, rfl, rfl⟩]
    have hstage : (if s.dn1 = 0 then r.stage else .offered) = ExitStage.taken s.dn1 ↔ r.stage = .taken s.dn1 := by
      rw [hst]
      split <;> simp
    have hset := settle_offered (s := (s.stepped ch).lone { s.moved ch r with
      offerOwed := true, reached := { r.reached with offer := true } }) hp rfl hsend rfl
      (.inr (stopDue_same hp hqueue rfl rfl hp.occupant rfl .rfl rfl hstage)) hloop hq.2.1 hq.2.2.1
    rw [hst] at hset
    exact congrArg _ hset
  case exit =>
    intro s ch r p h he hof hs hex hl1 hl2 hdl hh
    obtain ⟨hp, hq, hloop, hqueue, hsteps, -, hd, hpos, ho⟩ := h.1.facts
    have hr := rec?_lone (s := s.stepped ch) (r := s.moved ch r) rfl
    rw [← hpos] at hl1 hl2 hdl
    have hT := testThresholds_exit (hp.stepped ch) hsteps (x := s.moved ch r) hd he hof hs hex hl1 hl2 hdl
      (fun e => (stepped_hold s ch).trans (hh e))
    rw [exec_step_free h (testEntry_skip hr (.inl he)) ⟨rfl, rfl, rfl, rfl, rfl⟩ hT ⟨hp.role, hp.occupant⟩
      ⟨rfl, rfl, rfl, rfl⟩]
    refine congrArg _ (settle_plain hp (quiet_lone hq ho) rfl ?_ hloop)
    by_cases htk : r.stage = .taken s.dn1
    · exact .inl ((stopDue_lone ⟨hp.role, hp.occupant⟩ _).trans (if_neg fun hn => hn.1 (if_pos htk)))
    · refine .inr (stopDue_same hp hqueue rfl rfl hp.occupant rfl ?_ rfl .rfl)
      show (if r.stage = ExitStage.taken s.dn1 then .exiting else r.place) = Place.exiting ↔ _
      rw [if_neg htk]
  case deadline =>
    intro s ch r p h he hof hs hex hdl hl ha
    obtain ⟨hp, hq, hloop, hqueue, hsteps, -, hd, hpos, ho⟩ := h.1.facts
    have hr := rec?_lone (s := s.stepped ch) (r := s.moved ch r) rfl
    rw [← hpos] at hl ha
    have hT := testThresholds_deadline (hp.stepped ch) hsteps (x := s.moved ch r) hd he hof hs hex hdl hl ha
    rw [exec_step_free h (testEntry_skip hr (.inl he)) ⟨rfl, rfl, rfl, rfl, rfl⟩ hT ⟨hp.role, hp.occupant⟩
      ⟨rfl, rfl, rfl, rfl⟩, hpos, requestFor_of_sheet (show (s.moved ch r).marks.ghost = false from h.2.1)]
    exact congrArg _ (settle_plain hp (quiet_lone hq ho) rfl
      (.inr (stopDue_same hp hqueue rfl rfl hp.occupant rfl .rfl rfl .rfl)) hloop)
  case leaves =>
    intro s ch r p h he hof hs hex hpl ha hl himg
    have hc := h.1
    obtain ⟨hp, hq, hloop, hqueue, hsteps, -, hd, hpos, ho⟩ := hc.facts
    obtain ⟨-, -, -, -, -, hmove, hlist, hocc, -⟩ := hc.1
    have hr := rec?_lone (s := s.stepped ch) (r := s.moved ch r) rfl
    rw [← hpos] at hl
    have himg' : ((s.stepped ch).lone (s.moved ch r)).ownHolds .imageWait = false := by
      rw [← himg, State.ownHolds, State.ownHolds, State.holdEntry?, State.holdEntry?]
      exact congrArg (fun l : List HoldEntry => match l.find? fun e => e.origin == s.ctl.address with
        | some e => OwnReason.holdsIn .imageWait e.own
        | none => false) (stepped_hold s ch)
    have hleave := leaveQueue_eq (s := (s.stepped ch).lone (s.moved ch r)) (r := s.moved ch r) hmove hlist
      (by rw [show ((s.stepped ch).lone (s.moved ch r)).gate.occupant = none from hocc]; simp)
      (by rw [show ((s.stepped ch).lone (s.moved ch r)).inv.loop = none from hloop]; simp) himg'
    have hgone : ((s.stepped ch).lone (s.moved ch r)).track.queue.filter (fun x => x.tag != r.tag) = [] := by
      simp [State.lone]
    rw [hgone, if_neg (show ¬ ((s.moved ch r).marks.ghost = true ∧ _) by simp [h.2.1])] at hleave
    have hT := testThresholds_leaves (hp.stepped ch) (x := s.moved ch r) hd he hof hs hex hpl ha hl hleave
      ⟨hp.role, hp.occupant⟩ rfl
    obtain ⟨-, hrun, htray, hrearm⟩ := test_of_none (t := r.tag) (s := leaveQueue (s.moved ch r)
      ((s.stepped ch).lone (s.moved ch r))) (by rw [hleave]; rfl)
    rw [hleave] at hrun htray hrearm
    rw [exec_step_tested h (testEntry_skip hr (.inl he)) ⟨rfl, rfl, rfl, rfl, rfl⟩ hT (by rw [hrun, htray, hrearm])]
    exact congrArg _ (settle_plain hp ⟨by simp, hq.2⟩ rfl (.inl (stopDue_of_empty rfl)) hloop)

end Sys2Proof.Machine

/-! PROOFS. Confirmations, early edges, missed sensors and stalls (R31 to R41), and the stop point (R72). -/

namespace Sys2Proof.Machine

/-! ### Lead edges with an owner (R31, R33, R41) -/

/-- A lead edge of a record that is no ghost confirms it within its window and is early outside it (R31, R33). -/
theorem takeLead_attributed {s : State} {k : Nat} {r : Record} (hc : s.ctl.st.checks = true)
    (ha : s.attributed k = some r) (hg : r.marks.ghost = false) :
    takeLead k s =
      if r.inWindow = true then confirmEdge k r (setSensor k (fun q => { q with covered := true }) s)
      else earlyEdge k r (setSensor k (fun q => { q with covered := true }) s) := by
  unfold takeLead
  rw [if_pos (by exact hc), checkLead, attributed_setSensor, ha]
  dsimp only
  rw [if_neg (by simp [hg])]

theorem attributed_mem {s : State} {k : Nat} {r : Record} (ha : s.attributed k = some r) : r ∈ s.track.queue :=
  List.mem_of_find?_eq_some ha

/-- The sensor's uncovered distance before a cover is that after it (R41). -/
theorem checkGap_skip {s : State} {t : Tag} {r : Record} (hr : s.rec? t = some r) {k p : Nat}
    (h : s.gapMin ≤ s.gapAt k) : checkGap k p t s = s :=
  (onRec_of_rec? hr _).trans (if_neg fun h' => by omega)

theorem checkGap_hit {s : State} {t : Tag} {r : Record} (hr : s.rec? t = some r) {k p : Nat}
    (hg : r.marks.ghost = false) (hd : r.dir = .forward) (h : s.gapAt k < s.gapMin) :
    checkGap k p t s = raise (requestFor .gap r (some p) (some k)) s :=
  (onRec_of_rec? hr _).trans (if_pos ⟨hg, hd, h⟩)

/-- A cover recorded for an owner, confirmed, the latch at its odometer (R31). -/
def Sensor.coveredBy (r : Record) (q : Sensor) : Sensor :=
  { q with covered := true, owner := some r.tag, confirmed := true, stalled := false, latch := r.odo }

/-- What a confirmation at sensor k means to the other blocks of a station without REG sensor: ARRIVED to the record's
upstream, or the completion of its pick (R84, R89). -/
theorem handConfirmation_plain {s : State} {k : Nat} {r : Record} {before : Nat} (hrole : s.role ≠ .register) :
    handConfirmation k r before s = { s with
      port := if k = 0 then
          (match s.upstreamOf r.source with
           | some a => s.port.post a (.arrived r.tag r.last)
           | none => s.port)
        else s.port
      feed := { s.feed with
        pick := if k = 0 ∧ s.role = .feed ∧ r.source = .pick ∧ s.feed.pick = some r.tag then none else s.feed.pick } } := by
  unfold handConfirmation
  rw [if_neg fun h => hrole h.1]
  by_cases hk : k = 0
  · cases hs : r.source with
    | pick =>
      by_cases hp : s.role = .feed ∧ s.feed.pick = some r.tag
      · simp [hk, State.upstreamOf, hp]
      · simp [hk, State.upstreamOf, hp]
    | _ => simp [hk, State.upstreamOf, send]
  · simp [hk]

theorem handConfirmation_transport {s : State} {k : Nat} {r : Record} {before : Nat} (hrole : s.role = .transport) :
    handConfirmation k r before s = { s with
      port := if k = 0 then
          (match s.upstreamOf r.source with
           | some a => s.port.post a (.arrived r.tag r.last)
           | none => s.port)
        else s.port } := by
  rw [handConfirmation_plain (by simp [hrole]), if_neg (show ¬ (k = 0 ∧ s.role = .feed ∧ _) by simp [hrole])]

/-- A confirming edge at a TRANSPORT station: the sensor, the record and its source learn of it, and no threshold is
reached (R31, R84). -/
theorem confirmEdge_transport {s : State} {k : Nat} {r : Record} (hrole : s.role = .transport) (hq : s.queueSound)
    (hr : r ∈ s.track.queue) (hg : r.marks.ghost = false) (hd : r.dir = .forward) (hgap : s.gapMin ≤ s.gapAt k)
    (hn : s.noThreshold r (s.spos k)) :
    confirmEdge k r (setSensor k (fun q => { q with covered := true }) s) =
      { mapRec r.tag (Record.confirmAt s k) (setSensor k (Sensor.coveredBy r) s) with
        port := if k = 0 then
          (match s.upstreamOf r.source with
           | some a => s.port.post a (.arrived r.tag r.last)
           | none => s.port)
        else s.port } := by
  have hsens : setSensor k (Sensor.coverConfirmed r) (setSensor k (fun q => { q with covered := true }) s) =
      setSensor k (Sensor.coveredBy r) s := setSensor_setSensor _ _ _ _
  have hrec : (mapRec r.tag (Record.confirmAt s k) (setSensor k (Sensor.coveredBy r) s)).rec? r.tag =
      some (Record.confirmAt s k r) := by
    rw [rec?_mapRec (confirmAt_tag s k)]
    show (s.rec? r.tag).map _ = _
    rw [rec?_of_mem hq hr]
    rfl
  have hpos : (Record.confirmAt s k r).pos = s.spos k := Nat.mul_div_cancel _ (by decide)
  have hgap' : (mapRec r.tag (Record.confirmAt s k) (setSensor k (Sensor.coveredBy r) s)).gapMin ≤
      (mapRec r.tag (Record.confirmAt s k) (setSensor k (Sensor.coveredBy r) s)).gapAt k := by
    have e : (setSensor k (Sensor.coveredBy r) s).gapAt k = s.gapAt k :=
      gapAt_setSensor (f := Sensor.coveredBy r) (fun _ => rfl) k k s
    exact hgap.trans_eq e.symm
  unfold confirmEdge
  rw [hsens]
  show handConfirmation k r r.pos (testThresholds r.tag (checkGap k r.pos r.tag
    (mapRec r.tag (Record.confirmAt s k) (setSensor k (Sensor.coveredBy r) s)))) = _
  rw [checkGap_skip hrec hgap', testThresholds_of_none hrec hrole hd hg (by rw [hpos]; exact hn),
    handConfirmation_transport (by exact hrole)]
  rfl

/-! ### Ghosts confirmed by their position (R35) -/

/-- A ghost has no window (R27). -/
theorem windowOf_ghost {s : State} {r : Record} (hg : r.marks.ghost = true) : s.windowOf r = none := by
  unfold State.windowOf
  split
  · rfl
  · exact if_pos (.inl hg)

/-- The window of a FORWARD sheet on the path, at its next sensor (R27). -/
theorem windowOf_sheet {s : State} {r : Record} (hg : r.marks.ghost = false) (hp : r.place ≠ .expected)
    (hd : r.dir = .forward) : s.windowOf r = r.next.map fun j => s.windowAt .forward r.ref j := by
  unfold State.windowOf
  rw [hd]
  cases r.next with
  | none => rfl
  | some k => exact if_neg (by simp [hg, hp])

/-- The next sensor of a FORWARD record moves up the path (R32). -/
theorem advance_forward {s : State} {k : Nat} {r : Record} (hd : r.dir = .forward) :
    Record.advance s k r = { r with
      next := s.nextAbove r.route k
      window := s.windowOf { r with next := s.nextAbove r.route k } } := by
  unfold Record.advance State.nextSensor
  rw [hd]

/-- A FORWARD ghost's share of its confirmation: the reference and the next sensor, and no window (R27, R35). -/
theorem ghostConfirmAt_forward {s : State} {k : Nat} {x : Record} (hd : x.dir = .forward) (hg : x.marks.ghost = true)
    (hw : x.window = none) :
    Record.ghostConfirmAt s k x = { x with ref := s.spos k, next := s.nextAbove x.route k } := by
  refine (advance_forward (r := { x with ref := s.spos k }) hd).trans ?_
  rw [windowOf_ghost (by exact hg), ← hw]

/-- A ghost that has reached its next sensor, and not the one after, is confirmed there once: its source learns of it, or
its pick is complete (R35, R84, R89). -/
theorem confirmGhost_hit {s : State} {x : Record} {k : Nat} (hp : s.Plain) (hd : x.dir = .forward)
    (hg : x.marks.ghost = true) (hw : x.window = none) (hk : x.next = some k) (hl : s.spos k ≤ x.pos)
    (hn : ∀ j ∈ s.nextAbove x.route k, x.pos < s.spos j) (n : Nat) :
    confirmGhost (n + 1) x.tag (s.lone x) =
      { s with
        sens := { s.sens with sensors := s.sens.sensors.modify k fun q => { q with latch := x.odo } }
        port := if k = 0 then
            (match s.upstreamOf x.source with
             | some a => s.port.post a (.arrived x.tag x.last)
             | none => s.port)
          else s.port
        feed := { s.feed with
          pick := if k = 0 ∧ s.role = Role.feed ∧ x.source = Source.pick ∧ s.feed.pick = some x.tag then none
            else s.feed.pick } }.lone
        { x with ref := s.spos k, next := s.nextAbove x.route k } := by
  have hmap : mapRec x.tag (Record.ghostConfirmAt (s.lone x) k)
      (setSensor k (fun q => { q with latch := x.odo }) (s.lone x)) =
        (setSensor k (fun q => { q with latch := x.odo }) s).lone
          { x with ref := s.spos k, next := s.nextAbove x.route k } := by
    rw [← ghostConfirmAt_forward hd hg hw]
    exact mapRec_lone (s := setSensor k (fun q => { q with latch := x.odo }) s) rfl _
  have hr : (s.lone x).rec? x.tag = some x := rec?_lone rfl
  unfold confirmGhost
  rw [hr]
  dsimp only
  rw [hk]
  dsimp only
  rw [if_pos ⟨hg, by rw [if_pos hd]; exact hl⟩, hmap, handConfirmation_plain (by exact hp.ne.2.2)]
  refine confirmGhost_skip (rec?_lone (r := { x with ref := s.spos k, next := s.nextAbove x.route k })
    (s := { setSensor k (fun q => { q with latch := x.odo }) s with port := _, feed := _ }) rfl) n ?_
  intro _ j hj
  rw [if_pos (by exact hd)]
  exact Nat.not_le.mpr (hn j hj)

/-- The record's share of a confirmation of a FORWARD record, written out (R31). -/
theorem confirmAt_forward {s : State} {k : Nat} {r : Record} (hd : r.dir = .forward) :
    Record.confirmAt s k r = { r with
      lead := s.spos k * 256
      ref := s.spos k
      worst := min (max r.worst ((s.spos k - r.lead / 256) + (r.lead / 256 - s.spos k))) 255
      next := s.nextAbove r.route k
      window := s.windowOf { r with ref := s.spos k, next := s.nextAbove r.route k } } :=
  advance_forward (r := { r with
    lead := s.spos k * 256
    ref := s.spos k
    worst := min (max r.worst (distance (s.spos k) r.pos)) 255 }) hd

/-- A change of one record that the due reasons do not read settles in the Drive Unit alone (R72, R108, R135). -/
theorem settle_mapRec {b s : State} {t : Tag} {f : Record → Record} (hq : b.quiet)
    (hf : ∀ r, (f r).face = r.face ∧ (f r).offerOwed = r.offerOwed)
    (ht : s.track.queue = b.track.queue.map fun r => if r.tag = t then f r else r) (hc : s.ctl = b.ctl)
    (hp : s.cfg = b.cfg) (hh : s.hand.deferred1 = b.hand.deferred1 ∧ s.hand.deferred2 = b.hand.deferred2)
    (hi : s.inv = b.inv) (ho : s.comp = b.comp) (hx : b.role ≠ .invert) : settle b s = settleDrive s := by
  have hr : s.role = b.role := by unfold State.role; rw [hc]
  refine settle_mapped (f := fun r => if r.tag = t then f r else r)
    (quiet_mapped (f := fun r => if r.tag = t then f r else r) hq ?_ ht hh.1 hh.2 (by rw [hi])) ?_ ht (by rw [hc])
    (by rw [hp]) ⟨by rw [hi], by rw [hi]⟩ (by rw [ho]) (.inl (loopEnded_of_role (by rwa [hr])))
  · intro r
    split
    · exact (hf r).2
    · rfl
  · intro r
    split
    · exact (hf r).1
    · rfl

/-- A FORWARD record that reaches no threshold and is not to be picked again passes the rest of a step's tests (R25). -/
theorem testThresholds_passed {s : State} {t : Tag} {r : Record} (hp : s.Plain) (ht : r.tag = t) (hd : r.dir = .forward)
    (hn : s.noThreshold r r.pos) (hon : ∀ w ∈ r.window, ∀ k ∈ r.next, w.late < r.pos → s.repicks r k = false) :
    testRearm t (testTray t (testRunout t (testThresholds t (s.lone r)))) = s.lone r := by
  have hp' : (s.lone r).Plain := ⟨hp.role, hp.occupant⟩
  have hr : (s.lone r).rec? t = some r := rec?_lone ht
  rw [testThresholds_skip hp' hr hd hn, testRunout_skip hp', testTray_skip hp', testRearm_skip hr hd hon]

/-- Settles O20: an edge in the window is `confirmEdge`, and a ghost's step is `confirmGhost`. -/
theorem leadEdgeInTheWindowConfirms : Obligations.LeadEdgeInTheWindowConfirms := by
  refine ⟨?edge, ?ghost⟩
  case edge =>
    intro s k r w hl hst hk hrole hq hqs hu ha hg hd hw he hla hgap hn
    have hm := attributed_mem ha
    have hwin : r.inWindow = true := by
      unfold Record.inWindow Record.within
      rw [hw, hd]
      exact decide_eq_true ⟨he, hla⟩
    have hrole' : s.role ≠ .invert := by simp [hrole]
    have hmap := map_tag_of_mem hqs.2 hm (Record.confirmAt s k)
    rw [confirmAt_forward hd] at hmap
    rw [exec_leadEdge_uncovered (filters_of_inUse hl (checks_ne_selftest hst) hk) hu,
      takeLead_attributed (s := pinSensor k true s) hst ha hg, if_pos hwin,
      confirmEdge_transport (s := pinSensor k true s) hrole hqs hm hg hd hgap hn, ← hmap]
    exact congrArg Host.Outcome.next (settle_mapRec (t := r.tag) (f := Record.confirmAt s k) hq (fun _ => ⟨rfl, rfl⟩)
      rfl rfl rfl ⟨rfl, rfl⟩ rfl rfl hrole')
  case ghost =>
    intro s ch r p k h hg hown hw hn hk hl hnext
    obtain ⟨hp, hq, hloop, hqueue, -, -, hd, hpos, ho⟩ := h.facts
    have hr := rec?_lone (s := s.stepped ch) (r := s.moved ch r) rfl
    rw [← hpos] at hn hl hnext
    have none_late : ∀ {y : Record} {P : Window → Prop}, y.window = none → ∀ w ∈ y.window, P w := by
      intro y P hy w hw
      rw [hy] at hw
      cases hw
    have hconf := confirmGhost_hit (hp.stepped ch) (x := s.moved ch r) hd hg hw hk hl hnext 5
    rw [exec_step_lone h]
    unfold testRecord
    rw [testEntry_skip hr hn.1, testLate_skip hr hd (none_late hw),
      testStalls_skip hr (fun j hj hj' => absurd ((stepped_owner s ch j).symm.trans hj') (hown j hj)), hconf]
    refine congrArg Host.Outcome.next ((congrArg (settle s) ?_).trans (settle_plain hp (quiet_lone hq ho) rfl
      (.inr (stopDue_same hp hqueue rfl rfl hp.occupant rfl .rfl rfl .rfl)) hloop))
    exact testThresholds_passed ⟨hp.role, hp.occupant⟩ rfl hd hn (none_late hw)

/-! ### Edges outside the window, and missed sensors (R33, R36, R37, R88) -/

/-- The Fault Unit after EARLY, and GAP where the gap is short (R33, R41). -/
def State.earlyFaults (s : State) (k : Nat) (r : Record) : FaultUnit :=
  let early := (s.flt.count .early).pend (requestFor .early r (some r.pos) (some k))
  if s.gapAt k < s.gapMin then (early.count .gap).pend (requestFor .gap r (some r.pos) (some k)) else early

/-- An early edge of a record that is no ghost leaves an unconfirmed cover and raises its faults (R33, R41). -/
theorem earlyEdge_eq {s : State} {k : Nat} {r : Record} (hp : s.ctl.st.faultsPend = true) (hr : s.rec? r.tag = some r)
    (hg : r.marks.ghost = false) (hd : r.dir = .forward) :
    earlyEdge k r s = { setSensor k (Sensor.coverUnconfirmed r.tag) s with flt := s.earlyFaults k r } := by
  have hgap : (setSensor k (Sensor.coverUnconfirmed r.tag) s).gapAt k = s.gapAt k := 
    gapAt_setSensor (f := Sensor.coverUnconfirmed r.tag) (fun _ => rfl) k k s
  have hearly : raise (requestFor .early r (some r.pos) (some k)) (setSensor k (Sensor.coverUnconfirmed r.tag) s) =
      { setSensor k (Sensor.coverUnconfirmed r.tag) s with
        flt := (s.flt.count .early).pend (requestFor .early r (some r.pos) (some k)) } := raise_of_pends hp
  show checkGap k r.pos r.tag (raise _ (setSensor k (Sensor.coverUnconfirmed r.tag) s)) = _
  rw [hearly, State.earlyFaults]
  by_cases h : s.gapAt k < s.gapMin
  · rw [if_pos h, checkGap_hit (r := r) (by exact hr) hg hd (by exact hgap.trans_lt h), raise_of_pends (by exact hp)]
    rfl
  · rw [if_neg h, checkGap_skip (r := r) (by exact hr) (by exact (Nat.le_of_not_lt h).trans_eq hgap.symm)]

/-- MISS where no sensor is the REG sensor and nothing lies across a gate (R37). -/
theorem missAt_plain {s : State} {k : Nat} {r : Record} (hrole : s.role ≠ .register) (hocc : s.gate.occupant = none) :
    missAt k r s = mapRec r.tag (Record.advance s k) (raise (requestFor .miss r (some r.pos) (some k)) s) := by
  simp [missAt, hrole, hocc]

/-- A record beyond its late limit at a plain station misses its sensor: MISS, and the next sensor moves on (R36, R37). -/
theorem testLate_hit {s : State} {x : Record} {w : Window} {k : Nat} (hp : s.Plain) (hf : s.ctl.st.faultsPend = true)
    (hd : x.dir = .forward) (hw : x.window = some w) (hk : x.next = some k) (hl : w.late < x.pos)
    (hn : s.repicks x k = false) :
    testLate x.tag (s.lone x) =
      { s with flt := (s.flt.count .miss).pend (requestFor .miss x (some x.pos) (some k)) }.lone
        (Record.advance s k x) := by
  refine (onRec_of_rec? (rec?_lone rfl) _).trans ?_
  rw [hw, hk]
  dsimp only
  rw [if_pos ⟨by simpa [Record.late, hd] using hl, hn⟩]
  rw [missAt_plain (by exact hp.ne.2.2) (by exact hp.occupant), raise_of_pends (by exact hf)]
  exact mapRec_lone (s := { s with flt := (s.flt.count .miss).pend (requestFor .miss x (some x.pos) (some k)) }) rfl _

/-- A pick beyond its late limit with retries left stands again at the entry (R36, R88). -/
theorem testRearm_hit {s : State} {x : Record} {w : Window} {k : Nat} (hd : x.dir = .forward)
    (hw : x.window = some w) (hk : x.next = some k) (hl : w.late < x.pos) (hn : s.repicks x k = true) :
    testRearm x.tag (s.lone x) = s.lone (Record.rearm s x) := by
  refine (onRec_of_rec? (rec?_lone rfl) _).trans ?_
  rw [hw, hk]
  dsimp only
  rw [if_pos ⟨by simpa [Record.late, hd] using hl, hn⟩]
  exact mapRec_lone rfl _

/-- Only sensors above k come after it (R32). -/
theorem lt_of_nextAbove {s : State} {route : Option Route} {k j : Nat} (h : s.nextAbove route k = some j) : k < j := by
  have := List.find?_some h
  simp only [Bool.and_eq_true, decide_eq_true_eq] at this
  exact this.1

/-- A sheet that owns no sensor and reaches no threshold passes every test of a step but those of its late limit (R25). -/
theorem testRecord_passed {s : State} {t : Tag} {r : Record} (hp : s.Plain) (ht : r.tag = t) (hd : r.dir = .forward)
    (hg : r.marks.ghost = false) (hown : ∀ k < s.scount, (s.sensor k).owner ≠ some t) (hn : s.noThreshold r r.pos) :
    testTray t (testRunout t (testThresholds t (confirmGhost 6 t (testStalls t (s.lone r))))) = s.lone r := by
  have hp' : (s.lone r).Plain := ⟨hp.role, hp.occupant⟩
  have hr : (s.lone r).rec? t = some r := rec?_lone ht
  rw [testStalls_skip hr (fun k hk ho => absurd ho (hown k hk)),
    confirmGhost_skip hr 6 (fun h => by rw [hg] at h; cases h), testThresholds_skip hp' hr hd hn,
    testRunout_skip hp', testTray_skip hp']

/-- Settles O21: an edge outside the window is `earlyEdge`; a late record is `missAt`, or a pick that is re-armed. -/
theorem leadEdgeOutsideTheWindowIsEarly : Obligations.LeadEdgeOutsideTheWindowIsEarly := by
  refine ⟨?early, ?miss, ?rearm, ?offered⟩
  case early =>
    intro s k r hl hst hk hq hqs hu ha hg hd hw
    have hm := attributed_mem ha
    have hwin : r.inWindow ≠ true := by
      unfold Record.inWindow Record.within
      cases hwo : r.window with
      | none => simp
      | some w =>
        have hout := hw w hwo
        rw [hd]
        intro hin
        have hin' := of_decide_eq_true hin
        simp only [Record.pos] at hin'
        omega
    have hgap : (setSensor k (fun q => { q with covered := true }) (pinSensor k true s)).gapAt k =
        (s.sensor k).uncovered / 256 := gapAt_setSensor (f := fun q => { q with covered := true }) (fun _ => rfl) k k _
    rw [exec_leadEdge_uncovered (filters_of_inUse hl (checks_ne_selftest hst) hk) hu,
      takeLead_attributed (s := pinSensor k true s) hst ha hg, if_neg hwin,
      earlyEdge_eq (s := setSensor k (fun q => { q with covered := true }) (pinSensor k true s)) (checks_faultsPend hst) (rec?_of_mem hqs hm) hg hd, State.earlyFaults, hgap,
      requestFor_of_sheet hg, requestFor_of_sheet hg]
    refine congrArg Host.Outcome.next (Eq.trans (settle_same hq rfl rfl rfl rfl rfl) (congrArg settleDrive ?_))
    rw [setSensor_setSensor]
    rfl
  case miss =>
    intro s ch r w p k h hg hown hw hk hl hn hpick
    obtain ⟨hp, hq, hloop, hqueue, hsteps, hexp, hd, hpos, ho⟩ := h.facts
    have hr := rec?_lone (s := s.stepped ch) (r := s.moved ch r) rfl
    rw [← hpos] at hn hl
    have hrepick : (s.stepped ch).repicks (s.moved ch r) k = false := decide_eq_false hpick
    have hmiss := testLate_hit (hp.stepped ch) (x := s.moved ch r) (steps_faultsPend hsteps) hd hw hk hl hrepick
    have hadv : Record.advance (s.stepped ch) k (s.moved ch r) = { s.moved ch r with
        next := s.nextAbove r.route k
        window := (s.nextAbove r.route k).map fun j => s.windowAt .forward r.ref j } := by
      rw [advance_forward (by exact hd), windowOf_sheet (by exact hg) (by exact hexp) (by exact hd)]
      rfl
    rw [hadv] at hmiss
    rw [exec_step_lone h]
    unfold testRecord
    rw [testEntry_skip hr hn.1, hmiss, ← hpos, ← requestFor_of_sheet hg]
    refine congrArg Host.Outcome.next (Eq.trans (congrArg (settle s) ?_) (settle_plain hp (quiet_lone hq ho) rfl
      (.inr (stopDue_same hp hqueue rfl rfl hp.occupant rfl .rfl rfl .rfl)) hloop))
    refine Eq.trans (congrArg (testRearm r.tag) (testRecord_passed ⟨hp.role, hp.occupant⟩ rfl hd hg
      (fun j hj hj' => hown j hj (Eq.trans (stepped_owner s ch j).symm hj')) hn)) ?_
    exact testRearm_skip (rec?_lone (by rfl)) (by exact hd) fun w hw j hj _ => decide_eq_false fun hn => by
      have := lt_of_nextAbove (s := s) (route := r.route) (k := k) (j := j) hj
      have := hn.2.2.1
      omega
  case rearm =>
    intro s ch r w p h hg hown hw hk hl hn hrole hsrc hret
    obtain ⟨hp, hq, hloop, hqueue, hsteps, hexp, hd, hpos, ho⟩ := h.facts
    have hr := rec?_lone (s := s.stepped ch) (r := s.moved ch r) rfl
    rw [← hpos] at hn hl
    have hrepick : (s.stepped ch).repicks (s.moved ch r) 0 = true := decide_eq_true ⟨hrole, hsrc, rfl, hret⟩
    have hpass := testRecord_passed (hp.stepped ch) (t := r.tag) (r := s.moved ch r) rfl hd hg
      (fun j hj hj' => hown j hj ((stepped_owner s ch j).symm.trans hj')) hn
    have harm := testRearm_hit (s := s.stepped ch) (x := s.moved ch r) hd hw hk hl hrepick
    have hnew : Record.rearm (s.stepped ch) (s.moved ch r) = { s.moved ch r with
        lead := 0, ref := 0, retries := r.retries - 1, window := some (s.windowAt .forward 0 0) } := by
      unfold Record.rearm
      dsimp only
      rw [windowOf_sheet (by exact hg) (by exact hexp) (by exact hd), show (s.moved ch r).next = some 0 from hk]
      rfl
    rw [exec_step_lone h]
    unfold testRecord
    rw [testEntry_skip hr hn.1, testLate_skip hr hd (fun _ _ j hj _ => by
        rw [show (s.moved ch r).next = some 0 from hk] at hj
        cases hj
        exact hrepick), hpass, harm, hnew]
    exact congrArg Host.Outcome.next (settle_plain hp (quiet_lone hq ho) rfl
      (.inr (stopDue_same hp hqueue rfl rfl hp.occupant rfl .rfl rfl .rfl)) hloop)
  case offered =>
    intro s ch r w p h hg hown hw hk hl ho' hol hn hst hrole hsrc hret hdn
    obtain ⟨hp, hq, hloop, hqueue, hsteps, hexp, hd, hpos, ho⟩ := h.facts
    have hr := rec?_lone (s := s.stepped ch) (r := s.moved ch r) rfl
    rw [← hpos] at hn hl hol
    have hT := testThresholds_offer (hp.stepped ch) (x := s.moved ch r) hd ho' hol hn
    have hrepick : ∀ x : Record, x.source = r.source → x.retries = r.retries →
        (s.stepped ch).repicks x 0 = true := fun x h1 h2 =>
      decide_eq_true ⟨hrole, h1.trans hsrc, rfl, by rw [h2]; exact hret⟩
    have harm := testRearm_hit (s := s.stepped ch) (x := { s.moved ch r with
        offerOwed := true, reached := { r.reached with offer := true } }) hd hw hk hl (hrepick _ rfl rfl)
    have hnew : Record.rearm (s.stepped ch) { s.moved ch r with
        offerOwed := true, reached := { r.reached with offer := true } } = { s.moved ch r with
        lead := 0, ref := 0, retries := r.retries - 1, window := some (s.windowAt .forward 0 0)
        offerOwed := true, reached := { r.reached with offer := true } } := by
      unfold Record.rearm
      dsimp only
      rw [windowOf_sheet (by exact hg) (by exact hexp) (by exact hd), show (s.moved ch r).next = some 0 from hk]
      rfl
    have hsend := sendOffers_lone (hp.stepped ch) hsteps (r := { s.moved ch r with
        lead := 0, ref := 0, retries := r.retries - 1, window := some (s.windowAt .forward 0 0)
        offerOwed := true, reached := { r.reached with offer := true } }) rfl
    rw [show (s.stepped ch).dn1 = s.dn1 from rfl, if_neg hdn, if_neg hdn, decide_eq_false hdn, ← ho] at hsend
    have hpl : ((s.stepped ch).lone { s.moved ch r with
        offerOwed := true, reached := { r.reached with offer := true } }).Plain := ⟨hp.role, hp.occupant⟩
    rw [hnew] at harm
    rw [exec_step_lone h]
    unfold testRecord
    rw [testEntry_skip hr hn.1, testLate_skip hr hd (fun _ _ j hj _ => by
        rw [show (s.moved ch r).next = some 0 from hk] at hj
        cases hj
        exact hrepick _ rfl rfl),
      testStalls_skip hr (fun j hj hj' => absurd ((stepped_owner s ch j).symm.trans hj') (hown j hj)),
      confirmGhost_skip hr 6 (fun h => by rw [show (s.moved ch r).marks.ghost = false from hg] at h; cases h),
      hT, testRunout_skip hpl, testTray_skip hpl, harm]
    have hstage : ExitStage.offered = .taken s.dn1 ↔ r.stage = .taken s.dn1 := by
      rw [hst]
      simp
    exact congrArg Host.Outcome.next (settle_offered hp (by rfl) hsend rfl
      (.inr (stopDue_same hp hqueue rfl rfl hp.occupant rfl .rfl rfl hstage)) hloop hq.2.1 hq.2.2.1)

/-! ### Trail edges and stalls (R38 to R40) -/

theorem handGate_plain {s : State} {k : Nat} (hi : s.role ≠ .invert) (he : s.role ≠ .exit) : handGate k s = s :=
  if_neg fun h => h.1.elim hi he

/-- A trail edge of an owned cover at a role without gate, inverter or tray is judged for its length alone (R39, R42). -/
theorem takeOwned_plain {s : State} {k : Nat} {q : Sensor} {r : Record} (hi : s.role ≠ .invert) (he : s.role ≠ .exit) :
    takeOwned k q r s = if s.shortDue q r = true then raise (requestFor .short r (some r.pos) (some k)) s else s := by
  have hgate : ∀ x : State, x.role = s.role → handGate k x = x := fun x hx =>
    handGate_plain (by rwa [hx]) (by rwa [hx])
  have hinv : ∀ x : State, x.role = s.role → handInvert k r x = x := fun x hx =>
    if_neg fun h => by rw [hx] at h; exact hi h.1
  have hcomp : ∀ x : State, x.role = s.role → ∀ b, handCompile k r q b x = x := fun x hx _ =>
    if_neg fun h => by rw [hx] at h; exact he h.1
  have hall : ∀ x : State, x.role = s.role → ∀ b, (if s.ctl.st.steps = true then
      handCompile k r q b (handInvert k r (handGate k x)) else x) = x := by
    intro x hx b
    rw [hgate x hx, hinv x hx, hcomp x hx, ite_self]
  unfold takeOwned
  exact hall _ (by split <;> rfl) _

/-- The covering-distance test raises STALL once (R40). -/
theorem testStall_hit {s : State} {x : Record} {k : Nat} (hf : s.ctl.st.faultsPend = true)
    (ho : (s.sensor k).owner = some x.tag) (hc : (s.sensor k).confirmed = true) (hs : (s.sensor k).stalled = false)
    (hl : s.stallLimit x < covering x (s.sensor k)) :
    testStall x.tag (s.lone x) k =
      { s with
        flt := (s.flt.count .stall).pend (requestFor .stall x (some x.pos) (some k))
        sens := { s.sens with sensors := s.sens.sensors.modify k fun q => { q with stalled := true } } }.lone x := by
  refine (onRec_of_rec? (rec?_lone rfl) _).trans ((if_pos ⟨ho, hc, hs, hl⟩).trans ?_)
  exact raise_of_pends hf

/-- Of the sensors in use the record owns one, and its covering distance there is beyond the limit (R40). -/
theorem testStalls_hit {s : State} {x : Record} {k : Nat} (hf : s.ctl.st.faultsPend = true) (hk : k < s.scount)
    (ho : (s.sensor k).owner = some x.tag) (hc : (s.sensor k).confirmed = true) (hs : (s.sensor k).stalled = false)
    (hothers : ∀ j < s.scount, j ≠ k → (s.sensor j).owner ≠ some x.tag)
    (hl : s.stallLimit x < covering x (s.sensor k)) :
    testStalls x.tag (s.lone x) =
      { s with
        flt := (s.flt.count .stall).pend (requestFor .stall x (some x.pos) (some k))
        sens := { s.sens with sensors := s.sens.sensors.modify k fun q => { q with stalled := true } } }.lone x := by
  obtain ⟨l1, l2, hsplit⟩ := List.append_of_mem (List.mem_range.mpr hk)
  have hnd : (l1 ++ k :: l2).Nodup := hsplit ▸ List.nodup_range
  have hlt : ∀ j ∈ l1 ++ k :: l2, j < s.scount := fun j hj => List.mem_range.mp (hsplit ▸ hj)
  have hne1 : ∀ j ∈ l1, j ≠ k := fun j hj e => List.disjoint_of_nodup_append hnd hj (e ▸ List.mem_cons_self)
  have hne2 : ∀ j ∈ l2, j ≠ k := fun j hj e =>
    (List.nodup_cons.mp (List.Nodup.of_append_right hnd)).1 (e ▸ hj)
  show (List.range s.scount).foldl (testStall x.tag) (s.lone x) = _
  rw [hsplit, List.foldl_append, List.foldl_cons,
    foldl_testStall_skip (rec?_lone rfl) fun j hj ho => absurd ho
      (hothers j (hlt j (List.mem_append_left _ hj)) (hne1 j hj)),
    testStall_hit hf ho hc hs hl]
  refine foldl_testStall_skip (rec?_lone rfl) fun j hj ho => absurd ?_
    (hothers j (hlt j (List.mem_append_right _ (List.mem_cons_of_mem _ hj))) (hne2 j hj))
  exact (sensor_setSensor Sensor.owner (f := fun q => { q with stalled := true }) (fun _ => rfl) k j s).symm.trans ho

/-- A step changes at most the uncovered distance of a sensor. -/
theorem stepped_sensor (s : State) (ch : Channel) (k : Nat) :
    ∃ u, (s.stepped ch).sensor k = { s.sensor k with uncovered := u } := by
  simp only [State.sensor, List.getD_eq_getElem?_getD, List.getElem?_mapIdx]
  cases s.sens.sensors[k]? with
  | none => exact ⟨_, rfl⟩
  | some q =>
    simp only [Option.map_some, Option.getD_some]
    split <;> exact ⟨_, rfl⟩

/-- A sheet that is not late and reaches no threshold passes the tests that follow those of its covers (R25). -/
theorem testCovered_passed {s : State} {t : Tag} {r : Record} (hp : s.Plain) (ht : r.tag = t) (hd : r.dir = .forward)
    (hg : r.marks.ghost = false) (hn : s.noThreshold r r.pos) (hon : r.onTime r.pos) :
    testRearm t (testTray t (testRunout t (testThresholds t (confirmGhost 6 t (s.lone r))))) = s.lone r := by
  rw [confirmGhost_skip (rec?_lone ht) 6 fun h => by rw [hg] at h; cases h]
  refine testThresholds_passed hp ht hd hn fun w hw _ _ hl => ?_
  have := hon w hw
  omega

/-- Settles O22: a trail edge is `takeOwned` by an owner, and a step's covering test is `testStalls`. -/
theorem trailEdgeJudgesTheLength : Obligations.TrailEdgeJudgesTheLength := by
  refine ⟨?owned, ?unowned, ?stalls, ?within⟩
  case owned =>
    intro s k r hl hst hk hi he hq hqs hc hr ho hcf hg
    have hrec : (s.sensor k).owner.bind (pinSensor k false s).rec? = some r := by
      rw [ho]
      exact rec?_of_mem hqs hr
    have hshort : (setSensor k (fun x => { x.disown with covered := false, uncovered := 0 })
        (pinSensor k false s)).shortDue (s.sensor k) r =
          decide ((r.odo - (s.sensor k).latch) / 256 < r.length - s.tLen) := by
      have : (setSensor k (fun x => { x.disown with covered := false, uncovered := 0 })
        (pinSensor k false s)).ctl.st.checks = true := hst
      unfold State.shortDue
      rw [this, hcf, hg]
      rfl
    have htake : takeTrail k (pinSensor k false s) =
        { setSensor k Sensor.uncover (pinSensor k false s) with
          flt := if (r.odo - (s.sensor k).latch) / 256 < r.length - s.tLen then
              (s.flt.count .short).pend (requestFor .short r (some r.pos) (some k))
            else s.flt } := by
      unfold takeTrail
      simp only [show ((pinSensor k false s).sensor k) = s.sensor k from rfl, hrec]
      rw [takeOwned_plain (by exact hi) (by exact he), hshort, raise_of_pends (by exact checks_faultsPend hst)]
      by_cases h : (r.odo - (s.sensor k).latch) / 256 < r.length - s.tLen
      · rw [if_pos (by exact decide_eq_true h), if_pos h]
        rfl
      · rw [if_neg (by simpa using h), if_neg h]
        rfl
    rw [exec_trailEdge_covered (filters_of_inUse hl (checks_ne_selftest hst) hk) hc, htake, requestFor_of_sheet hg]
    exact congrArg Host.Outcome.next (settle_same hq rfl rfl rfl rfl rfl)
  case unowned =>
    intro s k hl hst hk hi he hq hc ho
    have htake : takeTrail k (pinSensor k false s) = setSensor k Sensor.uncover (pinSensor k false s) := by
      unfold takeTrail
      simp only [show ((pinSensor k false s).sensor k) = s.sensor k from rfl, ho, Option.bind_none]
      rw [handGate_plain (s := setSensor k _ (pinSensor k false s)) hi he, ite_self]
      rfl
    rw [exec_trailEdge_covered (filters_of_inUse hl (checks_ne_selftest hst) hk) hc, htake]
    exact congrArg Host.Outcome.next (settle_same hq rfl rfl rfl rfl rfl)
  case stalls =>
    intro s ch r p k h hg hon hn hk ho hc hs hothers hl
    obtain ⟨hp, hq, hloop, hqueue, hsteps, -, hd, rfl, how⟩ := h.facts
    have hr := rec?_lone (s := s.stepped ch) (r := s.moved ch r) rfl
    obtain ⟨u, hu⟩ := stepped_sensor s ch k
    have hstall := testStalls_hit (s := s.stepped ch) (x := s.moved ch r) (steps_faultsPend hsteps) hk
      (by rw [hu]; exact ho) (by rw [hu]; exact hc) (by rw [hu]; exact hs)
      (fun j hj hjk => by rw [stepped_owner]; exact hothers j hj hjk) (by rw [hu]; exact hl)
    rw [exec_step_lone h]
    unfold testRecord
    rw [testEntry_skip hr hn.1, testLate_skip hr hd (fun w hw _ _ hl => absurd (hon w hw) (by omega)), hstall,
      ← requestFor_of_sheet hg]
    exact congrArg Host.Outcome.next (Eq.trans (congrArg (settle s)
      (testCovered_passed ⟨hp.role, hp.occupant⟩ rfl hd hg hn hon))
      (settle_plain hp (quiet_lone hq how) rfl (.inr (stopDue_same hp hqueue rfl rfl hp.occupant rfl .rfl rfl .rfl)) hloop))
  case within =>
    intro s ch r p h hg hon hn hl
    obtain ⟨hp, hq, hloop, hqueue, hsteps, -, hd, rfl, how⟩ := h.facts
    have hr := rec?_lone (s := s.stepped ch) (r := s.moved ch r) rfl
    have hskip : testStalls r.tag ((s.stepped ch).lone (s.moved ch r)) = (s.stepped ch).lone (s.moved ch r) := by
      refine testStalls_skip hr fun k hk ho => ?_
      obtain ⟨u, hu⟩ := stepped_sensor s ch k
      rw [show ((s.stepped ch).lone (s.moved ch r)).sensor k = { s.sensor k with uncovered := u } from hu] at ho ⊢
      exact hl k hk ho
    rw [exec_step_lone h]
    unfold testRecord
    rw [testEntry_skip hr hn.1, testLate_skip hr hd (fun w hw _ _ hl => absurd (hon w hw) (by omega)), hskip]
    exact congrArg Host.Outcome.next (Eq.trans (congrArg (settle s)
      (testCovered_passed ⟨hp.role, hp.occupant⟩ rfl hd hg hn hon))
      (settle_plain hp (quiet_lone hq how) rfl (.inr (stopDue_same hp hqueue rfl rfl hp.occupant rfl .rfl rfl .rfl)) hloop))

/-! ### The stop point and the waits that expire (R72, R74, R105) -/

theorem settledOn_loseDemand (c : Chan) (len start target : Nat) :
    c.loseDemand.settledOn false len start target = c.settledOn false len start target := by
  have h : c.loseDemand.stopsOn false = c.stopsOn false := by
    show c.loseDemand.loseDemand.applyWant = c.loseDemand.applyWant
    rw [loseDemand_loseDemand]
  unfold Chan.settledOn
  rw [h]

theorem stands_loseDemand (c : Chan) : c.loseDemand.stands false = c.stands false := by
  have h : c.loseDemand.stopsOn false = c.stopsOn false := by
    show c.loseDemand.loseDemand.applyWant = c.loseDemand.applyWant
    rw [loseDemand_loseDemand]
  rw [Bool.eq_iff_iff, ← stopsOn_stopped_iff, ← stopsOn_stopped_iff, h]

/-- Under a hold no channel has demand (R50, R51). -/
theorem demand_of_hold {s : State} (h : s.drive.hold ≠ []) : s.demandA = false ∧ s.demandB = false := by
  have : s.mayRun = false := by
    unfold State.mayRun
    cases hh : s.drive.hold with
    | nil => exact absurd hh h
    | cons e l => simp
  simp [State.demandA, State.demandB, this]

/-- A ramp-down that an own reason has begun is the one that settling would begin (R55, R61). -/
theorem settleDrive_loseDemand {s : State} (hh : s.drive.hold ≠ []) (hi : s.inv.seq ≠ .stopping) :
    settleDrive { s with drive := { s.drive with chA := s.drive.chA.loseDemand, chB := s.drive.chB.loseDemand } } =
      settleDrive s := by
  obtain ⟨a1, b1⟩ := demand_of_hold hh
  obtain ⟨a2, b2⟩ := demand_of_hold (s := { s with drive := { s.drive with
    chA := s.drive.chA.loseDemand, chB := s.drive.chB.loseDemand } }) hh
  rw [settleDrive_eq (by exact hi), settleDrive_eq hi]
  simp only [State.bothStand, a1, b1, a2, b2, settledOn_loseDemand, stands_loseDemand]
  rfl

/-- A station without own entry adds one with this reason, and HOLD goes to the sharing neighbours; what the channels do of
it is settled with the event (R61). -/
theorem settleDrive_addReason {r : OwnReason} {s : State} (h : s.holdEntry? s.ctl.address = none)
    (hi : s.inv.seq ≠ .stopping) :
    settleDrive (addReason r s) = settleDrive { s with
      port := s.port.postAll s.sharing (.hold s.ctl.address)
      drive := { s.drive with hold := s.drive.hold ++
        [{ origin := s.ctl.address, own := r.put true Reasons.none, via := none, fwd := s.sharing }] } } := by
  unfold addReason
  rw [h]
  unfold State.yieldDemand
  by_cases he : s.drive.hold = []
  · rw [if_pos he]
    exact settleDrive_loseDemand (s := { s with
      port := s.port.postAll s.sharing (.hold s.ctl.address)
      drive := { s.drive with hold := s.drive.hold ++
        [{ origin := s.ctl.address, own := r.put true Reasons.none, via := none, fwd := s.sharing }] } }) (by simp) hi
  · rw [if_neg he]
    rfl

/-- A record that has come to its stop point at a FEED or TRANSPORT station becomes the waiting record (R72). -/
theorem settle_stopped {b s : State} {t : Tag} (hb : b.Plain) (hq : s.quiet) (hc : s.ctl.strap = b.ctl.strap)
    (hs : s.stopDue = some t) (hbs : b.stopDue = none) (hi : s.inv.loop = none) :
    settle b s = settleDrive (beginHoldWait t s) := by
  obtain ⟨hv, hexit, -⟩ := hb.ne
  obtain ⟨port, hold, a, c, e, -⟩ := addReason_spec .handoffWait
    { s with hand := { s.hand with waiting := some t, holdTimer := .armed } }
  have hrole : (beginHoldWait t s).role = b.role := by
    unfold beginHoldWait
    rw [e]
    unfold State.role
    rw [← hc]
  have hloop : (beginHoldWait t s).inv.loop = none := by
    unfold beginHoldWait
    rw [e]
    exact hi
  have hd1 : ∀ d ∈ (beginHoldWait t s).hand.deferred1, d.reason ≠ .duplicate := by
    unfold beginHoldWait
    rw [e]
    exact hq.2.1
  have hd2 : ∀ d ∈ (beginHoldWait t s).hand.deferred2, d.reason ≠ .duplicate := by
    unfold beginHoldWait
    rw [e]
    exact hq.2.2.1
  have e1 : settleStop b s = beginHoldWait t s := by simp [settleStop, hs, hbs]
  have e2 : settleTray b (beginHoldWait t s) = beginHoldWait t s := by
    have hx : (beginHoldWait t s).trayDue = false := by simp [State.trayDue, hrole, hexit]
    have hb : b.trayDue = false := by simp [State.trayDue, hexit]
    simp [settleTray, hx, hb]
  have e3 : settleLoop b (beginHoldWait t s) = beginHoldWait t s := by simp [settleLoop, State.loopDue, hloop]
  unfold settle settleHolds
  rw [sendOffers_of_none_owed hq.1, e1, e2, e3, settleSlots_of_none (.inl (loopEnded_of_role (by rwa [hrole]))),
    sendDuplicateReadies_of_none hd1 hd2]

/-- What a record shares is read off its place, its source and its direction (R60). -/
theorem sharing_lone {b s : State} {r x : Record} (hq : s.track.queue = [r]) (hc : b.ctl.strap = s.ctl.strap)
    (hg : b.cfg.params = s.cfg.params)
    (hx : (x.place, x.source, x.dir, x.reached.entry) = (r.place, r.source, r.dir, r.reached.entry)) :
    (b.lone x).sharing = s.sharing := by
  simp only [Prod.mk.injEq] at hx
  obtain ⟨h1, h2, h3, h4⟩ := hx
  unfold State.sharing
  rw [hq, show (b.lone x).track.queue = [x] from rfl]
  have hs : (b.lone x).sharedBy x = s.sharedBy r := by
    simp only [State.sharedBy, Record.occupiesEntry, State.upstreamOf, State.boundaryNeighbour, State.role, State.up1,
      State.up2, State.dn1, State.dn2, State.par, State.lone, h1, h2, h3, h4, hc, hg] <;> rfl
  simp only [List.flatMap_cons, List.flatMap_nil, hs]

/-- Settles O33: an expiry raises HANDOFF against its record, and at the stop point the record begins a hold wait. -/
theorem handoffWaitsExpire : Obligations.HandoffWaitsExpire := by
  refine ⟨?hold, ?back, ?stop⟩
  case hold =>
    intro s r hl hf ht hw hr
    refine (if_pos ⟨hl, ht⟩).trans (congrArg Host.Outcome.next ?_)
    rw [hw]
    exact (onRec_of_rec? (by exact hr) _).trans (raise_of_pends (by exact hf))
  case back =>
    intro s r hl hf ht hw hr
    refine (if_pos ⟨hl, ht⟩).trans (congrArg Host.Outcome.next ?_)
    rw [hw]
    exact (onRec_of_rec? (by exact hr) _).trans (raise_of_pends (by exact hf))
  case stop =>
    intro s ch r p h hs hl hn hpl hst hown
    obtain ⟨hp, hq, hloop, hqueue, hsteps, -, hd, rfl, ho⟩ := h.1.facts
    have hr := rec?_lone (s := s.stepped ch) (r := s.moved ch r) rfl
    have hT := testThresholds_stop (hp.stepped ch) (x := s.moved ch r) hd hs hl hn
    rw [exec_step_free h (testEntry_skip hr hn.1) ⟨rfl, rfl, rfl, rfl, rfl⟩ hT (hp.stepped ch) ⟨rfl, rfl, rfl, rfl⟩]
    have hdue : ((s.stepped ch).lone { s.moved ch r with reached := { r.reached with stop := true } }).stopDue =
        some r.tag := by
      refine (stopDue_lone (hp.stepped ch) _).trans (if_pos ⟨hpl, rfl, ?_⟩)
      rw [State.untaken, (hp.stepped ch).taken]
      exact congrArg Bool.not (decide_eq_false hst)
    have hnone : s.stopDue = none := by
      rw [← lone_of_queue hqueue, stopDue_lone hp, if_neg]
      rintro ⟨-, h1, -⟩
      rw [hs] at h1
      cases h1
    have hshare := sharing_lone (b := s.stepped ch) (x := { s.moved ch r with
      reached := { r.reached with stop := true } }) hqueue rfl rfl rfl
    have hentry : (s.stepped ch).holdEntry? s.ctl.address = none := by
      rw [State.holdEntry?, stepped_hold]
      exact List.find?_eq_none.mpr fun e he => by simpa using hown e he
    refine congrArg Host.Outcome.next (Eq.trans (settle_stopped hp (by exact quiet_lone hq ho) rfl hdue hnone hloop)
      (Eq.trans (settleDrive_addReason (by exact hentry) (by exact hq.2.2.2)) (congrArg settleDrive ?_)))
    rw [← hshare, ← stepped_hold s ch]
    rfl

end Sys2Proof.Machine

/-! PROOFS. Entering a state: READY to deferred upstreams, DEFER to the offers that wait (R67, R78, R80, R82). -/

namespace Sys2Proof.Machine

/-! ### READY to deferred upstreams (R82) -/

theorem sendReady_up1 {p : Deferral → Bool} {why : List DeferReason} (hp : ∀ d, p d = decide (d.reason ∈ why)) (s : State) :
    sendReady p .up1 s = { s with
      port := if s.hand.deferred1.any fun d => decide (d.reason ∈ why) then s.port.post s.up1 .ready else s.port
      hand := { s.hand with
        deferred1 := if s.hand.deferred1.any fun d => decide (d.reason ∈ why) then none else s.hand.deferred1 } } := by
  have ho : s.owesReady p .up1 = s.hand.deferred1.any fun d => decide (d.reason ∈ why) := by
    simp only [State.owesReady, State.deferral]
    cases s.hand.deferred1 with
    | none => rfl
    | some d => exact hp d
  unfold sendReady
  rw [ho]
  split <;> rfl

theorem sendReady_up2 {p : Deferral → Bool} {why : List DeferReason} (hp : ∀ d, p d = decide (d.reason ∈ why)) (s : State) :
    sendReady p .up2 s = { s with
      port := if s.hand.deferred2.any fun d => decide (d.reason ∈ why) then s.port.post s.up2 .ready else s.port
      hand := { s.hand with
        deferred2 := if s.hand.deferred2.any fun d => decide (d.reason ∈ why) then none else s.hand.deferred2 } } := by
  have ho : s.owesReady p .up2 = s.hand.deferred2.any fun d => decide (d.reason ∈ why) := by
    simp only [State.owesReady, State.deferral]
    cases s.hand.deferred2 with
    | none => rfl
    | some d => exact hp d
  unfold sendReady
  rw [ho]
  split <;> rfl

/-- READY goes to each upstream deferred for one of these reasons, UP1 first, whose deferral ends (R82). -/
theorem sendReadies_eq {p : Deferral → Bool} {why : List DeferReason} (hp : ∀ d, p d = decide (d.reason ∈ why))
    (s : State) :
    sendReadies p s = { s with port := s.tellReady why s.port, hand := s.hand.readied why } := by
  rw [sendReadies, sendReady_up1 hp, sendReady_up2 hp]
  rfl

theorem isState_eq (d : Deferral) : d.isState = decide (d.reason ∈ [DeferReason.state]) := by simp [Deferral.isState]

theorem isHeld_eq (d : Deferral) : d.isHeld = decide (d.reason ∈ [DeferReason.held]) := by simp [Deferral.isHeld]

theorem isStateOrDrain_eq (d : Deferral) :
    d.isStateOrDrain = decide (d.reason ∈ [DeferReason.state, DeferReason.drain]) := by
  simp [Deferral.isStateOrDrain]

/-! ### Offers deferred by the state (R78, R80) -/

/-- What every offer that waits is answered: HELD under a hold, else STATE where no offer is taken (R78). -/
def State.defersAll (s : State) (why : DeferReason) : Prop :=
  (why = .held ∧ s.drive.hold ≠ []) ∨
    (why = .state ∧ s.drive.hold = [] ∧ s.ctl.st ≠ .running ∧ s.ctl.st ≠ .draining ∧ s.ctl.st ≠ .sweeping)

theorem judge_defersAll {s : State} {why : DeferReason} (h : s.defersAll why) (side : UpSide) (o : Offer) :
    s.judge side o = .lasting why := by
  unfold State.judge
  rcases h with ⟨rfl, hh⟩ | ⟨rfl, hh, h1, h2, h3⟩
  · rw [if_pos hh]
  · rw [if_neg (by simp [hh]), if_pos (.inl ⟨h1, h2, h3⟩)]

theorem reason_ne_duplicate {s : State} {why : DeferReason} (h : s.defersAll why) : why ≠ .duplicate := by
  rcases h with ⟨rfl, -⟩ | ⟨rfl, -⟩ <;> simp

/-- A lasting cause other than DUPLICATE queues DEFER, empties the slot and defers the upstream (R78). -/
theorem deferOffer_eq {why : DeferReason} (hw : why ≠ .duplicate) (side : UpSide) (o : Offer) (s : State) :
    deferOffer side o why s = { s with
      port := s.port.post (s.sideAddr side) (.defer o.tag o.last why)
      hand := (s.hand.setSlot none side).setDeferral { reason := why, dup := none } side } := by
  unfold deferOffer
  dsimp only
  rw [if_neg hw, if_neg hw]

theorem examineSlot_up1_defers {s : State} {why : DeferReason} (h : s.defersAll why) :
    examineSlot .up1 s = { s with
      port := match s.hand.slot1 with
        | some o => s.port.post s.up1 (.defer o.tag o.last why)
        | none => s.port
      hand := { s.hand with
        slot1 := none
        deferred1 := if s.hand.slot1 = none then s.hand.deferred1 else some { reason := why, dup := none } } } := by
  unfold examineSlot
  rw [show s.slot .up1 = s.hand.slot1 from rfl]
  cases hs : s.hand.slot1 with
  | none =>
    simp only [if_true]
    rw [← hs]
  | some o =>
    simp only [judge_defersAll h]
    rw [deferOffer_eq (reason_ne_duplicate h)]
    simp [Handoff.setSlot, Handoff.setDeferral, State.sideAddr]

theorem examineSlot_up2_defers {s : State} {why : DeferReason} (h : s.defersAll why) :
    examineSlot .up2 s = { s with
      port := match s.hand.slot2 with
        | some o => s.port.post s.up2 (.defer o.tag o.last why)
        | none => s.port
      hand := { s.hand with
        slot2 := none
        deferred2 := if s.hand.slot2 = none then s.hand.deferred2 else some { reason := why, dup := none } } } := by
  unfold examineSlot
  rw [show s.slot .up2 = s.hand.slot2 from rfl]
  cases hs : s.hand.slot2 with
  | none =>
    simp only [if_true]
    rw [← hs]
  | some o =>
    simp only [judge_defersAll h]
    rw [deferOffer_eq (reason_ne_duplicate h)]
    simp [Handoff.setSlot, Handoff.setDeferral, State.sideAddr]

theorem takeFree_of_none {s : State} (h : s.noOffers) : takeFree s = s := by
  have h1 : s.slot .up1 = none := h.1
  have h2 : s.slot .up2 = none := h.2
  simp [takeFree, State.slotFree, h1, h2]

/-- Every offer that waits is answered DEFER, UP1's first, and no slot holds an offer then (R78, R80). -/
theorem examineSlots_defers {s : State} {why : DeferReason} (h : s.defersAll why) :
    examineSlots s = { s with port := s.deferAll why s.port, hand := s.hand.deferringAll why } := by
  unfold examineSlots
  rw [examineSlot_up1_defers h, examineSlot_up2_defers (by exact h), takeFree_of_none ⟨rfl, rfl⟩]
  rfl

/-- No pick follows where the station is neither RUNNING nor DRAINING (R87). -/
theorem examinePick_of_state {s : State} (h1 : s.ctl.st ≠ .running) (h2 : s.ctl.st ≠ .draining) : examinePick s = s :=
  if_neg fun h => h.elim h1 h2

/-- Entering READY clears the hold set and defers every offer that waits (R67, R80). -/
theorem changeState_ready {s : State} (h : s.ctl.st ≠ .ready) :
    changeState .ready s = { s with
      ctl := { s.ctl with st := .ready }
      port := s.deferAll .state (s.drive.hold.foldl (fun p e => p.postAll e.fwd (.go e.origin)) s.port)
      drive := { s.drive with hold := [] }
      hand := { s.hand.deferringAll .state with waiting := none, holdTimer := .idle }
      reg := { s.reg with timer := .idle } } := by
  have he : enterState .ready s = clearHold (setState .ready s) := enterState_of_ne h
  have hd : (clearHold (setState .ready s)).defersAll .state := .inr ⟨rfl, rfl, by simp [clearHold, setState]⟩
  unfold changeState
  rw [if_neg h, he, examineSlots_defers hd, examinePick_of_state (by simp [clearHold, setState])
    (by simp [clearHold, setState])]
  rfl

/-! ### A loser that loses its slot (R92, R100) -/

/-- The last sheet of bill 7, BROKEN, offered by UP2. -/
def lastSheet : Offer :=
  { tag := ⟨7, 2⟩, last := true, side := .first, speed := 0, marks := { Marks.none with broken := true }, length := 2100 }

/-- A later sheet of the bill, offered by UP1. -/
def nextSheet : Offer :=
  { tag := ⟨7, 3⟩, last := false, side := .simplex, speed := 0, marks := Marks.none, length := 2100 }

/-- An earlier sheet of the bill inside the INVERT station, a LOOP record. -/
def loopSheet : Record :=
  { freshRecord { tag := ⟨7, 1⟩, last := false, side := .first, speed := 0, marks := Marks.none, length := 2100 } .inside
      .up1 (some 1) 0 with reached := { Reached.none with entry := true } }

/-- An INVERT station in DRAINING with bill 7 in progress, an offer of it in each slot. -/
def drainingLoop : State :=
  { State.reset with
    ctl := { State.reset.ctl with st := .draining, strap := 3, selftest := false }
    track := { State.reset.track with queue := [loopSheet] }
    hand := { State.reset.hand with slot1 := some nextSheet, slot2 := some lastSheet, setInProgress := some 7 } }

theorem judge_nextSheet : drainingLoop.judge .up1 nextSheet = .free := by decide

theorem judge_lastSheet : drainingLoop.judge .up2 lastSheet = .free := by decide

/-- The BROKEN sheet taken ends its bill and breaks the LOOP record of its set; the slots are then examined once more,
where the other offer lies outside the drain boundary. -/
theorem loser_deferred : (settle drainingLoop (examineSlots drainingLoop)).hand.slot1 = none := by decide

/-- Refutes O31: the loser's offer need not stay in its slot. At an INVERT station in DRAINING the winner is a BROKEN
last sheet; joining, it breaks its set and ends the bill in progress, so the LOOP record of that set is one no more, the
slots are examined again as the event settles (R100), and the loser is answered DEFER with DRAIN. -/
theorem not_contestedExaminationFollowsTheStreak : ¬ Obligations.ContestedExaminationFollowsTheStreak := by
  intro h
  obtain ⟨t, ht, -, hloser, -⟩ := h drainingLoop nextSheet lastSheet .up2 rfl (by decide) rfl rfl judge_nextSheet
    judge_lastSheet (.inl ⟨by decide, rfl⟩)
  have he : exec .slotExamination drainingLoop = .next (settle drainingLoop (examineSlots drainingLoop)) := rfl
  rw [he] at ht
  rw [← Host.Outcome.next.inj ht] at hloser
  exact absurd (hloser.symm.trans loser_deferred) (by decide)

end Sys2Proof.Machine

/-! PROOFS. Assignable lines, the ends of a drain, a pause and a sweep, and the records a pick, a launch and an
examination add. -/

namespace Sys2Proof.Machine

/-! ### A line that becomes active (R164, R165) -/

theorem functionActive_risen {s : State} {n : Fin 4} {f : LineFunction} (h : s.lineFunction n = f) :
    (pinLine n (s.lineActiveHigh n) s).functionActive f = true := by
  simp only [State.functionActive, lineReads_pinLine, List.any_eq_true]
  exact ⟨n.val, List.mem_range.mpr n.isLt, by simp [h]⟩

/-- The first active line of PAUSE drains the station (R162, R177). -/
theorem linesRisen_pause {s : State} {n : Fin 4} (h : s.lineFunction n = .pause)
    (hf : s.functionActive .pause = false) :
    linesRisen s (pinLine n (s.lineActiveHigh n) s) = drainStation (pinLine n (s.lineActiveHigh n) s) := by
  unfold linesRisen
  dsimp only
  have hi : (pinLine n (s.lineActiveHigh n) s).functionActive .interlock = s.functionActive .interlock :=
    functionActive_pinLine (by simp [h]) _
  rw [hi, if_neg (c := s.functionActive .interlock = false ∧ _) (by rintro ⟨h1, h2, -⟩; simp [h1] at h2),
    if_pos ⟨hf, functionActive_risen h⟩]

/-- The first active line of INTERLOCK raises INTERLOCK (R165). -/
theorem linesRisen_interlock {s : State} {n : Fin 4} (h : s.lineFunction n = .interlock)
    (hf : s.functionActive .interlock = false) (hi : s.ctl.st.interlocks = true) :
    linesRisen s (pinLine n (s.lineActiveHigh n) s) =
      raise (requestBare .interlock none false none) (pinLine n (s.lineActiveHigh n) s) := by
  unfold linesRisen
  dsimp only
  have hp : (pinLine n (s.lineActiveHigh n) s).functionActive .pause = s.functionActive .pause :=
    functionActive_pinLine (by simp [h]) _
  rw [hp, if_neg (c := s.functionActive .pause = false ∧ _) (by rintro ⟨h1, h2⟩; simp [h1] at h2),
    if_pos ⟨hf, functionActive_risen h, hi⟩]

theorem exec_lineActive {s : State} (n : Fin 4) (h : s.ctl.resetLow = false) :
    exec (.lineActive n) s = .next (settle s (linesRisen s (pinLine n (s.lineActiveHigh n) s))) := by
  simp [exec, execLineActive, h]

/-! ### The deferrals a change of state leaves (R78, R82) -/

/-- What answering offers and telling READY leave at the deferrals keeps the state quiet. -/
theorem quiet_deferring {b s : State} {why : DeferReason} (hq : b.quiet) (hw : why ≠ .duplicate)
    (ht : s.track = b.track) (h1 : s.hand.deferred1 = (b.hand.deferringAll why).deferred1)
    (h2 : s.hand.deferred2 = (b.hand.deferringAll why).deferred2) (hi : s.inv = b.inv) : s.quiet := by
  obtain ⟨q0, q1, q2, q3⟩ := hq
  refine ⟨ht ▸ q0, ?_, ?_, hi ▸ q3⟩
  · rw [h1]
    dsimp only
    split
    · exact q1
    · rintro d hd
      exact Option.mem_some.mp hd ▸ hw
  · rw [h2]
    dsimp only
    split
    · exact q2
    · rintro d hd
      exact Option.mem_some.mp hd ▸ hw

theorem quiet_readied {b s : State} {why : List DeferReason} (hq : b.quiet) (ht : s.track = b.track)
    (h1 : s.hand.deferred1 = (b.hand.readied why).deferred1) (h2 : s.hand.deferred2 = (b.hand.readied why).deferred2)
    (hi : s.inv = b.inv) : s.quiet := by
  obtain ⟨q0, q1, q2, q3⟩ := hq
  refine ⟨ht ▸ q0, ?_, ?_, hi ▸ q3⟩
  · rw [h1]
    dsimp only
    split
    · simp
    · exact q1
  · rw [h2]
    dsimp only
    split
    · simp
    · exact q2

/-! ### The end of a sweep (R176) -/

/-- The sweep ends: SWEEPREPORT, then READY with all that entering it does (R176, R67, R80). -/
theorem endSweep_eq {s : State} (h : s.ctl.st = .sweeping) :
    endSweep s = { s with
      ctl := { s.ctl with st := .ready }
      port := s.deferAll .state (s.drive.hold.foldl (fun p e => p.postAll e.fwd (.go e.origin))
        (s.port.post s.engAddr (.sweepReport s.sweep.results)))
      drive := { s.drive with hold := [] }
      hand := { s.hand.deferringAll .state with waiting := none, holdTimer := .idle }
      reg := { s.reg with timer := .idle }
      sweep := { s.sweep with active := false } } := by
  unfold endSweep
  rw [changeState_ready (by simp [h])]
  rfl

theorem drainSweep_eq {s : State} (h : s.ctl.st = .sweeping)
    (hd : ¬ (s.sweep.active = true ∧ s.track.queue = [] ∧ s.feed.pick = none ∧ s.drive.chA.run = .stopped ∧
      s.drive.chB.run = .stopped)) :
    drainSweep s = { s with sweep := { s.sweep with drainAsked := true, launching := false } } := by
  unfold drainSweep endSweepIfDue
  rw [if_neg]
  simp only [State.sweepDue, State.bothStopped, h, Bool.and_eq_true, List.isEmpty_iff, Option.isNone_iff_eq_none,
    decide_eq_true_iff]
  rintro ⟨⟨⟨⟨⟨h1, -⟩, -⟩, h2⟩, h3⟩, h4, h5⟩
  exact hd ⟨h1, h2, h3, h4, h5⟩

theorem drainSweep_ends {s : State} (h : s.ctl.st = .sweeping) (ha : s.sweep.active = true)
    (hq : s.track.queue = []) (hp : s.feed.pick = none) (h1 : s.drive.chA.run = .stopped)
    (h2 : s.drive.chB.run = .stopped) :
    drainSweep s = { s with
      ctl := { s.ctl with st := .ready }
      port := s.deferAll .state (s.drive.hold.foldl (fun p e => p.postAll e.fwd (.go e.origin))
        (s.port.post s.engAddr (.sweepReport s.sweep.results)))
      drive := { s.drive with hold := [] }
      hand := { s.hand.deferringAll .state with waiting := none, holdTimer := .idle }
      reg := { s.reg with timer := .idle }
      sweep := { s.sweep with active := false, drainAsked := true, launching := false } } := by
  unfold drainSweep endSweepIfDue
  rw [if_pos (by simp [State.sweepDue, State.bothStopped, h, ha, hq, hp, h1, h2]), endSweep_eq (by exact h)]
  rfl

/-! ### LINE_ACTIVE (R164, R165) -/

/-- DRAINING entered from RUNNING where nothing waits: READY to the upstreams deferred for STATE (R162, R82). -/
theorem drainStation_running {s : State} (h : s.ctl.st = .running) (hn : s.nothingWaits) :
    drainStation s = { s with
      ctl := { s.ctl with st := .draining }
      port := s.tellReady [.state] s.port
      hand := s.hand.readied [.state] } := by
  have he : enterState .draining s = { s with
      ctl := { s.ctl with st := .draining }
      port := s.tellReady [.state] s.port
      hand := s.hand.readied [.state] } :=
    (enterState_of_ne (by simp [h])).trans (sendReadies_eq isState_eq (setState .draining s))
  have hd : drainStation s = changeState .draining s := by simp [drainStation, h]
  rw [hd, changeState_of_none (by simp [h]) (he ▸ hn), he]

theorem drainStation_sweeping {s : State} (h : s.ctl.st = .sweeping) : drainStation s = drainSweep s := by
  simp [drainStation, h]

/-- Settles O26, clause by clause: what the risen line does, then the Drive Unit's settling. -/
theorem linesActBecomingActive : Obligations.LinesActBecomingActive := by
  unfold Obligations.LinesActBecomingActive
  refine ⟨?_, ?_, ?_, ?_⟩
  · intro s n h0 hf hn hi hq
    rw [exec_lineActive n h0, linesRisen_interlock hf hn hi, raise_of_pends (by
      show s.ctl.st.faultsPend = true
      revert hi
      cases s.ctl.st <;> simp [StationState.interlocks, StationState.faultsPend])]
    exact congrArg Host.Outcome.next (settle_same (by exact hq) rfl rfl rfl rfl rfl)
  · intro s n h0 hf hn hr hq hw
    rw [exec_lineActive n h0, linesRisen_pause hf hn,
      drainStation_running (s := pinLine n (s.lineActiveHigh n) s) hr hw]
    exact congrArg Host.Outcome.next (settle_same (quiet_readied (why := [.state]) hq rfl rfl rfl rfl) rfl rfl rfl rfl rfl)
  · intro s n h0 hf hn hr hq hd
    rw [exec_lineActive n h0, linesRisen_pause hf hn,
      drainStation_sweeping (s := pinLine n (s.lineActiveHigh n) s) hr,
      drainSweep_eq (s := pinLine n (s.lineActiveHigh n) s) hr hd]
    exact congrArg Host.Outcome.next (settle_same (by exact hq) rfl rfl rfl rfl rfl)
  · intro s n h0 hf hn hr hq ha he hp h1 h2
    rw [exec_lineActive n h0, linesRisen_pause hf hn,
      drainStation_sweeping (s := pinLine n (s.lineActiveHigh n) s) hr,
      drainSweep_ends (s := pinLine n (s.lineActiveHigh n) s) hr ha he hp h1 h2]
    exact congrArg Host.Outcome.next
      (settle_same (quiet_deferring (why := .state) hq (by simp) rfl rfl rfl rfl) rfl rfl rfl rfl rfl)

/-! ### DRAIN_END, PAUSE_END and SWEEP_END (R146, R162, R176) -/

theorem defersAll_of_state {s : State} (h1 : s.ctl.st ≠ .running) (h2 : s.ctl.st ≠ .draining)
    (h3 : s.ctl.st ≠ .sweeping) : s.defersAll (if s.drive.hold = [] then .state else .held) := by
  by_cases h : s.drive.hold = []
  · exact .inr ⟨if_pos h, h, h1, h2, h3⟩
  · exact .inl ⟨if_neg h, h⟩

/-- Entering PAUSED defers every offer that waits (R80, R146). -/
theorem changeState_paused {s : State} (h : s.ctl.st ≠ .paused) :
    changeState .paused s = { s with
      ctl := { s.ctl with st := .paused }
      port := s.deferAll (if s.drive.hold = [] then .state else .held) s.port
      hand := s.hand.deferringAll (if s.drive.hold = [] then .state else .held) } := by
  have he : enterState .paused s = setState .paused s := enterState_of_ne h
  unfold changeState
  rw [if_neg h, he, examineSlots_defers
    (defersAll_of_state (s := setState .paused s) (by simp [setState]) (by simp [setState]) (by simp [setState])),
    examinePick_of_state (by simp [setState]) (by simp [setState])]
  rfl

/-- Settles O32: each end enters its state, and the event then settles in the Drive Unit alone. -/
theorem drainPauseAndSweepEnd : Obligations.DrainPauseAndSweepEnd := by
  unfold Obligations.DrainPauseAndSweepEnd
  refine ⟨?_, ?_, ?_⟩
  · intro s h0 hs hq h1 h2 hp hquiet
    have he : exec .drainEnd s = .next (settle s (changeState .ready s)) := by
      simp [exec, execDrainEnd, State.runOut, State.bothStopped, h0, hs, hq, h1, h2, hp]
    rw [he, changeState_ready (by simp [hs])]
    exact congrArg Host.Outcome.next
      (settle_same (quiet_deferring (why := .state) hquiet (by simp) rfl rfl rfl rfl) rfl rfl rfl rfl rfl)
  · intro s h0 hs hq h1 h2 hquiet
    have he : exec .pauseEnd s = .next (settle s (changeState .paused s)) := by
      simp [exec, execPauseEnd, State.runOut, State.bothStopped, h0, hs, hq, h1, h2]
    rw [he, changeState_paused (by simp [hs])]
    exact congrArg Host.Outcome.next
      (settle_same (quiet_deferring hquiet (by split <;> simp) rfl rfl rfl rfl) rfl rfl rfl rfl rfl)
  · intro s h0 hs ha hd hq hp h1 h2 hquiet
    have hdue : s.sweepDue = true := by
      simpa [State.sweepDue, State.bothStopped, hs, ha, hq, hp, h1, h2] using hd
    have he : exec .sweepEnd s = .next (settle s (endSweep s)) := by simp [exec, execSweepEnd, h0, hdue]
    rw [he, endSweep_eq hs]
    exact congrArg Host.Outcome.next
      (settle_same (quiet_deferring (why := .state) hquiet (by simp) rfl rfl rfl rfl) rfl rfl rfl rfl rfl)

/-! ### The bin freed (R130) -/

/-- The last active line of a function falls, and the function is inactive (R164). -/
theorem functionActive_fallen {s : State} {n : Fin 4} {f : LineFunction}
    (ho : ∀ m < 4, m ≠ n.val → s.lineReads f m = false) :
    (pinLine n (!s.lineActiveHigh n) s).functionActive f = false := by
  simp only [State.functionActive, lineReads_pinLine, List.any_eq_false]
  intro m hm
  split
  · simp
  · rename_i hne
    simp [ho m (List.mem_range.mp hm) hne]

/-- The last active BIN_FULL line becomes inactive, and no other function is touched (R130). -/
theorem linesFallen_binFull {s : State} {n : Fin 4} (h : s.lineFunction n = .binFull)
    (hr : s.lineReads .binFull n = true) (ho : ∀ m < 4, m ≠ n.val → s.lineReads .binFull m = false) :
    linesFallen s (pinLine n (!s.lineActiveHigh n) s) = binFreed (pinLine n (!s.lineActiveHigh n) s) := by
  have hb : s.functionActive .binFull = true := List.any_eq_true.mpr ⟨n.val, List.mem_range.mpr n.isLt, hr⟩
  have he : (pinLine n (!s.lineActiveHigh n) s).functionActive .supplyEmpty = s.functionActive .supplyEmpty :=
    functionActive_pinLine (by simp [h]) _
  unfold linesFallen
  dsimp only
  rw [he, if_neg (c := s.functionActive .supplyEmpty = true ∧ _) (by rintro ⟨h1, h2⟩; simp [h1] at h2),
    if_pos ⟨hb, functionActive_fallen ho⟩]

theorem exec_lineInactive {s : State} (n : Fin 4) (h : s.ctl.resetLow = false) :
    exec (.lineInactive n) s = .next (settle s (linesFallen s (pinLine n (!s.lineActiveHigh n) s))) := by
  simp [exec, execLineInactive, h]

/-- An event that changes the tray's operation, but not whether one runs, settles in the Drive Unit alone (R135). -/
theorem settle_operation {b s : State} (hq : s.quiet) (ht : s.track = b.track) (hc : s.ctl.strap = b.ctl.strap)
    (hp : s.cfg.params = b.cfg.params) (hi : s.inv = b.inv) (ho : (s.comp.op = .none) ↔ (b.comp.op = .none)) :
    settle b s = settleDrive s := by
  refine settle_quiet hq (.inr ?_) ?_ (.inr ?_) (.inl (loopEnded_same (congrArg _ ht)))
  · simp only [State.stopDue, State.role, ht, hc, untaken_congr rfl rfl hc hp]
    rfl
  · simp only [State.trayDue, State.role, ht, hc, ne_eq, ho]
    rfl
  · simp only [State.loopDue, ht, hi]

/-- Settles O27: the operation in BIN WAIT begins, with its line and report. -/
theorem binFreedBeginsTheOperation : Obligations.BinFreedBeginsTheOperation := by
  unfold Obligations.BinFreedBeginsTheOperation
  refine ⟨?_, ?_⟩
  · intro s n h0 hf hr ho hl hq hop
    have hb : binFreed (pinLine n (!s.lineActiveHigh n) s) = { s with
        pins := { s.pins with lines := withBit s.pins.lines n (!s.lineActiveHigh n) }
        comp := { s.comp with
          op := .ejecting .active, timer := .running, ejectLine := true, offset := !s.comp.offset, binReported := false }
        port := s.port.post s.engAddr (.delivered (s.comp.traySet.getD 0) s.comp.count s.comp.split) } := by
      simp only [binFreed, pinLine, hl, hop, true_or, if_true, if_false, beginOperation]
      rfl
    rw [exec_lineInactive n h0, linesFallen_binFull hf hr ho, hb]
    exact congrArg Host.Outcome.next (settle_operation (by exact hq) rfl rfl rfl rfl (by simp [hop]))
  · intro s n why h0 hf hr ho hl hq hop hw
    have hb : binFreed (pinLine n (!s.lineActiveHigh n) s) = { s with
        pins := { s.pins with lines := withBit s.pins.lines n (!s.lineActiveHigh n) }
        comp := { s.comp with op := .dumping .active, timer := .running, dumpLine := true, binReported := false }
        port := s.port.post s.engAddr (.purged (s.comp.traySet.getD 0) s.comp.count why) } := by
      simp only [binFreed, pinLine, hl, hop, or_true, if_true, if_false, beginOperation, hw, Option.getD_some]
      rfl
    rw [exec_lineInactive n h0, linesFallen_binFull hf hr ho, hb]
    exact congrArg Host.Outcome.next (settle_operation (by exact hq) rfl rfl rfl rfl (by simp [hop]))

/-! ### A record that joins the queue (R12, R13) -/

/-- A record that has reached nothing and is not routed, and whose OFFER is not owed. -/
structure Record.New (r : Record) : Prop where
  reached : r.reached = Reached.none
  route : r.route = none
  offerOwed : r.offerOwed = false
  place : r.place ≠ .exiting

/-- An event that adds such a record to the tail of the queue settles in the Drive Unit alone. -/
theorem settle_appended {b s : State} {x : Record} (hx : x.New) (hq : s.quiet)
    (ht : s.track.queue = b.track.queue ++ [x]) (hc : s.ctl.strap = b.ctl.strap)
    (hp : s.cfg.params = b.cfg.params) (hi : s.inv = b.inv) (ho : s.comp.op = b.comp.op) :
    settle b s = settleDrive s := by
  have hro : s.role = b.role := by unfold State.role; rw [hc]
  refine settle_quiet hq ?_ ?_ (.inr ?_) (.inl ?_)
  · simp only [State.stopDue, hro, ht, untaken_congr rfl rfl hc hp, List.find?_append]
    split
    · exact .inr rfl
    · cases List.find? _ b.track.queue with
      | some r => exact .inr rfl
      | none =>
        left
        simp [hx.reached, hx.route, hx.place, Reached.none]
  · simp [State.trayDue, hro, ht, ho, hx.route]
  · simp [State.loopDue, ht, hi, hx.place]
  · unfold State.loopEnded
    simp only [ht, hro, Bool.and_eq_false_iff, List.any_eq_false]
    refine .inr fun r hr => ?_
    cases e : r.isLoop with
    | false => simp
    | true =>
      simp only [Bool.true_and, Bool.not_eq_true', Bool.not_eq_false, List.any_append, Bool.or_eq_true]
      exact .inl (List.any_eq_true.mpr ⟨r, hr, by simp [e]⟩)

/-- The same where the event began in a quiet state and leaves the deferrals as they were. -/
theorem settle_joined {b s : State} {x : Record} (hx : x.New) (hb : b.quiet)
    (ht : s.track.queue = b.track.queue ++ [x]) (h1 : s.hand.deferred1 = b.hand.deferred1)
    (h2 : s.hand.deferred2 = b.hand.deferred2) (hc : s.ctl.strap = b.ctl.strap)
    (hp : s.cfg.params = b.cfg.params) (hi : s.inv = b.inv) (ho : s.comp.op = b.comp.op) :
    settle b s = settleDrive s := by
  obtain ⟨q0, q1, q2, q3⟩ := hb
  refine settle_appended hx ⟨?_, h1 ▸ q1, h2 ▸ q2, hi ▸ q3⟩ ht hc hp hi ho
  rw [ht]
  intro r hr
  rcases List.mem_append.mp hr with hr | hr
  · exact q0 r hr
  · rw [List.mem_singleton.mp hr, hx.offerOwed]

/-- A record whose set is not listed and that is not BROKEN joins with no effect on the broken set list (R21). -/
theorem joinBroken_of_sound {r : Record} {s : State} (hb : r.marks.broken = false) (hl : r.tag.set ∉ s.track.broken) :
    joinBroken r s = s := by
  unfold joinBroken
  simp [hb, hl]

theorem joinBroken_of_ghost {r : Record} {s : State} (hg : r.marks.ghost = true) : joinBroken r s = s := by
  simp [joinBroken, hg]

/-- A record at the speed in use, or into an empty queue, raises no SPEED (R48, R49). -/
theorem joinSpeed_of_same {r : Record} {s : State} (h : s.track.queue = [] ∨ r.speed = s.drive.speed) :
    joinSpeed r s = { s with drive := { s.drive with speed := r.speed } } := by
  unfold joinSpeed
  rcases h with h | h
  · simp [h]
  · rw [h]
    simp

theorem countGhost_of_sheet {r : Record} {s : State} (h : r.marks.ghost = false) : countGhost r s = s := by
  simp [countGhost, h]

/-- A sound sheet joins the tail of the queue, with its window (R12, R27). -/
theorem joinQueue_sound {r : Record} {s : State} (hg : r.marks.ghost = false) (hb : r.marks.broken = false)
    (hl : r.tag.set ∉ s.track.broken) (hs : s.track.queue = [] ∨ r.speed = s.drive.speed) :
    joinQueue r s = { s with
      drive := { s.drive with speed := r.speed }
      track := { s.track with queue := s.track.queue ++ [{ r with window := s.windowOf r }] } } := by
  unfold joinQueue
  rw [joinSpeed_of_same hs, countGhost_of_sheet hg, joinBroken_of_sound hb (by exact hl)]
  rfl

theorem noteSet_of_sheet {side : Side} {set : Nat} {last : Bool} (s : State) :
    noteSet side false set last s = { s with hand := { s.hand with
      setInProgress := if side = .second then s.hand.setInProgress else if last then none else some set } } := by
  unfold noteSet
  by_cases h : side = .second <;> simp [h]

/-- A tag that no record carries is not held (R11). -/
theorem held_of_absent {s : State} {t : Tag} (h : ∀ r ∈ s.track.queue, r.tag ≠ t) : s.held t = false := by
  have hn : s.rec? t = none := List.find?_eq_none.mpr fun r hr => by simpa using h r hr
  simp [State.held, hn]

/-! ### PICK_START (R13, R87) -/

/-- The conditions of a pick of the head order in RUNNING (R87): its sheet joins the queue. -/
theorem pickFrom_running {s : State} {o : FeedOrder} {rest : List FeedOrder} (hro : s.role = .feed)
    (hst : s.ctl.st = .running) (hor : s.feed.orders = o :: rest) (hpk : s.feed.pick = none) (hh : s.drive.hold = [])
    (hlen : s.track.queue.length < 8) (htag : ∀ r ∈ s.track.queue, r.tag ≠ o.tag) (hcov : (s.sensor 0).covered = false)
    (hgap : s.gapMin - s.pickD ≤ (s.sensor 0).uncovered / 256) (hsup : s.functionActive .supplyEmpty = false)
    (hbr : o.tag.set ∉ s.track.broken) (hsp : s.track.queue = [] ∨ o.speed = s.drive.speed) :
    pickFrom s.feed.orders s = { s with
      feed := { s.feed with orders := rest, pick := some o.tag }
      hand := { s.hand with
        setInProgress :=
          if o.side = .second then s.hand.setInProgress else if o.last then none else some o.tag.set }
      drive := { s.drive with speed := o.speed }
      track := { s.track with queue := s.track.queue ++
        [{ pickedRecord o s.pickRt with window := some (s.windowAt .forward 0 0) }] } } := by
  have hr : s.pickReady o = true := by
    simp [State.pickReady, State.mayPick, State.pickSpacing, State.gapAt, hro, hst, hpk, hh, hlen, hcov, hgap]
  have hn : ({ s with feed := { s.feed with orders := rest } } : State).held o.tag = false := held_of_absent htag
  rw [hor, pickFrom, hr, hsup]
  simp only [Bool.true_eq_false, if_false, Bool.false_eq_true, hn]
  unfold startPick
  rw [noteSet_of_sheet, joinQueue_sound rfl rfl hbr (by exact hsp)]
  rfl

/-- Settles O28: the head order's sheet joins the queue. -/
theorem pickStartMakesARecord : Obligations.PickStartMakesARecord := by
  unfold Obligations.PickStartMakesARecord
  intro s o rest h0 hro hst hor hpk hh hlen htag hcov hgap hsup hbr hsp hq
  have he : exec .pickStart s = .next (settle s (pickFrom s.feed.orders s)) := by simp [exec, execPickStart, h0]
  rw [he, pickFrom_running hro hst hor hpk hh hlen htag hcov hgap hsup hbr hsp]
  exact congrArg Host.Outcome.next
    (settle_joined ⟨rfl, rfl, rfl, by simp [pickedRecord, freshRecord]⟩ hq rfl rfl rfl rfl rfl rfl rfl)

/-! ### GHOST_LAUNCH (R170, R171) -/

theorem incSat_eq (n : Nat) : incSat n = min (n + 1) 255 := rfl

/-- A ghost joins the tail of the queue; it raises nothing, and is counted received (R48, R49, R172, R174). -/
theorem joinQueue_ghost {r : Record} {s : State} (hg : r.marks.ghost = true) (ha : s.sweep.active = true)
    (he : s.role ≠ .exit) :
    joinQueue r s = { s with
      drive := { s.drive with speed := if s.track.queue = [] then r.speed else s.drive.speed }
      sweep := { s.sweep with results := { s.sweep.results with received := min (s.sweep.results.received + 1) 255 } }
      track := { s.track with queue := s.track.queue ++ [{ r with window := s.windowOf r }] } } := by
  have hs : joinSpeed r s =
      { s with drive := { s.drive with speed := if s.track.queue = [] then r.speed else s.drive.speed } } := by
    unfold joinSpeed
    by_cases h : s.track.queue = [] <;> simp [h, hg]
  unfold joinQueue
  rw [hs, joinBroken_of_ghost hg, countGhost, if_pos ⟨hg, ha, he⟩]
  rfl

/-- The spacing ghost is gone or far enough on (R171). -/
theorem spacingMet_of {s : State}
    (h : ∀ t ∈ s.sweep.spacing, ∀ r ∈ s.track.queue, r.tag = t → (2000 + s.gapMin) * 256 ≤ r.odo) :
    s.spacingMet = true := by
  unfold State.spacingMet
  split
  · rfl
  · rename_i t ht
    split
    · rfl
    · rename_i r hr
      have hm := List.mem_of_find?_eq_some hr
      have ht' : r.tag = t := by simpa using List.find?_some hr
      exact decide_eq_true (h t ht r hm ht')

/-- Settles O29: the launch's conditions hold, and the ghost joins the queue. -/
theorem ghostLaunchMakesAGhost : Obligations.GhostLaunchMakesAGhost := by
  unfold Obligations.GhostLaunchMakesAGhost
  intro s h0 hro hst ha hl hd hh hpk hlen htag hsp hq
  have hr : s.launchReady = true := by
    have hn : s.held (ghostTag s.sweep.nextNumber) = false := held_of_absent htag
    simp [State.launchReady, hl, hd, hst, hh, hpk, hlen, spacingMet_of hsp, hn]
  have he : exec .ghostLaunch s = .next (settle s (launchGhost s)) := by
    simp [exec, execGhostLaunch, examineLaunch, h0, hr]
  rw [he]
  unfold launchGhost
  dsimp only
  rw [joinQueue_ghost rfl (by exact ha) (by
    show s.role ≠ .exit
    simp [hro]), hl]
  refine congrArg Host.Outcome.next (Eq.trans (settle_joined ⟨rfl, rfl, rfl, ?_⟩ hq rfl rfl rfl rfl rfl rfl rfl) ?_)
  · simp [ghostRecord, freshRecord]
  · simp [lastGhost, nextGhost, ghostTag, ghostRecord, freshRecord, Marks.none, State.windowOf]
    rfl

/-! ### SLOT_EXAMINATION (R80, R81) -/

/-- No cause stops an offer in RUNNING at a station that is not INVERT (R78). -/
theorem judge_running {s : State} {side : UpSide} {o : Offer} (hst : s.ctl.st = .running) (hro : s.role ≠ .invert)
    (ho : s.slot side.other = none) (hh : s.drive.hold = []) (hlen : s.track.queue.length < 8)
    (hr : ∀ r ∈ s.track.queue, r.tag ≠ o.tag ∧ r.occupiesEntry = false) (hg : o.marks.ghost = false) :
    s.judge side o = .free := by
  have h1 : s.held o.tag = false := held_of_absent fun r h => (hr r h).1
  have h2 : s.entryOccupied = false := by
    simp only [State.entryOccupied, List.any_eq_false]
    exact fun r h => by simp [(hr r h).2]
  have h3 : s.slotHolds side.other o.tag = false := by simp [State.slotHolds, ho]
  have h4 : ¬ 8 ≤ s.track.queue.length := by omega
  simp [State.judge, hh, hst, State.ghostBarred, hg, h1, h2, h3, h4, hro]

/-- The only offer, which no cause stops, is taken (R81, R93). -/
theorem takeFree_up1 {s : State} {o : Offer} (h1 : s.hand.slot1 = some o) (h2 : s.hand.slot2 = none)
    (hj : s.judge .up1 o = .free) (hg : o.marks.ghost = false) (hb : o.marks.broken = false)
    (hl : o.tag.set ∉ s.track.broken) (hs : s.track.queue = [] ∨ o.speed = s.drive.speed) :
    takeFree s = s.tookUp1 o := by
  have e1 : s.slotFree .up1 = true := by
    have : s.slot .up1 = some o := h1
    simp [State.slotFree, this, hj]
  have e2 : s.slotFree .up2 = false := by
    have : s.slot .up2 = none := h2
    simp [State.slotFree, this]
  have e3 : takeFree s = takeSide .up1 false s := by simp [takeFree, e1, e2]
  have e4 : takeSide .up1 false s = takeOffer .up1 o { s with hand := s.hand.afterTake .up1 false } := by
    have : s.slot .up1 = some o := h1
    simp [takeSide, this]
  rw [e3, e4]
  unfold takeOffer
  rw [hg, noteSet_of_sheet, joinQueue_sound hg hb hl (by exact hs)]
  simp [Handoff.afterTake, Handoff.setSlot, State.tookUp1, freshRecord, State.windowOf, UpSide.source, State.sideAddr]
  rfl

/-- What is taken into the UP1 slot's place settles in the Drive Unit alone. -/
theorem settle_tookUp1 {b s : State} {o : Offer} (hb : b.quiet) (hs : s.track = b.track)
    (h1 : s.hand.deferred1 = b.hand.deferred1) (h2 : s.hand.deferred2 = b.hand.deferred2)
    (hc : s.ctl.strap = b.ctl.strap) (hp : s.cfg.params = b.cfg.params) (hi : s.inv = b.inv)
    (ho : s.comp.op = b.comp.op) : settle b (s.tookUp1 o) = settleDrive (s.tookUp1 o) :=
  settle_joined ⟨rfl, rfl, rfl, by simp⟩ hb (congrArg (fun t => t.queue ++ _) hs) h1 h2 hc hp hi ho

/-- Settles O30: no cause stops the only offer, so the examination takes it. -/
theorem slotExaminationTakesTheOnlyOffer : Obligations.SlotExaminationTakesTheOnlyOffer := by
  unfold Obligations.SlotExaminationTakesTheOnlyOffer
  intro s o h0 hst hro h1 h2 hh hlen hr hg hb hl hs hq
  have hj : s.judge .up1 o = .free := judge_running hst hro h2 hh hlen hr hg
  have e1 : examineSlot .up1 s = s := by
    have : s.slot .up1 = some o := h1
    simp [examineSlot, this, hj]
  have e2 : examineSlot .up2 s = s := by
    have : s.slot .up2 = none := h2
    simp [examineSlot, this]
  have he : exec .slotExamination s = .next (settle s (examineSlots s)) := by
    simp [exec, execSlotExamination, State.portClosed, h0, hst]
  rw [he, examineSlots, e1, e2, takeFree_up1 h1 h2 hj hg hb hl hs]
  exact congrArg Host.Outcome.next (settle_tookUp1 hq rfl rfl rfl rfl rfl rfl rfl)

end Sys2Proof.Machine

/-! PROOFS. The hold set: own reasons (R60 to R62, R66), HOLD and GO (R63, R64). -/

namespace Sys2Proof.Machine

/-! ### Entries of the hold set -/

/-- An origin that no entry has (R59). -/
theorem holdEntry?_of_absent {s : State} {o : Nat} (h : ∀ e ∈ s.drive.hold, e.origin ≠ o) : s.holdEntry? o = none :=
  List.find?_eq_none.mpr fun e he => by simpa using h e he

/-- No two entries have one origin, so an entry is the one its origin finds (R59). -/
theorem holdEntry?_of_mem {s : State} {e : HoldEntry} (hs : s.holdSound) (he : e ∈ s.drive.hold) :
    s.holdEntry? e.origin = some e := by
  cases hf : s.holdEntry? e.origin with
  | none => exact absurd (List.mem_map_of_mem he) (holdEntry?_eq_none hf)
  | some x =>
    have hx : x ∈ s.drive.hold := List.mem_of_find?_eq_some hf
    have ho : x.origin = e.origin := by simpa using List.find?_some hf
    rw [List.inj_on_of_nodup_map hs.2 hx he ho]

theorem holdEntry?_own {s : State} {e : HoldEntry} (hs : s.holdSound) (he : e ∈ s.drive.hold)
    (ho : e.origin = s.ctl.address) : s.holdEntry? s.ctl.address = some e := ho ▸ holdEntry?_of_mem hs he

theorem put_true (r : OwnReason) (o : Reasons) :
    r.put true o = { handoffWait := o.handoffWait || decide (r = .handoffWait)
                     imageWait := o.imageWait || decide (r = .imageWait)
                     trayWait := o.trayWait || decide (r = .trayWait)
                     loopWait := o.loopWait || decide (r = .loopWait) } := by
  cases r <;> simp [OwnReason.put]

theorem put_false (r : OwnReason) (o : Reasons) :
    r.put false o = { handoffWait := o.handoffWait && decide (r ≠ .handoffWait)
                      imageWait := o.imageWait && decide (r ≠ .imageWait)
                      trayWait := o.trayWait && decide (r ≠ .trayWait)
                      loopWait := o.loopWait && decide (r ≠ .loopWait) } := by
  cases r <;> simp [OwnReason.put]

/-- Whether a reason is left when another is taken out. -/
theorem any_put_false {r r' : OwnReason} {o : Reasons} (hn : r' ≠ r) (h : r'.holdsIn o = true) :
    (r.put false o).any = true := by
  cases r <;> cases r' <;> simp_all [OwnReason.put, OwnReason.holdsIn, Reasons.any]

theorem any_put_false_last {r : OwnReason} {o : Reasons} (h : ∀ r', r' ≠ r → r'.holdsIn o = false) :
    (r.put false o).any = false := by
  have h1 := h .handoffWait
  have h2 := h .imageWait
  have h3 := h .trayWait
  have h4 := h .loopWait
  cases r <;> simp_all [OwnReason.put, OwnReason.holdsIn, Reasons.any]

/-! ### An entry leaves the hold set (R62, R64, R66) -/

/-- The READY that an emptied hold set owes an upstream (R66). -/
def dueHeld (left : List HoldEntry) (d : Option Deferral) : Bool :=
  decide (left = []) && d.any fun x => decide (x.reason = .held)

/-- GO for an entry to its forwarded list, and READY to the upstreams deferred HELD once the set is empty. -/
theorem releaseEntry_eq (e : HoldEntry) (s : State) :
    releaseEntry e s =
      let left := s.drive.hold.filter fun x => x.origin != e.origin
      { s with
        port :=
          let told := s.port.postAll e.fwd (.go e.origin)
          let told1 := if dueHeld left s.hand.deferred1 then told.post s.up1 .ready else told
          if dueHeld left s.hand.deferred2 then told1.post s.up2 .ready else told1
        hand := { s.hand with
          deferred1 := if dueHeld left s.hand.deferred1 then none else s.hand.deferred1
          deferred2 := if dueHeld left s.hand.deferred2 then none else s.hand.deferred2 }
        drive := { s.drive with hold := left } } := by
  unfold releaseEntry tellHoldEmpty
  by_cases hl : (s.drive.hold.filter fun x => x.origin != e.origin) = []
  · rw [if_pos (by simpa [sendAll, State.withHold] using hl), sendReadies_eq isHeld_eq]
    simp [dueHeld, hl, sendAll, State.withHold, State.tellReady]
    rfl
  · rw [if_neg (by simpa [sendAll, State.withHold] using hl)]
    simp [dueHeld, hl, sendAll, State.withHold]

/-! ### Own reasons (R61, R62) -/

/-- A channel when an own entry joins the hold set: it loses demand where the set was empty (R54, R61). -/
theorem yieldDemand_eq (s : State) :
    s.yieldDemand =
      let slowed (c : Chan) : Chan :=
        if s.drive.hold = [] ∧ (c.run = .rampUp ∨ c.run = .atSpeed) then
          { c with run := if c.ramp = 0 then .stopped else .rampDown }
        else c
      { s with drive := { s.drive with chA := slowed s.drive.chA, chB := slowed s.drive.chB } } := by
  have hc : ∀ c : Chan, c.loseDemand =
      if c.run = .rampUp ∨ c.run = .atSpeed then { c with run := if c.ramp = 0 then .stopped else .rampDown } else c := by
    intro c
    unfold Chan.loseDemand
    split
    · split <;> rfl
    · rfl
  unfold State.yieldDemand
  by_cases he : s.drive.hold = []
  · simp [he, hc]
  · simp [he]

theorem addReason_own {r : OwnReason} {s : State} {e : HoldEntry} (h : s.holdEntry? s.ctl.address = some e) :
    addReason r s = { s with drive := { s.drive with hold := s.drive.hold.map fun x =>
      if x.origin = s.ctl.address then { x with own := r.put true x.own } else x } } := by
  simp [addReason, h, State.withHold]

/-- With no sharing neighbour an own reason sends nothing (R61). -/
theorem addReason_port_alone {r : OwnReason} {s : State} (h : s.sharing = []) : (addReason r s).port = s.port := by
  unfold addReason
  split
  · rfl
  · rw [h]
    simp only [sendAll, Port.postAll, List.foldl_nil, State.withHold]
    rw [yieldDemand_eq]

theorem removeReason_last {r : OwnReason} {s : State} {e : HoldEntry} (h : s.holdEntry? s.ctl.address = some e)
    (hr : r.holdsIn e.own = true) (ho : ∀ r', r' ≠ r → r'.holdsIn e.own = false) :
    removeReason r s = releaseEntry e s := by
  simp [removeReason, h, hr, any_put_false_last ho]

theorem removeReason_one {r r' : OwnReason} {s : State} {e : HoldEntry} (h : s.holdEntry? s.ctl.address = some e)
    (hr : r.holdsIn e.own = true) (hn : r' ≠ r) (ho : r'.holdsIn e.own = true) :
    removeReason r s = { s with drive := { s.drive with hold := s.drive.hold.map fun x =>
      if x.origin = s.ctl.address then { x with own := r.put false x.own } else x } } := by
  simp [removeReason, h, hr, any_put_false hn ho, State.withHold]

theorem removeReason_absent {r : OwnReason} {s : State} (h : s.ownHolds r = false) : removeReason r s = s := by
  unfold removeReason
  cases he : s.holdEntry? s.ctl.address with
  | none => rfl
  | some e =>
    have : r.holdsIn e.own = false := by simpa [State.ownHolds, he] using h
    simp [this]

/-! ### The sharing neighbours (R60) -/

theorem nodup_eraseDups : ∀ (n : Nat) (l : List Nat), l.length ≤ n → l.eraseDups.Nodup
  | _, [], _ => by simp
  | n + 1, a :: l, h => by
    rw [List.eraseDups_cons, List.nodup_cons]
    have hlen : (l.filter fun b => !b == a).length ≤ n :=
      (List.length_filter_le _ _).trans (Nat.le_of_succ_le_succ h)
    exact ⟨by simp, nodup_eraseDups n _ hlen⟩

theorem occupiesEntry_iff (r : Record) :
    r.occupiesEntry = true ↔
      r.place = .expected ∨ r.place = .entering ∨ (r.place = .exiting ∧ r.reached.entry = false) := by
  unfold Record.occupiesEntry
  cases r.place <;> simp

/-- The neighbours a record makes sharing, by its place (R60). -/
theorem mem_sharedBy {s : State} {r : Record} {a : Nat} :
    a ∈ s.sharedBy r ↔
      ((r.place = .expected ∨ r.place = .entering ∨ (r.place = .exiting ∧ r.reached.entry = false)) ∧
        s.upstreamOf r.source = some a) ∨ (r.place = .exiting ∧ a = s.boundaryNeighbour r) := by
  unfold State.sharedBy
  rw [List.mem_append, ← occupiesEntry_iff]
  refine or_congr ?_ ?_
  · split <;> simp_all
  · split <;> simp_all

theorem mem_sharing {s : State} {a : Nat} : a ∈ s.sharing ↔ a ≠ 0 ∧ ∃ r ∈ s.track.queue, a ∈ s.sharedBy r := by
  unfold State.sharing
  rw [List.mem_eraseDups, List.mem_filter, List.mem_flatMap]
  simp [and_comm]

/-- Settles O45, clause by clause. -/
theorem ownReasonsComeAndGo : Obligations.OwnReasonsComeAndGo := by
  unfold Obligations.OwnReasonsComeAndGo
  refine ⟨?_, fun s r h => addReason_port_alone h, ?_, ?_, ?_, fun s r h => removeReason_absent h, fun s => ⟨?_, fun a => ?_⟩⟩
  · intro s r h
    have hp : r.put true Reasons.none = { handoffWait := r = .handoffWait, imageWait := r = .imageWait
                                          trayWait := r = .trayWait, loopWait := r = .loopWait } := by
      rw [put_true]
      simp [Reasons.none]
    unfold addReason
    rw [h, yieldDemand_eq, hp]
    rfl
  · intro s r e hs he ho
    rw [addReason_own (holdEntry?_own hs he ho)]
    simp only [put_true]
  · intro s r e hs he ho hr hl
    rw [removeReason_last (holdEntry?_own hs he ho) hr hl, releaseEntry_eq, ho]
    rfl
  · intro s r r' e hs he ho hr hn hr'
    rw [removeReason_one (holdEntry?_own hs he ho) hr hn hr']
    simp only [put_false]
  · exact nodup_eraseDups _ _ le_rfl
  · simp only [mem_sharing, mem_sharedBy, State.boundaryNeighbour]

/-! ### HOLD and GO heard (R63, R64) -/

/-- A sound frame that the port hears with an empty buffer takes effect in the event of its completion (R180). -/
theorem exec_heard {c : Instr} {h : Header} {s : State} (hc : c.header? = some h) (hh : s.hearsFrom h)
    (hs : sound c = true) : exec c s = .next (takeFrame c s) := by
  rw [exec_frame hc, receive_heard hh hs]

theorem exec_hold {h : Header} {o : Byte} {s : State} (hh : s.hearsNeighbour h) (h1 : s.ctl.st ≠ .lockdown)
    (h2 : s.ctl.st ≠ .unconfigured) : exec (.hold h o) s = .next (holdHeard h.src.toNat o.toNat s) := by
  rw [exec_heard rfl hh.1 rfl]
  exact congrArg Host.Outcome.next (admit_neighbour hh h1 h2)

theorem exec_go {h : Header} {o : Byte} {s : State} (hh : s.hearsNeighbour h) (h1 : s.ctl.st ≠ .lockdown)
    (h2 : s.ctl.st ≠ .unconfigured) : exec (.go h o) s = .next (goHeard o.toNat s) := by
  rw [exec_heard rfl hh.1 rfl]
  exact congrArg Host.Outcome.next (admit_neighbour hh h1 h2)

/-- There is a place for an entry of another origin (R59). -/
theorem holdHasPlace_iff (s : State) : s.holdHasPlace = true ↔
    (s.drive.hold.length ≤ 6 ∨ (s.drive.hold.length ≤ 7 ∧ ∃ e ∈ s.drive.hold, e.origin = s.ctl.address)) := by
  unfold State.holdHasPlace
  by_cases h : ∃ e ∈ s.drive.hold, e.origin = s.ctl.address
  · have hs : (s.holdEntry? s.ctl.address).isSome = true := by
      simpa [State.holdEntry?, List.find?_isSome] using h
    simp only [hs, if_true, decide_eq_true_iff, h, and_true]
    omega
  · have hs : (s.holdEntry? s.ctl.address).isSome = false := by
      rw [holdEntry?_of_absent fun e he ho => h ⟨e, he, ho⟩]
      rfl
    simp [hs, h]

theorem holdEntry?_isSome_iff (s : State) (o : Nat) :
    (s.holdEntry? o).isSome = true ↔ ∃ e ∈ s.drive.hold, e.origin = o := by
  simp [State.holdEntry?, List.find?_isSome]

/-- Settles O43: HOLD is recorded and forwarded, counted stale, or changes nothing. -/
theorem holdIsRecordedAndForwarded : Obligations.HoldIsRecordedAndForwarded := by
  unfold Obligations.HoldIsRecordedAndForwarded
  have heard : ∀ (h : Header) (o : Byte) (s : State), s.ctl.st.steps = true → o.toNat ≠ s.ctl.address →
      (∀ e ∈ s.drive.hold, e.origin ≠ o.toNat) → holdHeard h.src.toNat o.toNat s =
        if s.holdHasPlace = true then settle s (recordHold h.src.toNat o.toNat s) else countStale s := by
    intro h o s hs ho hn
    unfold holdHeard
    rw [if_neg]
    simp [hs, ho, holdEntry?_of_absent hn]
  refine ⟨?_, ?_, ?_⟩
  · intro h o s hh hs hq ho hn hp
    obtain ⟨h1, h2⟩ := steps_listens hs
    rw [exec_hold hh h1 h2, heard h o s hs ho hn, if_pos ((holdHasPlace_iff s).mpr hp)]
    exact congrArg Host.Outcome.next (settle_same (by exact hq) rfl rfl rfl rfl rfl)
  · intro h o s hh hs ho hn hp
    obtain ⟨h1, h2⟩ := steps_listens hs
    rw [exec_hold hh h1 h2, heard h o s hs ho hn, if_neg (mt (holdHasPlace_iff s).mp hp)]
    rfl
  · intro h o s hh h1 h2 hc
    rw [exec_hold hh h1 h2, holdHeard, if_pos]
    rwa [holdEntry?_isSome_iff]

/-- Settles O44: GO releases the entry of its origin, or changes nothing. -/
theorem goReleasesItsEntry : Obligations.GoReleasesItsEntry := by
  unfold Obligations.GoReleasesItsEntry
  refine ⟨?_, ?_⟩
  · intro h o s hh h1 h2 hc
    rw [exec_go hh h1 h2, goHeard]
    split
    · rfl
    · rename_i hne
      rw [holdEntry?_of_absent (hc.resolve_left hne)]
  · intro h o e s hh h1 h2 hs hq hne he ho
    have hf : s.holdEntry? o.toNat = some e := ho ▸ holdEntry?_of_mem hs he
    rw [exec_go hh h1 h2, goHeard, if_neg hne, hf]
    dsimp only
    rw [releaseEntry_eq, ho]
    refine congrArg Host.Outcome.next (settle_same ⟨hq.1, ?_, ?_, hq.2.2.2⟩ rfl rfl rfl rfl rfl)
    · dsimp only
      split
      · simp
      · exact hq.2.1
    · dsimp only
      split
      · simp
      · exact hq.2.2.1

end Sys2Proof.Machine

/-! PROOFS. HALT (R149) and BROKEN (R20, R21, R100) heard. -/

namespace Sys2Proof.Machine

/-! ### An event that ends a LOOP record (R100) -/

/-- The own reasons that a change of records leaves due as before, where it changes nothing they read (R72, R108, R135). -/
theorem dues_mapped {b s : State} {f : Record → Record} (hf : ∀ r, (f r).face = r.face)
    (ht : s.track.queue = b.track.queue.map f) (hc : s.ctl.strap = b.ctl.strap)
    (hp : s.cfg.params = b.cfg.params) (hi : s.inv.seq = b.inv.seq ∧ s.inv.loop = b.inv.loop)
    (ho : s.comp.op = b.comp.op) :
    s.stopDue = b.stopDue ∧ s.trayDue = b.trayDue ∧ s.loopDue = b.loopDue := by
  have h1 : ∀ r, (f r).tag = r.tag := fun r => congrArg (·.1) (hf r)
  have h2 : ∀ r, (f r).place = r.place := fun r => congrArg (·.2.1) (hf r)
  have h3 : ∀ r, (f r).route = r.route := fun r => congrArg (·.2.2.1) (hf r)
  have h4 : ∀ r, (f r).reached = r.reached := fun r => congrArg (·.2.2.2.1) (hf r)
  have h5 : ∀ r, (f r).stage = r.stage := fun r => congrArg (·.2.2.2.2) (hf r)
  have hro : s.role = b.role := by unfold State.role; rw [hc]
  refine ⟨?_, ?_, ?_⟩
  · unfold State.stopDue
    rw [hro, ht, find?_map_of_same fun r => by simp only [h2, h3]]
    split
    · rfl
    · cases List.find? _ b.track.queue with
      | none => rfl
      | some r => simp only [Option.map_some, h1, h4, untaken_congr (h5 r) (h3 r) hc hp]
  · unfold State.trayDue
    rw [hro, ho, ht, List.any_map]
    congr 2
    funext r
    simp [h3, h4]
  · simp only [State.loopDue, hi.1, hi.2, ht, List.any_map]
    congr 2
    funext r
    simp [h1, h2]

/-- An event in which a LOOP record goes examines the slots as it settles (R100). -/
theorem settle_examined {b s : State} (hq : s.quiet)
    (hd : s.stopDue = b.stopDue ∧ s.trayDue = b.trayDue ∧ s.loopDue = b.loopDue) (hx : s.loopEnded b = true) :
    settle b s = settleDrive (sendDuplicateReadies (examineSlots s)) := by
  obtain ⟨hs, ht, hl⟩ := hd
  have e1 : settleStop b s = s := by
    unfold settleStop
    rw [hs]
    split
    · rfl
    · rename_i t et
      simp [et]
  have e2 : settleTray b s = s := by
    unfold settleTray
    rw [ht]
    cases b.trayDue <;> simp
  have e3 : settleLoop b s = s := by
    unfold settleLoop
    rw [hl]
    cases b.loopDue <;> simp
  have e4 : settleSlots b s = examineSlots s := if_pos hx
  unfold settle settleHolds
  rw [sendOffers_of_none_owed hq.1, e1, e2, e3, e4]

/-! ### BROKEN heard (R20, R21) -/

theorem breakIn_face (set : Nat) (r : Record) : (Record.breakIn set r).face = r.face := by
  unfold Record.breakIn
  split <;> rfl

theorem breakIn_offerOwed (set : Nat) (r : Record) : (Record.breakIn set r).offerOwed = r.offerOwed := by
  unfold Record.breakIn
  split <;> rfl

theorem breakIn_image (set : Nat) (r : Record) : (Record.breakIn set r).image = r.image := by
  unfold Record.breakIn
  split <;> rfl

theorem breakIn_occupiesEntry (set : Nat) (r : Record) : (Record.breakIn set r).occupiesEntry = r.occupiesEntry := by
  unfold Record.breakIn
  split <;> rfl

/-- A LOOP record stays one where the break is of another set, or its route is ALT already (R100). -/
theorem breakIn_isLoop {set : Nat} {r : Record} (h : r.tag.set ≠ set ∨ r.route = some .alt) :
    (Record.breakIn set r).isLoop = r.isLoop := by
  unfold Record.breakIn
  split
  · rename_i hc
    simp [Record.isLoop, h.resolve_left (fun hn => hn hc.1)]
  · rfl

/-- A LOOP record without route whose set is broken is one no more (R100). -/
theorem breakIn_ends {set : Nat} {r : Record} (hl : r.isLoop = true) (hs : r.tag.set = set) (hr : r.route = none) :
    (Record.breakIn set r).isLoop = false := by
  have hg : r.marks.ghost = false := by
    simp only [Record.isLoop, hr, Record.wouldLoop, Bool.and_eq_true, Bool.not_eq_true'] at hl
    exact hl.2
  simp [Record.breakIn, hs, hg, Record.isLoop, hr, Record.wouldLoop]

/-- A break makes no record a LOOP record (R100). -/
theorem breakIn_noLoop {set : Nat} {r : Record} (h : r.isLoop = false) : (Record.breakIn set r).isLoop = false := by
  unfold Record.breakIn
  split
  · unfold Record.isLoop at h ⊢
    dsimp only
    split
    · simp_all
    · rfl
    · simp [Record.wouldLoop]
  · exact h

/-- No record waits and no image wait holds: marks end none (R118). -/
theorem reviewMarks_of_none {s : State} (hw : ∀ x ∈ s.track.queue, x.image ≠ some .waiting)
    (ho : s.ownHolds .imageWait = false) : reviewMarks s = s := by
  have hm : s.track.queue.map Record.skipMarked = s.track.queue :=
    (List.map_congr_left fun x hx => if_neg fun hc => hw x hx hc.1).trans (List.map_id _)
  unfold reviewMarks reviewImageWait
  rw [hm, if_pos (.inr ho)]

/-- A set joins the broken set list at a station without tray and without image wait (R20, R21, R113). -/
def State.brokenBy (s : State) (set : Nat) : State :=
  { s with
    reg := { s.reg with images := s.reg.images.filter fun e => e.tag.set != set }
    track := {
      broken := (if s.track.broken.length < 8 then s.track.broken else s.track.broken.drop 1) ++ [set]
      queue := s.track.queue.map (Record.breakIn set) } }

theorem pushBroken_eq (set : Nat) (l : List Nat) :
    pushBroken set l = (if l.length < 8 then l else l.drop 1) ++ [set] := by
  unfold pushBroken
  by_cases h : l.length < 8
  · rw [if_neg (by omega), if_pos h]
  · rw [if_pos (by omega), if_neg h]

theorem addBroken_listed {s : State} {set : Nat} {why : DumpReason} (h : set ∈ s.track.broken) :
    addBroken set why s = s := if_pos (by simpa using h)

/-- At a station that is not EXIT no tray answers a broken set (R123, R126). -/
theorem answerBroken_of_role {s : State} {set : Nat} {why : DumpReason} (h : s.role ≠ .exit) :
    answerBroken set why s = s := if_neg h

theorem addBroken_eq {s : State} {set : Nat} {why : DumpReason} (h : set ∉ s.track.broken) (hr : s.role ≠ .exit)
    (hw : ∀ x ∈ s.track.queue, x.image ≠ some .waiting) (ho : s.ownHolds .imageWait = false) :
    addBroken set why s = s.brokenBy set := by
  have hb : addBroken set why s = answerBroken set why (reviewMarks (s.brokenBy set)) := by
    rw [addBroken, if_neg (by simpa using h), markSet, pushBroken_eq]
    rfl
  have hm : reviewMarks (s.brokenBy set) = s.brokenBy set := by
    refine reviewMarks_of_none (fun x hx => ?_) ho
    obtain ⟨y, hy, rfl⟩ := List.mem_map.mp hx
    rw [breakIn_image]
    exact hw y hy
  rw [hb, hm, answerBroken_of_role (s := s.brokenBy set) hr]

theorem exec_broken {h : Header} {set : Half} {s : State} (hh : s.hearsFrom h) (h1 : s.ctl.st ≠ .lockdown) :
    exec (.broken h set) s = .next (settle s (addBroken set.toNat .broken s)) := by
  rw [exec_heard rfl hh rfl]
  exact congrArg Host.Outcome.next
    (admit_anyone (h := h) (body := fun s => settle s (addBroken set.toNat .broken s)) h1)

theorem quiet_brokenBy {s : State} {set : Nat} (hq : s.quiet) : (s.brokenBy set).quiet :=
  quiet_mapped hq (breakIn_offerOwed set) rfl rfl rfl rfl

/-- What the break of a set leaves due as before (R72, R108, R135). -/
theorem dues_brokenBy (s : State) (set : Nat) :
    (s.brokenBy set).stopDue = s.stopDue ∧ (s.brokenBy set).trayDue = s.trayDue ∧
      (s.brokenBy set).loopDue = s.loopDue :=
  dues_mapped (breakIn_face set) rfl rfl rfl ⟨rfl, rfl⟩ rfl

/-- No LOOP record goes where each is of another set or has its route ALT (R100). -/
theorem loopEnded_brokenBy {s : State} {set : Nat}
    (h : ∀ x ∈ s.track.queue, x.isLoop = true → x.tag.set ≠ set ∨ x.route = some .alt) :
    (s.brokenBy set).loopEnded s = false := by
  unfold State.loopEnded
  simp only [Bool.and_eq_false_iff, List.any_eq_false]
  refine .inr fun r hr => ?_
  cases e : r.isLoop with
  | false => simp
  | true =>
    have hm : Record.breakIn set r ∈ (s.brokenBy set).track.queue := List.mem_map_of_mem hr
    simp only [Bool.true_and, Bool.not_eq_true', Bool.not_eq_false]
    exact List.any_eq_true.mpr ⟨_, hm, by simp [breakIn_tag, breakIn_isLoop (h r hr e), e]⟩

/-- Where every LOOP record goes, one has gone (R100). -/
theorem loopEnded_of_all {b s : State} (hr : s.role = .invert) (hb : ∃ x ∈ b.track.queue, x.isLoop = true)
    (hs : ∀ x ∈ s.track.queue, x.isLoop = false) : s.loopEnded b = true := by
  obtain ⟨x, hx, hl⟩ := hb
  unfold State.loopEnded
  simp only [hr, decide_true, Bool.true_and, List.any_eq_true]
  refine ⟨x, hx, ?_⟩
  simp only [hl, Bool.true_and, Bool.not_eq_true', List.any_eq_false]
  intro y hy
  simp [hs y hy]

/-- No cause stops an offer in RUNNING where no LOOP record is left (R78). -/
theorem judge_unlooped {s : State} {side : UpSide} {o : Offer} (hst : s.ctl.st = .running)
    (hlo : ∀ x ∈ s.track.queue, x.isLoop = false) (ho : s.slot side.other = none) (hh : s.drive.hold = [])
    (hlen : s.track.queue.length < 8) (hr : ∀ r ∈ s.track.queue, r.tag ≠ o.tag ∧ r.occupiesEntry = false)
    (hg : o.marks.ghost = false) : s.judge side o = .free := by
  have h1 : s.held o.tag = false := held_of_absent fun r h => (hr r h).1
  have h2 : s.entryOccupied = false := by
    simp only [State.entryOccupied, List.any_eq_false]
    exact fun r h => by simp [(hr r h).2]
  have h3 : s.slotHolds side.other o.tag = false := by simp [State.slotHolds, ho]
  have h4 : ¬ 8 ≤ s.track.queue.length := by omega
  have h5 : s.track.queue.any Record.isLoop = false := by
    simp only [List.any_eq_false]
    exact fun r h => by simp [hlo r h]
  simp [State.judge, hh, hst, State.ghostBarred, hg, h1, h2, h3, h4, h5]

/-- The only offer that waits, which no cause stops, is taken at an examination (R80, R81). -/
theorem examineSlots_up1 {s : State} {o : Offer} (h1 : s.hand.slot1 = some o) (h2 : s.hand.slot2 = none)
    (hj : s.judge .up1 o = .free) (hg : o.marks.ghost = false) (hb : o.marks.broken = false)
    (hl : o.tag.set ∉ s.track.broken) (hs : s.track.queue = [] ∨ o.speed = s.drive.speed) :
    examineSlots s = s.tookUp1 o := by
  have e1 : examineSlot .up1 s = s := by
    have : s.slot .up1 = some o := h1
    simp [examineSlot, this, hj]
  have e2 : examineSlot .up2 s = s := by
    have : s.slot .up2 = none := h2
    simp [examineSlot, this]
  rw [examineSlots, e1, e2, takeFree_up1 h1 h2 hj hg hb hl hs]

/-- Settles O41: HALT raises HALTED in the stepping states, BROKEN lists its set. -/
theorem haltAndBrokenAreHeard : Obligations.HaltAndBrokenAreHeard := by
  unfold Obligations.HaltAndBrokenAreHeard
  refine ⟨?_, ?_, ?_⟩
  · intro h code s hh h1
    rw [exec_heard rfl hh rfl]
    refine congrArg Host.Outcome.next (Eq.trans (admit_anyone (h := h) h1) ?_)
    unfold haltHeard
    split
    · rename_i hs
      rw [raise_of_pends (steps_faultsPend hs)]
      rfl
    · rfl
  · intro h set s hh h1 hr hw ho hq hl
    rw [exec_broken hh h1]
    refine congrArg Host.Outcome.next ?_
    by_cases hm : set.toNat ∈ s.track.broken
    · rw [addBroken_listed hm, if_pos hm]
      exact settle_same hq rfl rfl rfl rfl rfl
    · rw [addBroken_eq hm hr hw ho, if_neg hm]
      obtain ⟨d1, d2, d3⟩ := dues_brokenBy s set.toNat
      refine Eq.trans (settle_quiet (quiet_brokenBy hq) (.inr d1) d2 (.inr d3) ?_) rfl
      by_cases hi : s.role = .invert
      · exact (hl hi).symm.imp loopEnded_brokenBy id
      · exact .inl (loopEnded_of_role hi)
  · intro h set o s hh hst hro hw ho hq hm hb hlo h1 h2 hhold hlen hr hg hbr hne hnl hsp u
    have hlast : ∀ x ∈ (s.brokenBy set.toNat).track.queue, x.isLoop = false := by
      intro x hx
      obtain ⟨y, hy, rfl⟩ := List.mem_map.mp hx
      cases e : y.isLoop with
      | false => exact breakIn_noLoop e
      | true => exact breakIn_ends e (hlo y hy e).1 (hlo y hy e).2
    have hj : (s.brokenBy set.toNat).judge .up1 o = .free := by
      refine judge_unlooped hst hlast h2 hhold (by simpa [State.brokenBy] using hlen) ?_ hg
      intro x hx
      obtain ⟨y, hy, rfl⟩ := List.mem_map.mp hx
      rw [breakIn_tag, breakIn_occupiesEntry]
      exact hr y hy
    have hnb : o.tag.set ∉ (s.brokenBy set.toNat).track.broken := by
      simp only [State.brokenBy, List.mem_append, List.mem_singleton, hne, or_false]
      split
      · exact hnl
      · exact fun hd => hnl (List.mem_of_mem_drop hd)
    have hse : s.role ≠ .exit := by simp [hro]
    rw [exec_broken hh (by simp [hst]), addBroken_eq hm hse hw ho,
      settle_examined (quiet_brokenBy hq) (dues_brokenBy s set.toNat) (loopEnded_of_all hro hb hlast),
      examineSlots_up1 (s := s.brokenBy set.toNat) h1 h2 hj hg hbr hnb (.inr hsp)]
    exact congrArg (fun t => Host.Outcome.next (settleDrive t)) (sendDuplicateReadies_of_none hq.2.1 hq.2.2.1)

end Sys2Proof.Machine

/-! PROOFS. PASS (R83) and ARRIVED (R76) heard. -/

namespace Sys2Proof.Machine

/-! ### Events that change records in place -/

/-- A change that leaves a record where it is in the queue, on its route, at its thresholds, and a LOOP record or not
(R26, R72, R100, R108, R135). -/
structure Record.Reshaped (r x : Record) : Prop where
  tag : x.tag = r.tag
  exiting : x.place = .exiting ↔ r.place = .exiting
  route : x.route = r.route
  reached : x.reached = r.reached
  loop : x.isLoop = r.isLoop

theorem find?_map_of_mem {p q : Record → Bool} {f : Record → Record} {l : List Record}
    (hf : ∀ r ∈ l, p (f r) = q r) : (l.map f).find? p = (l.find? q).map f := by
  rw [List.find?_map]
  exact congrArg _ (List.find?_congr hf)

theorem any_map_of_mem {p q : Record → Bool} {f : Record → Record} {l : List Record}
    (hf : ∀ r ∈ l, p (f r) = q r) : (l.map f).any p = l.any q := by
  rw [Bool.eq_iff_iff, List.any_map, List.any_eq_true, List.any_eq_true]
  exact exists_congr fun r => and_congr_right fun hr => by rw [Function.comp_apply, hf r hr]

/-- An event that reshapes records, and makes none untaken, settles in the Drive Unit alone. -/
theorem settle_reshaped {b s : State} {f : Record → Record} (hq : s.quiet) (ht : s.track.queue = b.track.queue.map f)
    (hf : ∀ r ∈ b.track.queue, r.Reshaped (f r))
    (hu : ∀ r ∈ b.track.queue, s.untaken (f r) = true → b.untaken r = true)
    (hc : s.ctl.strap = b.ctl.strap) (hi : (s.inv.seq = .blocked ↔ b.inv.seq = .blocked) ∧ s.inv.loop = b.inv.loop)
    (ho : s.comp.op = b.comp.op) : settle b s = settleDrive s := by
  have hro : s.role = b.role := by unfold State.role; rw [hc]
  refine settle_quiet hq ?_ ?_ (.inr ?_) (.inl ?_)
  · unfold State.stopDue
    rw [hro, ht, find?_map_of_mem (q := fun r => decide (r.place ≠ .exiting) &&
      !(decide (b.role = .invert) && decide (r.route = some .alt))) fun r hr => by
        simp only [(hf r hr).route, ne_eq, (hf r hr).exiting]]
    by_cases hx : b.role = Role.exit
    · exact .inl (if_pos hx)
    · rw [if_neg hx, if_neg hx]
      cases hfd : b.track.queue.find? _ with
      | none => exact .inl rfl
      | some r =>
        have hm := List.mem_of_find?_eq_some hfd
        simp only [Option.map_some, (hf r hm).tag, (hf r hm).reached]
        by_cases hun : s.untaken (f r) = true
        · rw [hun, hu r hm hun]
          exact .inr rfl
        · rw [if_neg fun hc => hun hc.2]
          exact .inl rfl
  · unfold State.trayDue
    rw [hro, ho, ht, any_map_of_mem (q := fun r => decide (r.route = some .main) && r.reached.compileStop)
      fun r hr => by simp only [(hf r hr).route, (hf r hr).reached]]
  · unfold State.loopDue
    rw [hi.2, ht, any_map_of_mem (q := fun r => (b.inv.loop == some r.tag) && decide (r.place = .exiting))
      fun r hr => by simp only [(hf r hr).tag, (hf r hr).exiting], decide_eq_decide.mpr hi.1]
  · unfold State.loopEnded
    rw [ht]
    simp only [Bool.and_eq_false_iff, List.any_eq_false]
    refine .inr fun r hr => ?_
    cases e : r.isLoop with
    | false => simp
    | true =>
      simp only [Bool.true_and, Bool.not_eq_true', Bool.not_eq_false]
      exact List.any_eq_true.mpr ⟨f r, List.mem_map_of_mem hr, by simp [(hf r hr).tag, (hf r hr).loop, e]⟩

/-! ### The record a frame names (R76, R83) -/

/-- A record of a sound queue is the only one of its tag (R11). -/
theorem eq_of_tag {s : State} {r x : Record} (hs : s.queueSound) (hr : r ∈ s.track.queue) (hx : x ∈ s.track.queue)
    (h : x.tag = r.tag) : x = r := List.inj_on_of_nodup_map hs.2 hx hr h

/-- A search by tag and more finds the record of the tag that meets the rest. -/
theorem find?_of_sound {s : State} {r : Record} {p : Record → Bool} (hs : s.queueSound) (hr : r ∈ s.track.queue)
    (hp : p r = true) (ht : ∀ x, p x = true → x.tag = r.tag) : s.track.queue.find? p = some r := by
  cases hf : s.track.queue.find? p with
  | none => exact absurd hp (List.find?_eq_none.mp hf r hr)
  | some x => rw [eq_of_tag hs hr (List.mem_of_find?_eq_some hf) (ht x (List.find?_some hf))]

/-! ### READY where a duplicate is gone (R82) -/

theorem sendReady_up1_any (p : Deferral → Bool) (s : State) :
    sendReady p .up1 s = { s with
      port := if s.hand.deferred1.any p then s.port.post s.up1 .ready else s.port
      hand := { s.hand with deferred1 := if s.hand.deferred1.any p then none else s.hand.deferred1 } } := by
  have ho : s.owesReady p .up1 = s.hand.deferred1.any p := by
    simp only [State.owesReady, State.deferral]
    cases s.hand.deferred1 <;> rfl
  unfold sendReady
  rw [ho]
  split <;> rfl

theorem sendReady_up2_any (p : Deferral → Bool) (s : State) :
    sendReady p .up2 s = { s with
      port := if s.hand.deferred2.any p then s.port.post s.up2 .ready else s.port
      hand := { s.hand with deferred2 := if s.hand.deferred2.any p then none else s.hand.deferred2 } } := by
  have ho : s.owesReady p .up2 = s.hand.deferred2.any p := by
    simp only [State.owesReady, State.deferral]
    cases s.hand.deferred2 <;> rfl
  unfold sendReady
  rw [ho]
  split <;> rfl

theorem sendDuplicateReadies_eq (s : State) :
    sendDuplicateReadies s = { s with
      port :=
        let told := if s.hand.deferred1.any (s.dupGone .up1) then s.port.post s.up1 .ready else s.port
        if s.hand.deferred2.any (s.dupGone .up2) then told.post s.up2 .ready else told
      hand := { s.hand with
        deferred1 := if s.hand.deferred1.any (s.dupGone .up1) then none else s.hand.deferred1
        deferred2 := if s.hand.deferred2.any (s.dupGone .up2) then none else s.hand.deferred2 } } := by
  unfold sendDuplicateReadies
  rw [sendReady_up1_any, sendReady_up2_any]
  rfl

/-- A duplicate is gone when no record and no offer in the other slot carries it (R82). -/
theorem dupGone_eq (s : State) (side : UpSide) (d : Deferral) :
    s.dupGone side d = decide (d.reason = .duplicate ∧ (∀ y ∈ s.track.queue, d.dup ≠ some y.tag) ∧
      (∀ o ∈ s.slot side.other, d.dup ≠ some o.tag)) := by
  unfold State.dupGone
  cases hd : d.dup with
  | none => simp
  | some t =>
    have h1 : (!s.held t) = decide (∀ y ∈ s.track.queue, some t ≠ some y.tag) := by
      rw [Bool.eq_iff_iff, decide_eq_true_iff]
      simp only [State.held, State.rec?, Bool.not_eq_true', Option.isSome_eq_false_iff, Option.isNone_iff_eq_none,
        List.find?_eq_none, beq_iff_eq, ne_eq, Option.some.injEq]
      exact forall₂_congr fun y _ => not_congr eq_comm
    have h2 : (!s.slotHolds side.other t) = decide (∀ o ∈ s.slot side.other, some t ≠ some o.tag) := by
      unfold State.slotHolds
      cases s.slot side.other with
      | none => simp
      | some o =>
        rw [Bool.eq_iff_iff, decide_eq_true_iff]
        simp only [Bool.not_eq_true', beq_eq_false_iff_ne, ne_eq, Option.mem_some_iff, forall_eq', Option.some.injEq]
        exact not_congr eq_comm
    simp only [h1, h2, Bool.decide_and]

/-! ### PASS and ARRIVED -/

theorem exec_pass {h : Header} {t : FrameTag} {s : State} (hh : s.hearsUpstream h) (h1 : s.ctl.st ≠ .lockdown)
    (h2 : s.ctl.st ≠ .unconfigured) : exec (.pass h t) s = .next (passHeard h.src.toNat t s) := by
  rw [exec_heard rfl hh.1 rfl]
  exact congrArg Host.Outcome.next (admit_upstream hh h1 h2)

theorem exec_arrived {h : Header} {t : FrameTag} {s : State} (hh : s.hearsDownstream h) (h1 : s.ctl.st ≠ .lockdown)
    (h2 : s.ctl.st ≠ .unconfigured) : exec (.arrived h t) s = .next (arrivedHeard h.src.toNat t s) := by
  rw [exec_heard rfl hh.1 rfl]
  exact congrArg Host.Outcome.next (admit_downstream hh h1 h2)

/-- An expected record enters where there is no hold (R5, R83). -/
theorem enterRecord_eq {s : State} {r : Record} (h : s.drive.hold = []) :
    enterRecord r s = { s with track := { s.track with
      queue := s.track.queue.map fun x =>
        if x.tag = r.tag then
          { x with
            place := .entering, lead := 0, odo := 0, ref := 0, next := some 0
            window := if x.marks.ghost then none else some (s.windowAt x.dir 0 0) }
        else x } } := by
  unfold enterRecord
  rw [extendHolds_of_empty (by exact h)]
  simp [mapRec, State.windowOf]

/-- An event at a plain station after which no own reason is due anew and no OFFER is owed: READY where a duplicate has
gone, then the Drive Unit. -/
theorem settle_left {b s : State} (hr : s.role = .feed ∨ s.role = .transport) (hc : s.ctl.strap = b.ctl.strap)
    (ho : ∀ x ∈ s.track.queue, x.offerOwed = false) (hs : s.stopDue = b.stopDue) (hl : s.inv.loop = none) :
    settle b s = settleDrive (sendDuplicateReadies s) := by
  have hro : b.role = s.role := by unfold State.role; rw [hc]
  have hne : s.role ≠ .exit ∧ s.role ≠ .invert := by rcases hr with h | h <;> simp [h]
  have e1 : settleStop b s = s := by
    unfold settleStop
    rw [hs]
    split
    · rfl
    · rename_i t et
      simp [et]
  have e2 : settleTray b s = s := by simp [settleTray, State.trayDue, hro, hne.1]
  have e3 : settleLoop b s = s := by simp [settleLoop, State.loopDue, hl]
  unfold settle settleHolds
  rw [sendOffers_of_none_owed ho, e1, e2, e3, settleSlots_of_none (.inl (loopEnded_of_role hne.2))]

/-- The head record that is not EXITING stays the same when an EXITING one leaves (R72). -/
theorem stopDue_left {b s : State} {t : Tag} (ht : s.track.queue = b.track.queue.filter fun x => x.tag != t)
    (hx : ∀ x ∈ b.track.queue, x.tag = t → x.place = .exiting) (hc : s.ctl.strap = b.ctl.strap)
    (hp : s.cfg.params = b.cfg.params) : s.stopDue = b.stopDue := by
  have hro : s.role = b.role := by unfold State.role; rw [hc]
  unfold State.stopDue
  rw [hro, ht, List.find?_filter]
  have he : ∀ x ∈ b.track.queue,
      decide ((x.tag != t) = true ∧ (decide (x.place ≠ .exiting) &&
        !(decide (b.role = .invert) && decide (x.route = some .alt))) = true) =
      (decide (x.place ≠ .exiting) && !(decide (b.role = .invert) && decide (x.route = some .alt))) := by
    intro x hm
    by_cases hxt : x.tag = t
    · simp [hx x hm hxt]
    · simp [hxt]
  rw [List.find?_congr he]
  split
  · rfl
  · simp only [untaken_congr (b := b) rfl rfl hc hp]

/-- The record whose arrival downstream has been seen (R76). -/
def Record.seen (r : Record) : Record := { r with arrival := true }

/-- ARRIVED for a record that is EXITING to its sender: its arrival is seen, and it leaves where its trail is out
(R76). -/
theorem arrivedHeard_of_exiting {s : State} {r : Record} {src : Nat} {t : FrameTag} (hs : s.queueSound)
    (hr : r ∈ s.track.queue) (ht : r.tag = keyOf t) (hpl : r.place = .exiting) (hd : s.downstream r = src) :
    arrivedHeard src t s = settle s (if s.trailOut r = true then leaveQueue r.seen (mapRec r.tag Record.seen s)
      else mapRec r.tag Record.seen s) := by
  have hf : s.exitingTo src (keyOf t) = some r :=
    find?_of_sound hs hr (by simp [ht, hpl, hd]) fun x hx => by simp_all
  have hm : (mapRec r.tag Record.seen s).rec? r.tag = some r.seen := by
    rw [rec?_mapRec (f := Record.seen) (fun _ => rfl), rec?_of_mem hs hr]
    rfl
  have he : testExitTrail r.tag (mapRec r.tag Record.seen s) =
      if s.trailOut r = true then leaveQueue r.seen (mapRec r.tag Record.seen s) else mapRec r.tag Record.seen s := by
    refine (onRec_of_rec? hm _).trans ?_
    by_cases ho : s.trailOut r = true
    · rw [if_pos ho]
      exact if_pos ⟨hpl, rfl, ho⟩
    · rw [if_neg ho]
      exact if_neg fun hc => ho hc.2.2
  unfold arrivedHeard
  rw [hf]
  exact congrArg (settle s) he

/-- The other records of the queue, where one is changed in anything but its tag. -/
theorem filter_mapRec {s : State} {t : Tag} {f : Record → Record} (hf : ∀ r, (f r).tag = r.tag) :
    (mapRec t f s).track.queue.filter (fun x => x.tag != t) = s.track.queue.filter fun x => decide (x.tag ≠ t) := by
  show (s.track.queue.map fun x => if x.tag = t then f x else x).filter _ = _
  induction s.track.queue with
  | nil => rfl
  | cons a l ih =>
    by_cases ha : a.tag = t
    · simpa [ha, hf] using ih
    · simpa [ha] using ih

/-- The record whose arrival has been seen leaves a station that has nothing at a gate, no loop record and no image wait
(R14, R76). -/
theorem leaveQueue_seen {s : State} (hmove : s.gate.move = .none) (hlist : s.gate.list = [])
    (hocc : s.gate.occupant = none) (hloop : s.inv.loop = none) (himg : s.ownHolds .imageWait = false) (r : Record) :
    leaveQueue r.seen (mapRec r.tag Record.seen s) = { s with
      track := { s.track with queue := s.track.queue.filter fun x => decide (x.tag ≠ r.tag) }
      flt := s.flt.forgetting r.tag
      sens := { s.sens with
        sensors := s.sens.sensors.map fun q =>
          if q.owner = some r.tag then { q with owner := none, confirmed := false, stalled := false } else q }
      feed := { s.feed with pick := if s.feed.pick = some r.tag then none else s.feed.pick }
      hand := { s.hand with givenUp := if s.hand.givenUp = some r.tag then none else s.hand.givenUp }
      sweep := if r.marks.ghost = true ∧ r.last = true then { s.sweep with lastSeen := true } else s.sweep } := by
  have hleft := filter_mapRec (s := s) (t := r.tag) (f := Record.seen) fun _ => rfl
  rw [leaveQueue_eq (s := mapRec r.tag Record.seen s) (r := r.seen) hmove hlist (by rw [mapRec_gate, hocc]; simp)
    (by rw [mapRec_inv, hloop]; simp) himg, show r.seen.tag = r.tag from rfl, hleft]
  rfl

theorem dupGone_any (s : State) (side : UpSide) (d : Option Deferral) :
    d.any (s.dupGone side) = d.any fun x => decide (x.reason = .duplicate ∧
      (∀ y ∈ s.track.queue, x.dup ≠ some y.tag) ∧ (∀ o ∈ s.slot side.other, x.dup ≠ some o.tag)) :=
  congrArg (d.any ·) (funext (dupGone_eq s side))

/-- Settles O42: PASS and ARRIVED find the record they name, or none. -/
theorem passAndArrivedAreHeard : Obligations.PassAndArrivedAreHeard := by
  unfold Obligations.PassAndArrivedAreHeard
  refine ⟨?_, ?_, ?_, ?_, ?_⟩
  · intro h t r s hh h1 h2 hs hq hhold hr ht hpl hup
    have hf : s.expectedFrom h.src.toNat (keyOf t) = some r :=
      find?_of_sound hs hr (by simp [ht, hpl, hup]) fun x hx => by simp_all
    rw [exec_pass hh h1 h2, passHeard, hf]
    dsimp only
    rw [enterRecord_eq hhold, ht]
    refine congrArg Host.Outcome.next (settle_reshaped ⟨?_, hq.2⟩ rfl ?_ ?_ rfl ⟨Iff.rfl, rfl⟩ rfl)
    · intro x hx
      obtain ⟨y, hy, rfl⟩ := List.mem_map.mp hx
      split <;> exact hq.1 y hy
    · intro x hx
      split
      · rename_i hxt
        obtain rfl := eq_of_tag hs hr hx (hxt.trans ht.symm)
        exact ⟨rfl, by simp [hpl], rfl, rfl, rfl⟩
      · exact ⟨rfl, Iff.rfl, rfl, rfl, rfl⟩
    · intro x hx hu
      split at hu <;> exact hu
  · intro h t s hh h1 h2 hn
    have hf : s.expectedFrom h.src.toNat (keyOf t) = none := by
      refine List.find?_eq_none.mpr fun x hx => ?_
      simp only [Bool.and_eq_true, beq_iff_eq, decide_eq_true_iff]
      exact fun ⟨⟨hxt, hxp⟩, hxu⟩ => hn x hx hxt hxp hxu
    rw [exec_pass hh h1 h2, passHeard, hf]
    dsimp only
    split
    · rename_i hst
      rw [raise_of_pends (steps_faultsPend hst)]
      rfl
    · rfl
  · intro h t r s hh h1 h2 hs hq hr ht hpl hd hout
    rw [exec_arrived hh h1 h2, arrivedHeard_of_exiting hs hr ht hpl hd, if_neg (by simp [hout]), mapRec, ht]
    refine congrArg Host.Outcome.next (settle_reshaped ⟨?_, hq.2⟩ rfl ?_ ?_ rfl ⟨Iff.rfl, rfl⟩ rfl)
    · intro x hx
      obtain ⟨y, hy, rfl⟩ := List.mem_map.mp hx
      split <;> exact hq.1 y hy
    · intro x hx
      split <;> exact ⟨rfl, Iff.rfl, rfl, rfl, rfl⟩
    · intro x hx hu
      split at hu <;> exact hu
  · intro h t s hh h1 h2 hn
    have hf : s.exitingTo h.src.toNat (keyOf t) = none := by
      refine List.find?_eq_none.mpr fun x hx => ?_
      simp only [Bool.and_eq_true, beq_iff_eq, decide_eq_true_iff]
      exact fun ⟨⟨hxt, hxp⟩, hxd⟩ => hn x hx hxt hxp hxd
    rw [exec_arrived hh h1 h2, arrivedHeard, hf]
    rfl
  · intro h t r s hh h1 h2 hs hro howed hmove hlist hocc hloop himg hr ht hpl hd hout left gone
    have hl := leaveQueue_seen (s := s) hmove hlist hocc hloop himg r
    rw [exec_arrived hh h1 h2, arrivedHeard_of_exiting hs hr ht hpl hd, if_pos hout, hl]
    refine congrArg Host.Outcome.next (Eq.trans (settle_left hro rfl ?_ ?_ hloop) ?_)
    · exact fun x hx => howed x (List.mem_of_mem_filter hx)
    · exact stopDue_left (List.filter_congr fun x _ => by by_cases hx : x.tag = r.tag <;> simp [hx])
        (fun x hx hxt => eq_of_tag hs hr hx hxt ▸ hpl) rfl rfl
    · rw [sendDuplicateReadies_eq]
      simp only [dupGone_any]
      rfl

end Sys2Proof.Machine

/-! PROOFS. OFFER heard (R77 to R81, R93, R168). -/

namespace Sys2Proof.Machine

/-! ### An examination of the slot an OFFER fills (R77) -/

theorem slot_setSlot (s : State) (x : Option Offer) (side : UpSide) :
    ({ s with hand := s.hand.setSlot x side } : State).slot side = x := by
  cases side <;> rfl

theorem slot_setSlot_other (s : State) (x : Option Offer) (side : UpSide) :
    ({ s with hand := s.hand.setSlot x side } : State).slot side.other = s.slot side.other := by
  cases side <;> rfl

/-- What stops an offer does not depend on what its own slot holds (R78). -/
theorem judge_setSlot (s : State) (x : Option Offer) (side : UpSide) (o : Offer) :
    ({ s with hand := s.hand.setSlot x side } : State).judge side o = s.judge side o := by
  cases side <;> rfl

theorem takeOfferFrame_lasting {s : State} {src : Nat} {o : Offer} {why : DeferReason}
    (h : s.judge (s.slotOf src) o = .lasting why) :
    takeOfferFrame src o s = deferOffer (s.slotOf src) o why { s with hand := s.hand.setSlot (some o) (s.slotOf src) } := by
  have he : examineSlot (s.slotOf src) { s with hand := s.hand.setSlot (some o) (s.slotOf src) } =
      deferOffer (s.slotOf src) o why { s with hand := s.hand.setSlot (some o) (s.slotOf src) } := by
    unfold examineSlot
    rw [slot_setSlot]
    dsimp only
    rw [judge_setSlot, h]
  have hn : (deferOffer (s.slotOf src) o why { s with hand := s.hand.setSlot (some o) (s.slotOf src) }).slotFree
      (s.slotOf src) = false := by
    have : (deferOffer (s.slotOf src) o why { s with hand := s.hand.setSlot (some o) (s.slotOf src) }).slot
        (s.slotOf src) = none := by
      unfold deferOffer
      dsimp only
      generalize s.slotOf src = side
      split
      · split <;> cases side <;> rfl
      · cases side <;> rfl
    simp [State.slotFree, this]
  unfold takeOfferFrame
  dsimp only
  rw [he, hn]
  rfl

theorem examineSlot_of_not {s : State} {side : UpSide} {o : Offer} (hs : s.slot side = some o)
    (h : ∀ why, s.judge side o ≠ .lasting why) : examineSlot side s = s := by
  unfold examineSlot
  rw [hs]
  dsimp only
  split
  · rename_i why hw
    exact absurd hw (h why)
  · rfl

theorem takeOfferFrame_waits {s : State} {src : Nat} {o : Offer} (h : s.judge (s.slotOf src) o = .waits) :
    takeOfferFrame src o s = { s with hand := s.hand.setSlot (some o) (s.slotOf src) } := by
  unfold takeOfferFrame
  dsimp only
  rw [examineSlot_of_not (slot_setSlot _ _ _) (by rw [judge_setSlot, h]; simp), if_neg]
  simp [State.slotFree, slot_setSlot, judge_setSlot, h]

theorem takeOfferFrame_free {s : State} {src : Nat} {o : Offer} (h : s.judge (s.slotOf src) o = .free) :
    takeOfferFrame src o s = takeFree { s with hand := s.hand.setSlot (some o) (s.slotOf src) } := by
  unfold takeOfferFrame
  dsimp only
  rw [examineSlot_of_not (slot_setSlot _ _ _) (by rw [judge_setSlot, h]; simp), if_pos]
  simp [State.slotFree, slot_setSlot, judge_setSlot, h]

/-- The only offer, which no cause stops, is taken from either side (R81, R93). -/
theorem takeFree_only {s : State} {side : UpSide} {o : Offer} (h1 : s.slot side = some o) (h2 : s.slot side.other = none)
    (hj : s.judge side o = .free) (hg : o.marks.ghost = false) (hb : o.marks.broken = false)
    (hl : o.tag.set ∉ s.track.broken) (hs : s.track.queue = [] ∨ o.speed = s.drive.speed) :
    takeFree s = { s with
      port := s.port.post (s.sideAddr side) (.take o.tag o.last)
      hand := { s.hand with
        slot1 := none, slot2 := none, lastSide := some side, streak := 0
        setInProgress := if o.side = .second then s.hand.setInProgress else if o.last then none else some o.tag.set }
      drive := { s.drive with speed := o.speed }
      track := { s.track with queue := s.track.queue ++
        [{ tag := o.tag, last := o.last, side := o.side, length := o.length, speed := o.speed, marks := o.marks,
           place := .expected, source := side.source, route := none, stage := .notOffered, arrival := false,
           dir := .forward, lead := 0, odo := 0, ref := 0, next := none, worst := 0, image := none, retries := 0,
           window := none, reached := Reached.none, offerOwed := false }] } } := by
  have e1 : s.slotFree side = true := by simp [State.slotFree, h1, hj]
  have e2 : s.slotFree side.other = false := by simp [State.slotFree, h2]
  have e3 : takeFree s = takeSide side false s := by
    unfold takeFree
    cases side
    · rw [show s.slotFree .up2 = false from e2, e1]
      simp
    · rw [show s.slotFree .up1 = false from e2, e1]
      simp
  have e4 : takeSide side false s = takeOffer side o { s with hand := s.hand.afterTake side false } := by
    simp [takeSide, h1]
  rw [e3, e4]
  unfold takeOffer
  rw [hg, noteSet_of_sheet, joinQueue_sound hg hb hl (by exact hs)]
  have h2' : ∀ y, side = y → s.slot y.other = none := fun y hy => hy ▸ h2
  cases side
  · have : s.hand.slot2 = none := h2
    simp [Handoff.afterTake, Handoff.setSlot, freshRecord, State.windowOf, this]
    rfl
  · have : s.hand.slot1 = none := h2
    simp [Handoff.afterTake, Handoff.setSlot, freshRecord, State.windowOf, this]
    rfl

/-! ### OFFER (R77, R78) -/

/-- The contents of a sheet frame are defined (R181). -/
theorem soundFields_of {f : SheetFields} (h1 : f.tag.seq ≠ 0#6) (h2 : f.side ≠ 3#2) : soundFields f = true := by
  simp only [soundFields, Bool.and_eq_true, decide_eq_true_iff, ne_eq]
  exact ⟨fun h => h1 (BitVec.eq_of_toNat_eq h), fun h => h2 (BitVec.eq_of_toNat_eq h)⟩

theorem exec_offer {h : Header} {f : SheetFields} {s : State} (hh : s.hearsUpstream h) (h1 : s.ctl.st ≠ .lockdown)
    (h2 : s.ctl.st ≠ .unconfigured) (hs : f.tag.seq ≠ 0#6) (hd : f.side ≠ 3#2) :
    exec (.offer h f) s = .next (settle s (takeOfferFrame h.src.toNat (offerOf f) s)) := by
  rw [exec_heard (c := .offer h f) rfl hh.1 (soundFields_of hs hd)]
  exact congrArg Host.Outcome.next (admit_upstream hh h1 h2)

/-- An OFFER fills the slot of its sender (R77). -/
theorem sideAddr_slotOf {s : State} {h : Header} (hh : s.hearsUpstream h) :
    s.sideAddr (s.slotOf h.src.toNat) = h.src.toNat := by
  unfold State.slotOf
  split
  · rename_i e
    exact e.symm
  · rename_i e
    exact (hh.2.2.resolve_left e).symm

/-- A lasting cause other than DUPLICATE is answered DEFER (R78). -/
theorem takeOfferFrame_defers {s : State} {h : Header} {o : Offer} {why : DeferReason} (hh : s.hearsUpstream h)
    (hj : s.judge (s.slotOf h.src.toNat) o = .lasting why) (hw : why ≠ .duplicate) :
    takeOfferFrame h.src.toNat o s = { s with
      port := s.port.post h.src.toNat (.defer o.tag o.last why)
      hand :=
        if h.src.toNat = s.up1 then { s.hand with slot1 := none, deferred1 := some { reason := why, dup := none } }
        else { s.hand with slot2 := none, deferred2 := some { reason := why, dup := none } } } := by
  rw [takeOfferFrame_lasting hj, deferOffer_eq hw]
  dsimp only
  have ha : ({ s with hand := s.hand.setSlot (some o) (s.slotOf h.src.toNat) } : State).sideAddr
      (s.slotOf h.src.toNat) = h.src.toNat := sideAddr_slotOf hh
  rw [ha]
  unfold State.slotOf
  split <;> rfl

/-- What an OFFER defers, not for a duplicate, keeps the state quiet. -/
theorem quiet_defers {s t : State} {why : DeferReason} {src : Nat} (hq : s.quiet) (hw : why ≠ .duplicate)
    (ht : t.track = s.track) (hi : t.inv = s.inv)
    (hh : t.hand = if src = s.up1 then { s.hand with slot1 := none, deferred1 := some { reason := why, dup := none } }
      else { s.hand with slot2 := none, deferred2 := some { reason := why, dup := none } }) : t.quiet := by
  have hn : ∀ d ∈ some ({ reason := why, dup := none } : Deferral), d.reason ≠ .duplicate :=
    fun d hd => Option.mem_some.mp hd ▸ hw
  refine ⟨ht ▸ hq.1, ?_, ?_, hi ▸ hq.2.2.2⟩
  · rw [hh]
    split
    · exact hn
    · exact hq.2.1
  · rw [hh]
    split
    · exact hq.2.2.1
    · exact hn

/-- The causes of R78 where no hold stands and the state takes offers. -/
theorem judge_open {s : State} {side : UpSide} {o : Offer}
    (hst : s.ctl.st = .running ∨ s.ctl.st = .draining ∨ s.ctl.st = .sweeping) (hh : s.drive.hold = [])
    (hg : o.marks.ghost = true → s.sweep.refused = true → s.ctl.st = .sweeping) :
    s.judge side o =
      if s.held o.tag = true ∨ s.slotHolds side.other o.tag = true then .lasting .duplicate
      else if s.ctl.st = .draining ∧ s.insideDrain o.side o.tag = false then .lasting .drain
      else if 8 ≤ s.track.queue.length then .waits
      else if s.entryOccupied = true then .waits
      else if s.role = .invert ∧ s.loopBound o = true ∧ s.track.queue.any Record.isLoop = true then .waits
      else .free := by
  have hb : s.ghostBarred o = false := by
    unfold State.ghostBarred
    cases h1 : o.marks.ghost
    · rfl
    · cases h2 : s.sweep.refused
      · rfl
      · simp [hg h1 h2]
  have hn : ¬ ((s.ctl.st ≠ .running ∧ s.ctl.st ≠ .draining ∧ s.ctl.st ≠ .sweeping) ∨ s.ghostBarred o = true) := by
    rw [hb]
    rcases hst with e | e | e <;> simp [e]
  unfold State.judge
  rw [if_neg (by simp [hh]), if_neg hn]

theorem held_of_mem {s : State} {r : Record} (hr : r ∈ s.track.queue) : s.held r.tag = true := by
  simp only [State.held, State.rec?, List.find?_isSome]
  exact ⟨r, hr, by simp⟩

/-- A slot that holds an offer of the tag (R78). -/
theorem slotHolds_iff {s : State} {side : UpSide} {t : Tag} :
    s.slotHolds side t = true ↔ ∃ o ∈ s.slot side, o.tag = t := by
  unfold State.slotHolds
  cases s.slot side <;> simp

/-- The other slot, by the sender of an OFFER. -/
theorem slot_other {s : State} (src : Nat) :
    s.slot (s.slotOf src).other = if src = s.up1 then s.hand.slot2 else s.hand.slot1 := by
  unfold State.slotOf
  split <;> rfl

/-- No upstream is deferred for a duplicate that is gone: no READY (R82). -/
theorem sendDuplicateReadies_of_there {s : State} (h1 : ∀ d ∈ s.hand.deferred1, s.dupGone .up1 d = false)
    (h2 : ∀ d ∈ s.hand.deferred2, s.dupGone .up2 d = false) : sendDuplicateReadies s = s := by
  have e1 : s.hand.deferred1.any (s.dupGone .up1) = false := by
    cases hd : s.hand.deferred1 with
    | none => rfl
    | some d => exact h1 d hd
  have e2 : s.hand.deferred2.any (s.dupGone .up2) = false := by
    cases hd : s.hand.deferred2 with
    | none => rfl
    | some d => exact h2 d hd
  rw [sendDuplicateReadies_eq, e1, e2]
  rfl

/-- An event that changes no record and leaves the duplicates where they are settles in the Drive Unit alone. -/
theorem settle_there {b s : State} (ho : ∀ r ∈ s.track.queue, r.offerOwed = false)
    (h1 : ∀ d ∈ s.hand.deferred1, s.dupGone .up1 d = false) (h2 : ∀ d ∈ s.hand.deferred2, s.dupGone .up2 d = false)
    (ht : s.track = b.track) (hc : s.ctl.strap = b.ctl.strap)
    (hp : s.cfg.params = b.cfg.params) (hi : s.inv = b.inv) (hop : s.comp.op = b.comp.op) :
    settle b s = settleDrive s := by
  obtain ⟨d1, d2, d3⟩ := dues_mapped (b := b) (s := s) (f := id) (fun _ => rfl) (by rw [ht, List.map_id]) hc hp
    ⟨by rw [hi], by rw [hi]⟩ hop
  have e1 : settleStop b s = s := by
    unfold settleStop
    rw [d1]
    split
    · rfl
    · rename_i t et
      simp [et]
  have e2 : settleTray b s = s := by
    unfold settleTray
    rw [d2]
    cases b.trayDue <;> simp
  have e3 : settleLoop b s = s := by
    unfold settleLoop
    rw [d3]
    cases b.loopDue <;> simp
  unfold settle settleHolds
  rw [sendOffers_of_none_owed ho, e1, e2, e3, settleSlots_of_none (.inl (loopEnded_same (congrArg _ ht))),
    sendDuplicateReadies_of_there h1 h2]

/-- A deferral for a duplicate that a record or the other slot still carries (R82). -/
theorem dupGone_there {s : State} {side : UpSide} {t : Tag} (h : s.held t = true ∨ s.slotHolds side.other t = true) :
    s.dupGone side { reason := .duplicate, dup := some t } = false := by
  rcases h with h | h <;> simp [State.dupGone, h]

theorem dupGone_of_ne {s : State} {side : UpSide} {d : Deferral} (h : d.reason ≠ .duplicate) :
    s.dupGone side d = false := by
  simp [State.dupGone, h]

/-- A duplicate is answered DEFER, and SEQUENCE raised against the record that holds it if one does (R78). -/
theorem takeOfferFrame_duplicate {s : State} {h : Header} {o : Offer} (hh : s.hearsUpstream h)
    (hj : s.judge (s.slotOf h.src.toNat) o = .lasting .duplicate) (hf : s.ctl.st.faultsPend = true) :
    takeOfferFrame h.src.toNat o s = { s with
      port := s.port.post h.src.toNat (.defer o.tag o.last .duplicate)
      hand :=
        if h.src.toNat = s.up1 then
          { s.hand with slot1 := none, deferred1 := some { reason := .duplicate, dup := some o.tag } }
        else { s.hand with slot2 := none, deferred2 := some { reason := .duplicate, dup := some o.tag } }
      flt := (s.flt.count .sequence).pend
        (match s.rec? o.tag with
         | some r => { requestFor .sequence r none none with last := o.last }
         | none => requestBare .sequence (some o.tag) o.last none) } := by
  rw [takeOfferFrame_lasting hj]
  have ha : ({ s with hand := s.hand.setSlot (some o) (s.slotOf h.src.toNat) } : State).sideAddr
      (s.slotOf h.src.toNat) = h.src.toNat := sideAddr_slotOf hh
  have hr : ({ s with hand := s.hand.setSlot (some o) (s.slotOf h.src.toNat) } : State).rec? o.tag = s.rec? o.tag := rfl
  unfold deferOffer
  dsimp only
  rw [if_pos rfl, ha, hr]
  unfold State.slotOf
  cases s.rec? o.tag <;> dsimp only <;> rw [raise_of_pends (by exact hf)] <;> split <;> rfl

/-- What a duplicate's DEFER leaves at the deferrals: its own, not gone, and the other as it was. -/
theorem settle_duplicate {b s : State} {t : Tag} {src : Nat} (hq : b.quiet) (ht : s.track = b.track)
    (hc : s.ctl.strap = b.ctl.strap) (hp : s.cfg.params = b.cfg.params) (hi : s.inv = b.inv)
    (hop : s.comp.op = b.comp.op)
    (hh : s.hand = if src = b.up1 then
        { b.hand with slot1 := none, deferred1 := some { reason := .duplicate, dup := some t } }
      else { b.hand with slot2 := none, deferred2 := some { reason := .duplicate, dup := some t } })
    (hd : b.held t = true ∨ b.slotHolds (b.slotOf src).other t = true) : settle b s = settleDrive s := by
  have hheld : s.held t = b.held t := by simp only [State.held, State.rec?, ht]
  refine settle_there (ht ▸ hq.1) ?_ ?_ ht hc hp hi hop
  · intro d hm
    rw [hh] at hm
    split at hm
    · rename_i e
      rw [← Option.mem_some.mp hm]
      refine dupGone_there (hd.imp (hheld.trans ·) fun hd => ?_)
      simp only [State.slotOf, if_pos e] at hd
      simp only [State.slotHolds, State.slot, UpSide.other, hh, if_pos e]
      exact hd
    · exact dupGone_of_ne (hq.2.1 d hm)
  · intro d hm
    rw [hh] at hm
    split at hm
    · exact dupGone_of_ne (hq.2.2.1 d hm)
    · rename_i e
      rw [← Option.mem_some.mp hm]
      refine dupGone_there (hd.imp (hheld.trans ·) fun hd => ?_)
      simp only [State.slotOf, if_neg e] at hd
      simp only [State.slotHolds, State.slot, UpSide.other, hh, if_neg e]
      exact hd

/-- Settles O46: the cause R78 finds decides what an OFFER meets. -/
theorem offerIsDeferredOrTaken : Obligations.OfferIsDeferredOrTaken := by
  unfold Obligations.OfferIsDeferredOrTaken
  have open_listens : ∀ s : State, (s.ctl.st = .running ∨ s.ctl.st = .draining ∨ s.ctl.st = .sweeping) →
      s.ctl.st ≠ .lockdown ∧ s.ctl.st ≠ .unconfigured ∧ s.ctl.st.faultsPend = true := by
    rintro s (e | e | e) <;> simp [e, StationState.faultsPend]
  refine ⟨?_, ?_, ?_, ?_, ?_, ?_⟩
  · intro h f s why hh h1 h2 hs hd hq hc
    have hw : why ≠ .duplicate := by rcases hc with ⟨-, rfl⟩ | ⟨-, -, -, -, rfl⟩ | ⟨-, -, -, -, rfl⟩ <;> simp
    have hj : s.judge (s.slotOf h.src.toNat) (offerOf f) = .lasting why := by
      unfold State.judge
      rcases hc with ⟨hh, rfl⟩ | ⟨hh, a, b, c, rfl⟩ | ⟨hh, a, b, c, rfl⟩
      · rw [if_pos hh]
      · rw [if_neg (by simp [hh]), if_pos (.inl ⟨a, b, c⟩)]
      · have hg : (offerOf f).marks.ghost = true := b
        have hb : s.ghostBarred (offerOf f) = true := by
          rcases a with a | a <;> simp [State.ghostBarred, hg, c, a]
        rw [if_neg (by simp [hh]), if_pos (.inr hb)]
    rw [exec_offer hh h1 h2 hs hd, takeOfferFrame_defers hh hj hw]
    exact congrArg Host.Outcome.next (settle_same (quiet_defers hq hw rfl rfl rfl) rfl rfl rfl rfl rfl)
  · intro h f s hh hst hro hs hd hhold hlen hr hg hb hl hsp hq hother o side
    have hside : s.slotOf h.src.toNat = side := rfl
    have ho : s.slot side.other = none := by
      rw [← hside, slot_other]
      split at hother <;> simp_all
    have hj : s.judge side (offerOf f) = .free := judge_running hst hro ho hhold hlen hr hg
    rw [exec_offer hh (by simp [hst]) (by simp [hst]) hs hd, takeOfferFrame_free hj, hside,
      takeFree_only (side := side) (slot_setSlot _ _ _) ((slot_setSlot_other _ _ _).trans ho)
        ((judge_setSlot _ _ _ _).trans hj) hg hb hl hsp]
    refine congrArg Host.Outcome.next (Eq.trans (settle_joined ⟨rfl, rfl, rfl, by simp⟩ hq rfl ?_ ?_ rfl rfl rfl rfl) ?_)
    · cases side <;> rfl
    · cases side <;> rfl
    · have ha : s.sideAddr side = h.src.toNat := sideAddr_slotOf hh
      rw [show ({ s with hand := s.hand.setSlot (some (offerOf f)) side } : State).sideAddr side = _ from ha]
      cases side <;> rfl
  · intro h f r s hh hst hhold hg hs hd hq hqs hr ht
    obtain ⟨h1, h2, h3⟩ := open_listens s hst
    have ht' : r.tag = (offerOf f).tag := ht
    have hheld : s.held (offerOf f).tag = true := ht' ▸ held_of_mem hr
    have hj : s.judge (s.slotOf h.src.toNat) (offerOf f) = .lasting .duplicate := by
      rw [judge_open hst hhold hg, if_pos (.inl hheld)]
    have hrec : s.rec? (offerOf f).tag = some r := ht' ▸ rec?_of_mem hqs hr
    rw [exec_offer hh h1 h2 hs hd, takeOfferFrame_duplicate hh hj h3, hrec]
    refine congrArg Host.Outcome.next
      (Eq.trans (settle_duplicate (t := (offerOf f).tag) (src := h.src.toNat) hq rfl rfl rfl rfl rfl rfl (.inl hheld)) ?_)
    rw [← ht']
    rfl
  · intro h f o s hh hst hhold hg hs hd hq hr ht hother
    obtain ⟨h1, h2, h3⟩ := open_listens s hst
    have hslot : s.slotHolds (s.slotOf h.src.toNat).other (offerOf f).tag = true := by
      refine slotHolds_iff.mpr ⟨o, ?_, ht⟩
      rw [slot_other]
      split at hother <;> simp_all
    have hj : s.judge (s.slotOf h.src.toNat) (offerOf f) = .lasting .duplicate := by
      rw [judge_open hst hhold hg, if_pos (.inr hslot)]
    have hrec : s.rec? (offerOf f).tag = none := List.find?_eq_none.mpr fun r hm => by
      rw [beq_iff_eq]
      exact hr r hm
    rw [exec_offer hh h1 h2 hs hd, takeOfferFrame_duplicate hh hj h3, hrec]
    refine congrArg Host.Outcome.next
      (Eq.trans (settle_duplicate (t := (offerOf f).tag) (src := h.src.toNat) hq rfl rfl rfl rfl rfl rfl (.inr hslot)) ?_)
    rw [ht]
    rfl
  · intro h f s hh hst hhold hg hs hd hq hr hother hside hdrain
    have hheld : s.held (offerOf f).tag = false := held_of_absent hr
    have hslot : s.slotHolds (s.slotOf h.src.toNat).other (offerOf f).tag = false := by
      rw [Bool.eq_false_iff, ne_eq, slotHolds_iff, slot_other]
      exact fun ⟨o, ho, e⟩ => hother o ho e
    have hin : s.insideDrain (offerOf f).side (offerOf f).tag = false := by
      have e1 : (offerOf f).tag.set = f.tag.set.toNat := rfl
      have e2 : (offerOf f).tag.seq = f.tag.seq.toNat := rfl
      unfold State.insideDrain
      rw [e1, e2]
      rcases hdrain with e | e | e
      · simp [hside, e]
      · simp [hside, e]
      · simp [hside, Nat.not_lt.mpr e]
    have hj : s.judge (s.slotOf h.src.toNat) (offerOf f) = .lasting .drain := by
      rw [judge_open (.inr (.inl hst)) hhold (fun a b => by
        have a' : f.marks.getLsbD 2 = true := a
        rcases hg with e | e <;> simp_all), if_neg (by simp [hheld, hslot]), if_pos ⟨hst, hin⟩]
    rw [exec_offer hh (by simp [hst]) (by simp [hst]) hs hd, takeOfferFrame_defers hh hj (by simp)]
    exact congrArg Host.Outcome.next
      (settle_same (quiet_defers (why := .drain) hq (by simp) rfl rfl rfl) rfl rfl rfl rfl rfl)
  · intro h f s hh hst hhold hg hs hd hq hr hother hdrain hwait o
    obtain ⟨h1, h2, h3⟩ := open_listens s hst
    have hheld : s.held (offerOf f).tag = false := held_of_absent hr
    have hslot : s.slotHolds (s.slotOf h.src.toNat).other (offerOf f).tag = false := by
      rw [Bool.eq_false_iff, ne_eq, slotHolds_iff, slot_other]
      exact fun ⟨o, ho, e⟩ => hother o ho e
    have hin : ¬ (s.ctl.st = .draining ∧ s.insideDrain (offerOf f).side (offerOf f).tag = false) := by
      rintro ⟨hdr, hi⟩
      have e1 : (offerOf f).tag.set = f.tag.set.toNat := rfl
      have e2 : (offerOf f).tag.seq = f.tag.seq.toNat := rfl
      unfold State.insideDrain at hi
      rw [e1, e2] at hi
      rcases hdrain hdr with e | ⟨e3, e4, e5⟩
      · simp [e] at hi
      · simp [e3, e4, e5] at hi
    have hj : s.judge (s.slotOf h.src.toNat) (offerOf f) = .waits := by
      rw [judge_open hst hhold hg, if_neg (by simp [hheld, hslot]), if_neg hin]
      rcases hwait with e | ⟨r, hm, e⟩ | ⟨e0, e1, e2, e3, e4, e5, r, hm, e6⟩
      · rw [if_pos e]
      · have : s.entryOccupied = true := List.any_eq_true.mpr ⟨r, hm, e⟩
        rw [if_pos this, ite_self]
      · have hb : s.loopBound (offerOf f) = true := by
          have g1 : (offerOf f).marks.broken = false := e2
          have g2 : (offerOf f).marks.spoiled = false := e3
          have g3 : (offerOf f).marks.ghost = false := e4
          have g4 : (offerOf f).tag.set ∉ s.track.broken := e5
          simp [State.loopBound, e1, g1, g2, g3, g4]
        have hloop : s.role = .invert ∧ s.loopBound (offerOf f) = true ∧ s.track.queue.any Record.isLoop = true :=
          ⟨e0, hb, List.any_eq_true.mpr ⟨r, hm, e6⟩⟩
        rw [if_pos hloop, ite_self, ite_self]
    rw [exec_offer hh h1 h2 hs hd, takeOfferFrame_waits hj]
    refine congrArg Host.Outcome.next (Eq.trans (settle_same ⟨hq.1, ?_, ?_, hq.2.2.2⟩ rfl rfl rfl rfl rfl) ?_)
    · unfold State.slotOf
      split <;> exact hq.2.1
    · unfold State.slotOf
      split <;> exact hq.2.2.1
    · unfold State.slotOf
      split <;> rfl

end Sys2Proof.Machine

/-! PROOFS. TAKE (R71, R73, R104, R105), DEFER and READY (R70) heard. -/

namespace Sys2Proof.Machine

/-! ### TAKE (R71) -/

/-- A record that its downstream has taken (R71). -/
def Record.takenBy (src : Nat) (r : Record) : Record := { r with stage := .taken src, offerOwed := false }

theorem takenBy_reshaped (src : Nat) (r : Record) : r.Reshaped (r.takenBy src) := ⟨rfl, Iff.rfl, rfl, rfl, rfl⟩

/-- Where no OFFER is owed a TAKE changes the exit stage alone. -/
theorem map_takenBy {s : State} {src : Nat} {t : Tag} (hq : s.quiet) :
    (s.track.queue.map fun x => if x.tag = t then x.takenBy src else x) =
      s.track.queue.map fun x => if x.tag = t then { x with stage := .taken src } else x :=
  List.map_congr_left fun x hx => by
    split
    · rw [Record.takenBy, ← hq.1 x hx]
    · rfl

theorem exec_take {h : Header} {t : FrameTag} {s : State} (hh : s.hearsDownstream h) (h1 : s.ctl.st ≠ .lockdown)
    (h2 : s.ctl.st ≠ .unconfigured) : exec (.take h t) s = .next (takeHeard h.src.toNat t s) := by
  rw [exec_heard rfl hh.1 rfl]
  exact congrArg Host.Outcome.next (admit_downstream hh h1 h2)

/-- TAKE for an OFFERED or DEFERRED record of its sender, not given up, is accepted (R71). -/
theorem takeHeard_of_offered {s : State} {r : Record} {src : Nat} {t : FrameTag} (hs : s.queueSound)
    (hr : r ∈ s.track.queue) (ht : r.tag = keyOf t) (hd : s.downstream r = src)
    (hst : r.stage = .offered ∨ r.stage = .deferred) (hg : s.hand.givenUp ≠ some r.tag)
    (hl : s.inv.loop = some r.tag → s.inv.givenUp = false) :
    takeHeard src t s = settle s (passIfThere r (endReturnWait r.tag (endHoldWait r.tag
      (mapRec r.tag (Record.takenBy src) s)))) := by
  have hb : s.takeBarred (keyOf t) = false := by
    rw [← ht]
    unfold State.takeBarred
    by_cases h : s.inv.loop = some r.tag
    · simp [hg, hl h]
    · simp [hg, h]
  have hf : s.takenBy src (keyOf t) = some r := by
    unfold State.takenBy
    rw [hb, if_neg (by simp)]
    refine find?_of_sound hs hr ?_ fun x hx => by simp_all
    rcases hst with e | e <;> simp [ht, hd, e, ExitStage.offeredOrDeferred]
  unfold takeHeard
  rw [hf, ← hd]
  rfl

theorem passIfThere_of_not {s : State} {r : Record} (h : r.atBoundary = false ∨ s.ctl.st.steps = false) :
    passIfThere r s = s := by
  unfold passIfThere
  rw [if_neg]
  rintro ⟨h1, h2⟩
  rcases h with h | h <;> simp [h] at h1 h2

theorem endReturnWait_eq (t : Tag) (s : State) :
    endReturnWait t s = { s with
      inv := if s.inv.loop = some t then
          { s.inv with timer := .idle, seq := if s.inv.seq = .returnWait then .returning else s.inv.seq }
        else s.inv } := by
  unfold endReturnWait
  split <;> rfl

/-- What the inverter sequence is after the TAKE of a record (R104, R105). -/
def Inverter.taking (i : Inverter) (t : Tag) : Inverter :=
  if i.loop = some t then { i with timer := .idle, seq := if i.seq = .returnWait then .returning else i.seq } else i

theorem taking_loop (i : Inverter) (t : Tag) : (i.taking t).loop = i.loop := by
  unfold Inverter.taking
  split <;> rfl

theorem taking_seq {i : Inverter} {t : Tag} {q : InverterState} (h1 : q ≠ .returnWait) (h2 : q ≠ .returning) :
    (i.taking t).seq = q ↔ i.seq = q := by
  unfold Inverter.taking
  split
  · dsimp only
    split
    · rename_i e
      simp [e, Ne.symm h1, Ne.symm h2]
    · rfl
  · rfl

/-- A record taken: the event settles in the Drive Unit alone. -/
theorem settle_taken {b s : State} {r : Record} {src : Nat} (hs : b.queueSound) (hq : b.quiet) (hr : r ∈ b.track.queue)
    (hd : b.downstream r = src)
    (ht : s.track.queue = b.track.queue.map fun x => if x.tag = r.tag then x.takenBy src else x)
    (h1 : s.hand.deferred1 = b.hand.deferred1 ∨ s.hand.deferred1 = none)
    (h2 : s.hand.deferred2 = b.hand.deferred2 ∨ s.hand.deferred2 = none) (hc : s.ctl.strap = b.ctl.strap)
    (hp : s.cfg.params = b.cfg.params) (hi : s.inv = b.inv.taking r.tag) (ho : s.comp.op = b.comp.op) :
    settle b s = settleDrive s := by
  refine settle_reshaped ⟨?_, ?_, ?_, ?_⟩ ht ?_ ?_ hc ⟨?_, ?_⟩ ho
  · rw [ht]
    intro x hx
    obtain ⟨y, hy, rfl⟩ := List.mem_map.mp hx
    split
    · rfl
    · exact hq.1 y hy
  · rcases h1 with e | e <;> rw [e]
    · exact hq.2.1
    · simp
  · rcases h2 with e | e <;> rw [e]
    · exact hq.2.2.1
    · simp
  · rw [hi]
    exact fun h => hq.2.2.2 ((taking_seq (by simp) (by simp)).mp h)
  · intro x hx
    split
    · exact takenBy_reshaped src x
    · exact ⟨rfl, Iff.rfl, rfl, rfl, rfl⟩
  · intro x hx hu
    split at hu
    · rename_i hxt
      obtain rfl := eq_of_tag hs hr hx hxt
      have hdn : s.downstream (x.takenBy src) = b.downstream x := downstream_congr rfl hc hp
      have htk : s.taken (x.takenBy src) = true := by
        rw [State.taken, hdn, hd]
        exact decide_eq_true rfl
      simp [State.untaken, htk] at hu
    · rw [← hu]
      exact (untaken_congr rfl rfl hc hp).symm
  · rw [hi]
    exact taking_seq (by simp) (by simp)
  · rw [hi, taking_loop]

/-! ### DEFER and READY (R70) -/

theorem exec_defer {h : Header} {t : FrameTag} {reason : Byte} {s : State} (hh : s.hearsDownstream h)
    (h1 : s.ctl.st ≠ .lockdown) (h2 : s.ctl.st ≠ .unconfigured) (hr : reason.toNat ≤ 3) :
    exec (.defer h t reason) s = .next (deferHeard h.src.toNat t s) := by
  rw [exec_heard (c := .defer h t reason) rfl hh.1 (by simpa [sound] using hr)]
  exact congrArg Host.Outcome.next (admit_downstream hh h1 h2)

theorem exec_ready {h : Header} {s : State} (hh : s.hearsDownstream h) (h1 : s.ctl.st ≠ .lockdown)
    (h2 : s.ctl.st ≠ .unconfigured) : exec (.ready h) s = .next (readyHeard h.src.toNat s) := by
  rw [exec_heard rfl hh.1 rfl]
  exact congrArg Host.Outcome.next (admit_downstream hh h1 h2)

/-- DEFER for no OFFERED record of its sender counts a stale frame (R70). -/
theorem deferHeard_stale {s : State} {src : Nat} {t : FrameTag}
    (h : ∀ r ∈ s.track.queue, r.tag = keyOf t → s.downstream r = src → r.stage ≠ .offered) :
    deferHeard src t s = countStale s := by
  have hf : s.offeredTo src (keyOf t) = none := by
    refine List.find?_eq_none.mpr fun x hx => ?_
    simp only [Bool.and_eq_true, beq_iff_eq, decide_eq_true_iff]
    exact fun ⟨⟨hxt, hxd⟩, hxs⟩ => h x hx hxt hxd hxs
  unfold deferHeard
  rw [hf]

/-- Settles O47: TAKE, DEFER and READY find the record they mean, or none. -/
theorem takeDeferAndReadyAreHeard : Obligations.TakeDeferAndReadyAreHeard := by
  unfold Obligations.TakeDeferAndReadyAreHeard
  refine ⟨?_, ?_, ?_, ?_, ?_, ?_, ?_, ?_⟩
  · intro h t r s hh h1 h2 hs hq hr ht hd hst hg hl hw hb
    have he : endHoldWait r.tag (mapRec r.tag (Record.takenBy h.src.toNat) s) =
        mapRec r.tag (Record.takenBy h.src.toNat) s := if_neg hw
    rw [exec_take hh h1 h2, takeHeard_of_offered hs hr ht hd hst hg hl, he, endReturnWait_eq, passIfThere_of_not (by exact hb)]
    refine congrArg Host.Outcome.next
      (Eq.trans (settle_taken hs hq hr hd rfl (.inl rfl) (.inl rfl) rfl rfl rfl rfl) ?_)
    rw [← ht, ← map_takenBy hq]
    rfl
  · intro h t r s hh h1 h2 hs hq hr ht hd hst hg hl hw hb v
    have he : endHoldWait r.tag (mapRec r.tag (Record.takenBy h.src.toNat) s) = v := by
      unfold endHoldWait
      rw [if_pos (by exact hw)]
      show _ = removeReason _ _
      rw [← ht, ← map_takenBy hq]
      rfl
    obtain ⟨p, d1, d2, hold, hv, e1, e2⟩ : ∃ p d1 d2 hold, v = _ ∧ _ := removeReason_spec _ _
    rw [exec_take hh h1 h2, takeHeard_of_offered hs hr ht hd hst hg hl, he, endReturnWait_eq, hv,
      passIfThere_of_not (by exact hb)]
    refine congrArg Host.Outcome.next
      (settle_taken hs hq hr hd ?_ e1 e2 rfl rfl rfl rfl)
    rw [map_takenBy hq, ht]
  · intro h t r s hh hst hqu hq ht hhold hloop hd hstage hg hw hb
    obtain ⟨h1, h2⟩ := steps_listens hst
    have hr : r ∈ s.track.queue := by simp [hq]
    have hs : s.queueSound := by simp [State.queueSound, hq]
    have he : endHoldWait r.tag (mapRec r.tag (Record.takenBy h.src.toNat) s) =
        mapRec r.tag (Record.takenBy h.src.toNat) s := if_neg hw
    have hret : endReturnWait r.tag (mapRec r.tag (Record.takenBy h.src.toNat) s) =
        mapRec r.tag (Record.takenBy h.src.toNat) s := if_neg (by rw [mapRec_inv, hloop]; simp)
    have hpass : passIfThere r (mapRec r.tag (Record.takenBy h.src.toNat) s) = { s with
        port := s.port.post h.src.toNat (.pass r.tag r.last)
        track := { s.track with queue := [{ r with stage := .taken h.src.toNat, place := .exiting }] } } := by
      have hdn : (mapRec r.tag (Record.takenBy h.src.toNat) s).downstream r = h.src.toNat := hd
      rw [passIfThere, if_pos ⟨hb, hst⟩, passRecord, hdn, extendHolds_of_empty (by exact hhold)]
      simp only [mapRec, send, hq, List.map_cons, List.map_nil, if_true, Record.takenBy, ← hqu.1 r hr]
    rw [exec_take hh h1 h2, takeHeard_of_offered hs hr ht hd hstage hg (by simp [hloop]), he, hret, hpass]
    refine congrArg Host.Outcome.next (settle_quiet ⟨?_, hqu.2⟩ (.inl ?_) ?_ (.inl ?_) (.inl ?_))
    · simpa using hqu.1 r hr
    · simp [State.stopDue]
    · simp only [State.trayDue, hq]
      rfl
    · simp [State.loopDue, hloop]
    · refine loopEnded_mapped (f := fun x => if x = r then { r with stage := .taken h.src.toNat, place := .exiting } else x)
        (fun x => ?_) (fun x => ?_) (by simp [hq])
      all_goals
        split
        · rename_i e
          subst e
          rfl
        · rfl
  · intro h t s hh h1 h2 hc
    have hf : s.takenBy h.src.toNat (keyOf t) = none := by
      unfold State.takenBy
      split
      · rfl
      · rename_i hbar
        refine List.find?_eq_none.mpr fun x hx => ?_
        simp only [Bool.and_eq_true, beq_iff_eq, decide_eq_true_iff]
        rintro ⟨⟨hxt, hxd⟩, hxs⟩
        rcases hc with hc | hc | ⟨hc, hc'⟩
        · obtain ⟨n1, n2⟩ := hc x hx hxt hxd
          revert hxs
          cases hstage : x.stage <;> simp_all [ExitStage.offeredOrDeferred]
        · simp [State.takeBarred, hc] at hbar
        · simp [State.takeBarred, hc, hc'] at hbar
    rw [exec_take hh h1 h2, takeHeard, hf]
    rfl
  · intro h t reason r s hh h1 h2 hre hs hr ht hd
    rw [exec_defer hh h1 h2 hre]
    split
    · rename_i hst
      have hf : s.offeredTo h.src.toNat (keyOf t) = some r :=
        find?_of_sound hs hr (by simp [ht, hd, hst]) fun x hx => by simp_all
      rw [deferHeard, hf]
      dsimp only
      rw [ht]
      rfl
    · rename_i hst
      rw [deferHeard_stale]
      · rfl
      · intro x hx hxt _
        rw [eq_of_tag hs hr hx (hxt.trans ht.symm)]
        exact hst
  · intro h r s hh hst hs hf
    obtain ⟨h1, h2⟩ := steps_listens hst
    have hr := List.find?_some hf
    simp only [Bool.and_eq_true, decide_eq_true_iff] at hr
    have hready : readyHeard h.src.toNat s = sendOffer r (oweOffers h.src.toNat s) := by
      unfold readyHeard
      rw [if_pos hst]
      have : s.track.queue.find? (s.deferredBy h.src.toNat) = some r := hf
      rw [this]
    have hd : (oweOffers h.src.toNat s).downstream r = h.src.toNat := hr.1
    rw [exec_ready hh h1 h2, hready, sendOffer, hd]
    refine congrArg Host.Outcome.next ?_
    simp only [mapRec, send, oweOffers, List.map_map]
    have hm : ∀ x ∈ s.track.queue, ((fun x : Record => if x.tag = r.tag then
          { x with stage := .offered, offerOwed := false } else x) ∘
          fun x => if s.deferredBy h.src.toNat x = true then { x with offerOwed := true } else x) x =
        if x.tag = r.tag then { x with stage := .offered, offerOwed := false }
        else if s.downstream x = h.src.toNat ∧ x.stage = .deferred then { x with offerOwed := true } else x := by
      intro x _
      have hdef : s.deferredBy h.src.toNat x = true ↔ s.downstream x = h.src.toNat ∧ x.stage = .deferred := by
        simp [State.deferredBy]
      by_cases hxt : x.tag = r.tag <;> by_cases hxd : s.downstream x = h.src.toNat ∧ x.stage = .deferred <;>
        simp [hxt, hxd, hdef]
    rw [List.map_congr_left hm]
    rfl
  · intro h t reason s hh h1 h2 hre hn
    rw [exec_defer hh h1 h2 hre, deferHeard_stale hn]
    rfl
  · intro h s hh h1 h2 hc
    rw [exec_ready hh h1 h2, readyHeard]
    split
    · rename_i hst
      have hf : s.track.queue.find? (s.deferredBy h.src.toNat) = none := by
        refine List.find?_eq_none.mpr fun x hx => ?_
        simp only [State.deferredBy, Bool.and_eq_true, decide_eq_true_iff]
        rcases hc with hc | hc
        · simp [hc] at hst
        · exact fun ⟨a, b⟩ => hc x hx a b
      rw [hf]
    · rfl

end Sys2Proof.Machine

/-! PROOFS. CONFIGURE (R187 to R189) and the commit check (R188). -/

namespace Sys2Proof.Machine

/-! ### A write (R187) -/

theorem exec_configure {h : Header} {i : BitVec 7} {m : Bool} {vs : List Half} {s : State} (hh : s.hearsEngine h)
    (hst : s.ctl.st = .unconfigured ∨ s.ctl.st = .ready) (hl : vs.length ≤ 3) :
    exec (.configure h i m vs) s = .next (configureStation i m vs s) := by
  rw [exec_heard (c := .configure h i m vs) rfl hh.1 (by simpa [sound] using hl)]
  refine congrArg Host.Outcome.next (admit_engine hh ?_ (.inl ?_))
  · rcases hst with e | e <;> simp [State.refusesKind, e]
  · rcases hst with e | e <;> simp [e]

/-- A value for an index below 127 goes there (R187). -/
theorem startIndex_of_ne {s : State} {i : BitVec 7} (h : i.toNat ≠ 127) : s.startIndex i = i.toNat := if_neg h

theorem startIndex_continued (s : State) : s.startIndex 127 = s.cfg.index := rfl

theorem writeParams_one (i : Nat) (v : Half) (s : State) : writeParams i [v] s = writeParam i v.toNat s := rfl

theorem exec_configure_one {h : Header} {i : BitVec 7} {v : Half} {s : State} (hh : s.hearsEngine h)
    (hst : s.ctl.st = .unconfigured ∨ s.ctl.st = .ready) (hi : i.toNat ≠ 127) :
    exec (.configure h i false [v]) s = .next (writeParam i.toNat v.toNat s) := by
  rw [exec_configure hh hst (by simp), configureStation, startIndex_of_ne hi]
  rfl

/-- A written parameter, its clamping counted (R187). -/
theorem writeParam_of_lt {i v : Nat} {s : State} (h : i < 92) :
    writeParam i v s = putParam i (s.admitted i v).1 (if (s.admitted i v).2 = true then countClamp s else s) := by
  unfold writeParam
  rw [if_neg (by omega)]

theorem admitted_of_value {s : State} {i v : Nat} (h1 : i ≠ 64) (h2 : ¬ (70 ≤ i ∧ i ≤ 85)) (h3 : ¬ (88 ≤ i ∧ i ≤ 91)) :
    s.admitted i v = (max (paramRange i).1 (min v (paramRange i).2),
      decide (max (paramRange i).1 (min v (paramRange i).2) ≠ v)) := by
  simp [State.admitted, isDispParam, isLineParam, h1, h2, h3]

theorem admitted_of_disp {s : State} {i v : Nat} (h : 70 ≤ i ∧ i ≤ 85) : s.admitted i v = (dispBits v, false) := by
  simp [State.admitted, isDispParam, h]

theorem admitted_of_line {s : State} {i v : Nat} (h : 88 ≤ i ∧ i ≤ 91) : s.admitted i v = (lineBits v, false) := by
  have : ¬ (70 ≤ i ∧ i ≤ 85) := by omega
  simp [State.admitted, isDispParam, isLineParam, h, this]

/-- CCAP at or below the count is raised above it (R189). -/
theorem admitted_ccap (s : State) (v : Nat) :
    s.admitted 64 v =
      if s.role = .exit ∧ s.comp.op = .none ∧ max 1 (min v 63) ≤ s.comp.count then (s.comp.count + 1, true)
      else (max 1 (min v 63), decide (max 1 (min v 63) ≠ v)) := by
  simp [State.admitted, isDispParam, isLineParam, paramRange]

/-- A parameter that is neither SCOUNT nor a LINE is written and nothing else. -/
theorem putParam_of_plain {i v : Nat} {s : State} (h5 : i ≠ 5) (hl : ¬ (88 ≤ i ∧ i ≤ 91)) :
    putParam i v s = { s with cfg := { s.cfg with params := s.cfg.params.set i v, index := i + 1 } } := by
  simp [putParam, h5, isLineParam, hl]

theorem ite_countClamp (c : Prop) [Decidable c] (s : State) :
    (if c then countClamp s else s) =
      { s with cfg := { s.cfg with clamps := if c then min (s.cfg.clamps + 1) 255 else s.cfg.clamps } } := by
  split <;> rfl

/-- A LINE value taken from an input function, with no operation in BIN WAIT (R87, R164). -/
theorem linesFallen_of_idle {b s : State} (h1 : s.comp.op ≠ .ejecting .binWait) (h2 : s.comp.op ≠ .dumping .binWait) :
    linesFallen b s = { s with
      feed := if b.functionActive .supplyEmpty = true ∧ s.functionActive .supplyEmpty = false then
          { s.feed with supplyReported := false }
        else s.feed } := by
  have hb : binFreed s = s := by simp [binFreed, h1, h2]
  unfold linesFallen
  rw [hb, ite_self]
  split <;> rfl

/-! ### A write touches the state's own choice of command no more (R187) -/

theorem putParam_index (i v : Nat) (s : State) : (putParam i v s).cfg.index = i + 1 := by
  unfold putParam
  dsimp only
  split
  · rfl
  · split
    · exact congrArg (fun c => c.2.2.1.index) (linesFallen_calm _ _)
    · rfl

theorem writeParam_index {i : Nat} (h : i < 92) (v : Nat) (s : State) : (writeParam i v s).cfg.index = i + 1 := by
  rw [writeParam_of_lt h, putParam_index]

/-- With no frame waiting, what a frame does depends on its command's effect and soundness alone (R180). -/
theorem receive_congr {c d : Instr} {h : Header} {f g : State → State} {s : State} (hrx : s.port.rx = [])
    (hs : sound c = sound d) (hf : f s = g s) : receive c h f s = receive d h g s := by
  unfold receive
  simp [hrx, hs, hf]

/-! ### The commit check (R188) -/

/-- The test of a list of tests that fails first, as a number. -/
def firstFailing (l : List (Bool × Nat)) : Option Nat := (l.find? Prod.fst).map Prod.snd

theorem firstFailing_cons (b : Bool) (n : Nat) (l : List (Bool × Nat)) :
    firstFailing ((b, n) :: l) = if b = true then some n else firstFailing l := by
  cases b <;> rfl

theorem firstFailing_nil : firstFailing [] = none := rfl

theorem firstFailing_append (l m : List (Bool × Nat)) :
    firstFailing (l ++ m) = match firstFailing l with
      | some n => some n
      | none => firstFailing m := by
  induction l with
  | nil => rfl
  | cons a l ih =>
    obtain ⟨b, n⟩ := a
    rw [List.cons_append, firstFailing_cons, firstFailing_cons, ih]
    split <;> rfl

theorem firstFailing_map (p : Nat → Bool) (g : Nat → Nat) (l : List Nat) :
    firstFailing (l.map fun k => (p k, g k)) = (l.find? p).map g := by
  induction l with
  | nil => rfl
  | cons a l ih =>
    rw [List.map_cons, firstFailing_cons, ih, List.find?_cons]
    cases p a <;> rfl

theorem ofKind_eq_none {s : State} {kind : Nat} : s.ofKind kind = none ↔ ∀ k < s.scount, s.skind k ≠ kind := by
  simp [State.ofKind]

/-- Settles O48, clause by clause. -/
theorem configureWritesAndCommits : Obligations.ConfigureWritesAndCommits := by
  unfold Obligations.ConfigureWritesAndCommits
  refine ⟨?_, ?_, ?_, ?_, ?_, ?_, ?_, ?_, ?_, ?_, ?_, ?_, ?_⟩
  case _ =>
    intro h i v s hh hst hi h5 h64 hdisp hline w
    rw [exec_configure_one hh hst (by omega), writeParam_of_lt hi, admitted_of_value h64 hdisp (by omega),
      ite_countClamp, putParam_of_plain h5 (by omega)]
    simp only [decide_eq_true_eq, ite_not]
    rfl
  case _ =>
    intro h i v s hh hst h1 h2
    rw [exec_configure_one hh hst (by omega), writeParam_of_lt (by omega), admitted_of_disp ⟨h1, h2⟩,
      if_neg (by simp), putParam_of_plain (by omega) (by omega)]
    rfl
  case _ =>
    intro h i v s hh hst h1 h2
    rw [exec_configure_one hh hst h2, writeParam, if_pos h1]
    rfl
  case _ =>
    intro h i s hh hst hhold hc
    have hcommit : commit s = { s with
        ctl := { s.ctl with st := .ready }
        cfg := s.derived
        hand := { s.hand with
          waiting := if s.ctl.st = .ready then s.hand.waiting else none
          holdTimer := if s.ctl.st = .ready then s.hand.holdTimer else .idle }
        reg := { s.reg with timer := if s.ctl.st = .ready then s.reg.timer else .idle }
        port := s.port.post s.engAddr (.status
          { state := .ready, reason := .none, failing := none, queueCount := s.track.queue.length,
            depth := s.flt.stack.length, top := s.flt.stack.head?.map Context.code
            holdCount := 0 }) } := by
      have h0 : s.drive.hold.length = 0 := by rw [hhold]; rfl
      by_cases hr : s.ctl.st = .ready
      · simp only [if_pos hr]
        have he : enterState .ready { s with cfg := s.derived } = { s with cfg := s.derived } := if_pos hr
        unfold commit
        rw [hc]
        dsimp only
        rw [he, ← h0, ← hr]
        rfl
      · simp only [if_neg hr]
        rw [commit_passes hc hr hhold, ← h0]
        rfl
    have hceil : ∀ n, 256 * ceilPu n < n + 256 ∧ n ≤ 256 * ceilPu n := by
      intro n
      unfold ceilPu
      omega
    refine ⟨commit s, ?_, ?_⟩
    · rw [exec_configure hh hst (by simp)]
      rfl
    · rw [hcommit]
      refine ⟨rfl, (hceil _).1, (hceil _).2, rfl, ?_, ?_, ?_, ?_, ?_, ?_⟩
      · intro k hr hk
        simp [State.derived, hr, hk, State.stopLength]
      · intro hr
        exact ⟨_, (hceil _).1, (hceil _).2, if_pos hr⟩
      · exact fun hr => if_neg hr
      · exact fun hr => if_neg hr
      · intro hr
        simp [hr]
      · intro hr
        simp [hr]
  case _ =>
    intro h i k s hh hst hc
    rw [exec_configure hh hst (by simp)]
    refine congrArg Host.Outcome.next ?_
    show commit s = _
    unfold commit
    rw [hc]
    dsimp only
    rw [enterState_unconfigured]
    rfl
  case _ =>
    intro h v s hh hst w
    rw [exec_configure_one hh hst (by simp), writeParam_of_lt (by simp), admitted_of_value (by simp) (by simp) (by simp),
      ite_countClamp]
    simp only [decide_eq_true_eq, ite_not]
    rfl
  case _ =>
    intro h v s hh hst w raised
    have he : exec (.configure h 64 false [v]) s = .next (writeParam 64 v.toNat s) := exec_configure_one hh hst (by simp)
    rw [he, writeParam_of_lt (by simp), admitted_ccap, ite_countClamp, putParam_of_plain (by simp) (by simp)]
    by_cases hr : s.role = .exit ∧ s.comp.op = .none ∧ w ≤ s.comp.count
    · have hra : raised = true := decide_eq_true hr
      rw [if_pos hr, hra]
      rfl
    · have hra : raised = false := decide_eq_false hr
      rw [if_neg hr, hra]
      simp only [decide_eq_true_eq, ite_not, true_and]
      rfl
  case _ =>
    intro h i v s hh hst h1 h2 ho1 ho2 u
    rw [exec_configure_one hh hst (by omega), writeParam_of_lt (by omega), admitted_of_line ⟨h1, h2⟩, if_neg (by simp)]
    have hl : isLineParam i.toNat = true := by simp [isLineParam, h1, h2]
    unfold putParam
    dsimp only
    rw [if_neg (by omega), if_pos hl, linesFallen_of_idle (by exact ho1) (by exact ho2)]
    rfl
  case _ =>
    intro h i v vs s t hh hst hi hl ht hh'
    rw [exec_configure_one hh hst (by omega)] at ht
    obtain rfl := Host.Outcome.next.inj ht
    have hst' : (writeParam i.toNat v.toNat s).ctl.st = .unconfigured ∨ (writeParam i.toNat v.toNat s).ctl.st = .ready := by
      rwa [writeParam_ctl]
    have hl' : (v :: vs).length ≤ 3 := Nat.succ_le_succ hl
    rw [exec_configure hh hst hl', exec_configure hh' hst' (by omega)]
    refine congrArg Host.Outcome.next ?_
    have hx : (writeParam i.toNat v.toNat s).startIndex 127 = i.toNat + 1 := by
      rw [startIndex_continued, writeParam_index hi]
    rw [configureStation, configureStation, hx, startIndex_of_ne (by omega)]
    rfl
  case _ =>
    intro h m vs s hrx hi
    have hx : s.startIndex (BitVec.ofNat 7 s.cfg.index) = s.startIndex 127 := by
      have hn : (BitVec.ofNat 7 s.cfg.index).toNat = s.cfg.index := by
        rw [BitVec.toNat_ofNat, Nat.mod_eq_of_lt (by omega)]
      rw [startIndex_of_ne (by omega), hn, startIndex_continued]
    show Host.Outcome.next (receive _ h _ s) = Host.Outcome.next (receive _ h _ s)
    refine congrArg Host.Outcome.next (receive_congr hrx rfl ?_)
    unfold admitConfigure admitFrame configureStation
    rw [hx]
  case _ =>
    intro h i vs s t hh hst hl ht hh'
    rw [exec_configure hh hst hl] at ht
    obtain rfl := Host.Outcome.next.inj ht
    have hst' : (configureStation i false vs s).ctl.st = .unconfigured ∨ (configureStation i false vs s).ctl.st = .ready := by
      have : (configureStation i false vs s).ctl = s.ctl := writeParams_ctl _ _ _
      rwa [this]
    rw [exec_configure hh hst hl, exec_configure hh' hst' (by simp)]
    rfl
  case _ =>
    intro s stop lacks
    have hl : ∀ kind, lacks kind = decide (s.ofKind kind = none) := fun kind => decide_eq_decide.mpr ofKind_eq_none.symm
    have ho : (List.range s.scount).find? (fun k =>
        (List.range k).any fun j => decide (s.sbranch j = s.sbranch k ∧ s.spos k < s.spos j)) = s.outOfOrder := by
      unfold State.outOfOrder State.belowEarlier
      refine congrArg (List.find? · _) (funext fun k => congrArg (List.any _) (funext fun j => ?_))
      simp [Bool.decide_and, beq_eq_decide]
    show _ = firstFailing _
    rw [List.append_assoc, firstFailing_append, firstFailing_append, firstFailing_map, ho]
    simp only [firstFailing_cons, firstFailing_nil, hl]
    unfold State.commitCheck
    by_cases hb : s.sbranch 0 ≠ 0
    · rw [if_pos hb, if_pos (decide_eq_true hb)]
    · have hs : s.stopLength = stop := rfl
      rw [if_neg hb, decide_eq_false hb, hs]
      cases s.outOfOrder with
      | some k => rfl
      | none =>
        simp only [Option.map_none, Bool.and_eq_true, Bool.or_eq_true, decide_eq_true_eq, Bool.decide_and,
          Bool.false_eq_true, if_false, State.regSensor, State.gateSensor, State.invertSensor, State.compileSensor]
        congr
  case _ => decide

end Sys2Proof.Machine

/-! PROOFS. START and DRAIN (R161, R162, R177), RESUME (R151, R152) and CLEARPATH (R153). -/

namespace Sys2Proof.Machine

/-! ### Entering RUNNING, DRAINING and SWEEPING (R82, R169) -/

theorem enterState_running {s : State} (h : s.ctl.st ≠ .running) :
    enterState .running s = { s with
      ctl := { s.ctl with st := .running }
      port := s.tellReady [.state, .drain] s.port
      hand := s.hand.readied [.state, .drain] } :=
  (enterState_of_ne h).trans (sendReadies_eq isStateOrDrain_eq (setState .running s))

theorem enterState_draining {s : State} (h : s.ctl.st ≠ .draining) :
    enterState .draining s = { s with
      ctl := { s.ctl with st := .draining }
      port := s.tellReady [.state] s.port
      hand := s.hand.readied [.state] } :=
  (enterState_of_ne h).trans (sendReadies_eq isState_eq (setState .draining s))

theorem enterState_sweeping {s : State} (h : s.ctl.st ≠ .sweeping) :
    enterState .sweeping s = { s with
      ctl := { s.ctl with st := .sweeping }
      drive := { s.drive with speed := 0 }
      port := s.tellReady [.state, .drain] s.port
      hand := s.hand.readied [.state, .drain] } :=
  (enterState_of_ne h).trans
    (sendReadies_eq isStateOrDrain_eq { setState .sweeping s with drive := { s.drive with speed := 0 } })

theorem changeState_running {s : State} (h : s.ctl.st ≠ .running) (hn : s.nothingWaits) :
    changeState .running s = { s with
      ctl := { s.ctl with st := .running }
      port := s.tellReady [.state, .drain] s.port
      hand := s.hand.readied [.state, .drain] } := by
  rw [changeState_of_none h (enterState_running h ▸ hn), enterState_running h]

theorem changeState_sweeping {s : State} (h : s.ctl.st ≠ .sweeping) (hn : s.noOffers) :
    changeState .sweeping s = { s with
      ctl := { s.ctl with st := .sweeping }
      drive := { s.drive with speed := 0 }
      port := s.tellReady [.state, .drain] s.port
      hand := s.hand.readied [.state, .drain] } := by
  unfold changeState
  rw [if_neg h, enterState_sweeping h, examineSlots_of_none (by exact hn), examinePick_of_state (by simp) (by simp)]

/-- RUNNING entered where the head order can be picked: READY, then its sheet joins the queue (R82, R87). -/
theorem changeState_running_picks {s : State} {o : FeedOrder} {rest : List FeedOrder} (hne : s.ctl.st ≠ .running)
    (hno : s.noOffers) (hro : s.role = .feed) (hor : s.feed.orders = o :: rest) (hpk : s.feed.pick = none)
    (hh : s.drive.hold = []) (hlen : s.track.queue.length < 8) (htag : ∀ r ∈ s.track.queue, r.tag ≠ o.tag)
    (hcov : (s.sensor 0).covered = false) (hgap : s.gapMin - s.pickD ≤ (s.sensor 0).uncovered / 256)
    (hsup : s.functionActive .supplyEmpty = false) (hbr : o.tag.set ∉ s.track.broken)
    (hsp : s.track.queue = [] ∨ o.speed = s.drive.speed) :
    changeState .running s = { s with
      ctl := { s.ctl with st := .running }
      port := s.tellReady [.state, .drain] s.port
      feed := { s.feed with orders := rest, pick := some o.tag }
      hand := { s.hand.readied [.state, .drain] with
        setInProgress :=
          if o.side = .second then s.hand.setInProgress else if o.last then none else some o.tag.set }
      drive := { s.drive with speed := o.speed }
      track := { s.track with queue := s.track.queue ++
        [{ pickedRecord o s.pickRt with window := some (s.windowAt .forward 0 0) }] } } := by
  rw [changeState, if_neg hne, enterState_running hne, examineSlots_of_none (by exact hno), examinePick,
    if_pos (.inl rfl)]
  exact pickFrom_running (s := { s with
      ctl := { s.ctl with st := .running }
      port := s.tellReady [.state, .drain] s.port
      hand := s.hand.readied [.state, .drain] }) hro rfl hor hpk hh hlen htag hcov hgap hsup hbr hsp

/-- An offer outside the drain boundary is deferred DRAIN in DRAINING (R78, R79). -/
theorem judge_outside {s : State} {side : UpSide} {o : Offer} (hst : s.ctl.st = .draining) (hh : s.drive.hold = [])
    (hheld : s.held o.tag = false) (hslot : s.slotHolds side.other o.tag = false) (hside : o.side ≠ .second)
    (hdrain : s.drainSheet = true ∨ s.hand.setInProgress ≠ some o.tag.set ∨ o.tag.seq ≤ 1)
    (hg : o.marks.ghost = false ∨ s.sweep.refused = false) : s.judge side o = .lasting .drain := by
  have hin : s.insideDrain o.side o.tag = false := by
    unfold State.insideDrain
    rcases hdrain with e | e | e
    · simp [hside, e]
    · simp [hside, e]
    · simp [hside, Nat.not_lt.mpr e]
  rw [judge_open (.inr (.inl hst)) hh (by rcases hg with e | e <;> simp [e]), if_neg (by simp [hheld, hslot]),
    if_pos ⟨hst, hin⟩]

theorem examineSlot_of_empty {s : State} {side : UpSide} (h : s.slot side = none) : examineSlot side s = s := by
  unfold examineSlot
  rw [h]

/-- DRAINING entered where the UP1 offer lies outside the drain boundary: READY, then DEFER with DRAIN (R78, R80, R82). -/
theorem changeState_draining_defers {s : State} {o : Offer} (hst : s.ctl.st = .running) (hro : s.role ≠ .feed)
    (h1 : s.hand.slot1 = some o) (h2 : s.hand.slot2 = none) (hh : s.drive.hold = [])
    (htag : ∀ r ∈ s.track.queue, r.tag ≠ o.tag) (hside : o.side ≠ .second)
    (hdrain : s.drainSheet = true ∨ s.hand.setInProgress ≠ some o.tag.set ∨ o.tag.seq ≤ 1)
    (hg : o.marks.ghost = false ∨ s.sweep.refused = false) :
    changeState .draining s = { s with
      ctl := { s.ctl with st := .draining }
      hand := { s.hand.readied [.state] with slot1 := none, deferred1 := some { reason := .drain, dup := none } }
      port := (s.tellReady [.state] s.port).post s.up1 (.defer o.tag o.last .drain) } := by
  have hne : s.ctl.st ≠ .draining := by simp [hst]
  have hj : (enterState .draining s).judge .up1 o = .lasting .drain := by
    rw [enterState_draining hne]
    exact judge_outside rfl hh (held_of_absent htag) (by simp [State.slotHolds, State.slot, UpSide.other, h2])
      hside hdrain hg
  have hslot1 : (enterState .draining s).slot .up1 = some o := by rw [enterState_draining hne]; exact h1
  have he1 : examineSlot .up1 (enterState .draining s) = { s with
      ctl := { s.ctl with st := .draining }
      hand := { s.hand.readied [.state] with slot1 := none, deferred1 := some { reason := .drain, dup := none } }
      port := (s.tellReady [.state] s.port).post s.up1 (.defer o.tag o.last .drain) } := by
    unfold examineSlot
    rw [hslot1]
    dsimp only
    rw [hj]
    dsimp only
    rw [deferOffer_eq (by simp), enterState_draining hne]
    rfl
  rw [changeState, if_neg hne, examineSlots, he1]
  have hno : ({ s with
      ctl := { s.ctl with st := .draining }
      hand := { s.hand.readied [.state] with slot1 := none, deferred1 := some { reason := .drain, dup := none } }
      port := (s.tellReady [.state] s.port).post s.up1 (.defer o.tag o.last .drain) } : State).noOffers := ⟨rfl, h2⟩
  rw [examineSlot_of_empty (side := .up2) (by exact h2), takeFree_of_none hno]
  exact examinePick_of_none (.inl hro)

/-! ### Frames of ENGADDR -/

theorem hearsFrom_ne_selftest {s : State} {h : Header} (hh : s.hearsEngine h) : s.ctl.st ≠ .selftest := hh.1.2.1

theorem exec_start {h : Header} {s : State} (hh : s.hearsEngine h) (hl : s.ctl.st ≠ .lockdown) :
    exec (.start h) s = .next (startStation s) := by
  rw [exec_heard rfl hh.1 rfl]
  exact congrArg Host.Outcome.next (admit_engine hh rfl (.inl hl))

theorem exec_drain {h : Header} {s : State} (hh : s.hearsEngine h) (hl : s.ctl.st ≠ .lockdown) :
    exec (.drain h) s = .next (drainCommand s) := by
  rw [exec_heard rfl hh.1 rfl]
  exact congrArg Host.Outcome.next (admit_engine hh rfl (.inl hl))

theorem exec_resume {h : Header} {s : State} (hh : s.hearsEngine h) (hl : s.ctl.st ≠ .lockdown) :
    exec (.resume h) s = .next (resumeStation s) := by
  rw [exec_heard rfl hh.1 rfl]
  exact congrArg Host.Outcome.next (admit_engine hh rfl (.inl hl))

theorem exec_clearpath {h : Header} {s : State} (hh : s.hearsEngine h) (hl : s.ctl.st ≠ .lockdown) :
    exec (.clearpath h) s = .next (clearCommand s) := by
  rw [exec_heard rfl hh.1 rfl]
  exact congrArg Host.Outcome.next (admit_engine hh rfl (.inl hl))

/-- STATUS with the counts of records and holds named (R163). -/
theorem reply_of {why : StatusReason} {s : State} {queue hold : Nat} (hn : s.track.queue.length = queue)
    (hm : s.drive.hold.length = hold) :
    reply why s = { s with port := s.port.post s.engAddr (.status
      { state := s.ctl.st, reason := why, failing := none, queueCount := queue, depth := s.flt.stack.length
        top := s.flt.stack.head?.map Context.code, holdCount := hold }) } := by
  subst hn hm
  rfl

/-! ### START (R161) -/

theorem someFailed_iff (s : State) : s.someFailed = true ↔ ∃ k < s.scount, s.sens.failed.getLsbD k = true := by
  simp [State.someFailed]

theorem someCovered_iff (s : State) : s.someCovered = true ↔ ∃ k < s.scount, (s.sensor k).covered = true := by
  simp [State.someCovered]

theorem someFailed_eq_false {s : State} (h : ∀ k < s.scount, s.sens.failed.getLsbD k = false) : s.someFailed = false := by
  rw [Bool.eq_false_iff, ne_eq, someFailed_iff]
  rintro ⟨k, hk, hf⟩
  simp [h k hk] at hf

theorem someCovered_eq_false {s : State} (h : ∀ k < s.scount, (s.sensor k).covered = false) : s.someCovered = false := by
  rw [Bool.eq_false_iff, ne_eq, someCovered_iff]
  rintro ⟨k, hk, hf⟩
  simp [h k hk] at hf

/-- A READY station that is clear starts (R161). -/
theorem startRefusal_clear {s : State} (hf : ∀ k < s.scount, s.sens.failed.getLsbD k = false)
    (hc : (∀ k < s.scount, (s.sensor k).covered = false) ∧ s.functionActive .interlock = false ∧
      s.functionActive .pause = false) : s.startRefusal = .none := by
  simp [State.startRefusal, someFailed_eq_false hf, someCovered_eq_false hc.1, hc.2.1, hc.2.2]

theorem startRefusal_failed {s : State} (hf : ∃ k < s.scount, s.sens.failed.getLsbD k = true) :
    s.startRefusal = .sensorFailed := by
  simp [State.startRefusal, (someFailed_iff s).mpr hf]

theorem startRefusal_notClear {s : State} (hf : ∀ k < s.scount, s.sens.failed.getLsbD k = false)
    (hc : ¬ ((∀ k < s.scount, (s.sensor k).covered = false) ∧ s.functionActive .interlock = false ∧
      s.functionActive .pause = false)) : s.startRefusal = .notClear := by
  unfold State.startRefusal
  rw [someFailed_eq_false hf, if_neg (by simp), if_pos]
  by_contra hn
  simp only [not_or, Bool.not_eq_true] at hn
  obtain ⟨h1, h2, h3⟩ := hn
  refine hc ⟨fun k hk => ?_, h2, h3⟩
  rw [Bool.eq_false_iff]
  exact fun hk' => Bool.eq_false_iff.mp h1 ((someCovered_iff s).mpr ⟨k, hk, hk'⟩)

theorem startStation_taken {s : State} (h : s.startReason = .none) :
    startStation s = settle s (reply .none (changeState .running s)) := if_pos h

theorem startStation_refused {s : State} {why : StatusReason} (h : s.startReason = why) (hw : why ≠ .none) :
    startStation s = reply why s := by
  unfold startStation
  rw [h, if_neg hw]

theorem startReason_of_ready {s : State} (h : s.ctl.st = .ready) : s.startReason = s.startRefusal := by
  simp [State.startReason, h]

theorem startReason_of_draining {s : State} (h : s.ctl.st = .draining) :
    s.startReason = if s.functionActive .pause = true then .notClear else .none := by
  simp [State.startReason, h]

theorem startReason_of_other {s : State} (h1 : s.ctl.st ≠ .ready) (h2 : s.ctl.st ≠ .draining) :
    s.startReason = .state := by
  unfold State.startReason
  cases h : s.ctl.st <;> simp_all

theorem drainCommand_taken {s : State} (h : s.ctl.st = .running ∨ s.ctl.st = .sweeping) :
    drainCommand s = settle s (reply .none (drainStation s)) := if_pos h

/-- Settles O49: START and DRAIN are taken or refused by the state, and answered. -/
theorem startAndDrainAreAnswered : Obligations.StartAndDrainAreAnswered := by
  unfold Obligations.StartAndDrainAreAnswered
  refine ⟨?_, ?_, ?_, ?_, ?_, ?_, ?_, ?_, ?_, ?_, ?_⟩
  case _ =>
    intro h s hh hst hq hn hf hc
    rw [exec_start hh (by simp [hst]),
      startStation_taken ((startReason_of_ready hst).trans (startRefusal_clear hf hc)),
      changeState_running (by simp [hst]) hn]
    exact congrArg Host.Outcome.next
      (settle_same (quiet_readied (why := [.state, .drain]) hq rfl rfl rfl rfl) rfl rfl rfl rfl rfl)
  case _ =>
    intro h s hh hst hf
    rw [exec_start hh (by simp [hst]),
      startStation_refused ((startReason_of_ready hst).trans (startRefusal_failed hf)) (by simp)]
    rfl
  case _ =>
    intro h s hh hst hf hc
    rw [exec_start hh (by simp [hst]),
      startStation_refused ((startReason_of_ready hst).trans (startRefusal_notClear hf hc)) (by simp)]
    rfl
  case _ =>
    intro h s hh h1 h2 h3
    rw [exec_start hh h1, startStation_refused (startReason_of_other h2 h3) (by simp)]
    rfl
  case _ =>
    intro h s hh hst hq hn
    rw [exec_drain hh (by simp [hst]), drainCommand_taken (.inl hst), drainStation_running hst hn]
    exact congrArg Host.Outcome.next
      (settle_same (quiet_readied (why := [.state]) hq rfl rfl rfl rfl) rfl rfl rfl rfl rfl)
  case _ =>
    intro h s hh h1 h2 h3
    rw [exec_drain hh h1, drainCommand, if_neg (by simp [h2, h3])]
    rfl
  case _ =>
    intro h s hh hst hq hn
    rw [exec_start hh (by simp [hst])]
    by_cases hp : s.functionActive .pause = true
    · rw [if_pos hp, startStation_refused ((startReason_of_draining hst).trans (if_pos hp)) (by simp)]
      rfl
    · rw [if_neg hp, startStation_taken ((startReason_of_draining hst).trans (if_neg hp)),
        changeState_running (by simp [hst]) hn]
      exact congrArg Host.Outcome.next
        (settle_same (quiet_readied (why := [.state, .drain]) hq rfl rfl rfl rfl) rfl rfl rfl rfl rfl)
  case _ =>
    intro h o s hh hst hq hro h1 h2 hhold htag hside hdrain hg
    have hcs := changeState_draining_defers (o := o) hst hro h1 h2 hhold htag hside hdrain hg
    rw [exec_drain hh (by simp [hst]), drainCommand_taken (.inl hst), drainStation, hst]
    dsimp only
    rw [hcs]
    refine congrArg Host.Outcome.next (settle_same ⟨hq.1, ?_, ?_, hq.2.2.2⟩ rfl rfl rfl rfl rfl)
    · intro d hd
      rw [← Option.mem_some.mp hd]
      simp
    · exact (quiet_readied (b := s) (why := [.state])
        (s := { s with hand := s.hand.readied [.state] }) hq rfl rfl rfl rfl).2.2.1
  case _ =>
    intro h o rest s hh hst hq hno hf hc hro hor hpk hhold hlen htag hcov hgap hsup hbr hsp
    rw [exec_start hh (by simp [hst]),
      startStation_taken ((startReason_of_ready hst).trans (startRefusal_clear hf hc)),
      changeState_running_picks (by simp [hst]) hno hro hor hpk hhold hlen htag hcov hgap hsup hbr hsp]
    refine congrArg Host.Outcome.next (Eq.trans
      (settle_appended (x := { pickedRecord o s.pickRt with window := some (s.windowAt .forward 0 0) })
        ⟨rfl, rfl, rfl, by simp [pickedRecord, freshRecord]⟩ ?_ rfl rfl rfl rfl rfl) ?_)
    · obtain ⟨q0, q1, q2, q3⟩ := quiet_readied (b := s) (why := [.state, .drain])
        (s := { s with hand := s.hand.readied [.state, .drain] }) hq rfl rfl rfl rfl
      refine ⟨fun r hr => ?_, q1, q2, q3⟩
      rcases List.mem_append.mp hr with hr | hr
      · exact q0 r hr
      · rw [List.mem_singleton.mp hr]
        rfl
    · have hlen' : s.track.queue.length + 1 = (s.track.queue ++
          [{ pickedRecord o s.pickRt with window := some (s.windowAt .forward 0 0) }]).length := by simp
      rw [hlen']
      rfl
  case _ =>
    intro h s hh hst hq hd
    rw [exec_drain hh (by simp [hst]), drainCommand_taken (.inr hst), drainStation_sweeping hst, drainSweep_eq hst hd,
      ← hst]
    exact congrArg Host.Outcome.next (settle_same (by exact hq) rfl rfl rfl rfl rfl)
  case _ =>
    intro h s hh hst hq ha hqu hp h1 h2
    rw [exec_drain hh (by simp [hst]), drainCommand_taken (.inr hst), drainStation_sweeping hst,
      drainSweep_ends hst ha hqu hp h1 h2, reply_of (queue := 0) (hold := 0) (by simp [hqu]) rfl]
    exact congrArg Host.Outcome.next
      (settle_same (quiet_deferring (why := .state) hq (by simp) rfl rfl rfl rfl) rfl rfl rfl rfl rfl)

end Sys2Proof.Machine

/-! PROOFS. RESUME (R151, R152) and CLEARPATH (R138, R153). -/

namespace Sys2Proof.Machine

/-! ### RESUME (R151, R152) -/

theorem resumeStation_taken {s : State} {c : Context} {rest : List Context} (hs : s.ctl.st.resumes = true)
    (hk : s.flt.stack = c :: rest) (hc : s.causeClear c = true) :
    resumeStation s = settle s (reply .none (endSweepIfDue (popEntry c rest s))) := by
  unfold resumeStation
  rw [if_pos hs, hk]
  dsimp only
  rw [if_pos hc]

theorem endSweepIfDue_of_state {s : State} (h : s.ctl.st ≠ .sweeping) : endSweepIfDue s = s := by
  unfold endSweepIfDue
  rw [if_neg]
  simp [State.sweepDue, h]

/-- The last entry popped (R152). -/
theorem popEntry_last (c : Context) (s : State) :
    popEntry c [] s = changeState (if s.flt.restartNeeded = true then .ready else c.saved)
      { s with flt := { s.flt with stack := [], restartNeeded := false } } := by
  unfold popEntry State.afterPop
  simp

theorem causeClear_hold {s : State} {c : Context} (hs : c.isStop = false) (h1 : c.code ≠ .bin) (h2 : c.code ≠ .table) :
    s.causeClear c = true := by
  simp [State.causeClear, hs, Context.isBin, h1, h2]

/-- The sweep is due where it is active, its end has been seen or asked for, and nothing moves or waits (R176). -/
theorem sweepDue_iff (s : State) : s.sweepDue = true ↔
    s.ctl.st = .sweeping ∧ s.sweep.active = true ∧ (s.sweep.lastSeen = true ∨ s.sweep.drainAsked = true) ∧
      s.track.queue = [] ∧ s.feed.pick = none ∧ s.drive.chA.run = .stopped ∧ s.drive.chB.run = .stopped := by
  simp only [State.sweepDue, State.bothStopped, Bool.and_eq_true, Bool.or_eq_true, decide_eq_true_iff, List.isEmpty_iff,
    Option.isNone_iff_eq_none]
  constructor
  · rintro ⟨⟨⟨⟨⟨a, b⟩, c⟩, d⟩, e⟩, f, g⟩
    exact ⟨b, a, c, d, e, f, g⟩
  · rintro ⟨b, a, c, d, e, f, g⟩
    exact ⟨⟨⟨⟨⟨a, b⟩, c⟩, d⟩, e⟩, f, g⟩

theorem resumes_of_paused {s : State} (h : s.ctl.st = .pausing ∨ s.ctl.st = .paused) :
    s.ctl.st.resumes = true ∧ s.ctl.st ≠ .lockdown ∧ s.ctl.st ≠ .running ∧ s.ctl.st ≠ .sweeping := by
  rcases h with e | e <;> simp [e, StationState.resumes]

/-- A HOLD entry alone on the stack, its cause no line's, is popped to its saved state (R151, R152). -/
theorem resumeStation_hold {s : State} {c : Context} (hst : s.ctl.st = .pausing ∨ s.ctl.st = .paused)
    (hk : s.flt.stack = [c]) (hc : c.isStop = false) (h1 : c.code ≠ .bin) (h2 : c.code ≠ .table)
    (hrn : s.flt.restartNeeded = false) :
    resumeStation s = settle s (reply .none (endSweepIfDue
      (changeState c.saved { s with flt := { s.flt with stack := [] } }))) := by
  rw [resumeStation_taken (resumes_of_paused hst).1 hk (causeClear_hold hc h1 h2), popEntry_last, hrn, if_neg (by simp)]
  simp only [← hrn]

/-- SWEEPING entered again, its end not due (R152, R169, R176). -/
theorem sweeping_goes_on {s : State} (hst : s.ctl.st ≠ .sweeping) (hn : s.noOffers)
    (hd : ¬ (s.sweep.active = true ∧ (s.sweep.lastSeen = true ∨ s.sweep.drainAsked = true) ∧ s.track.queue = [] ∧
      s.feed.pick = none ∧ s.drive.chA.run = .stopped ∧ s.drive.chB.run = .stopped)) :
    endSweepIfDue (changeState .sweeping s) = { s with
      ctl := { s.ctl with st := .sweeping }
      drive := { s.drive with speed := 0 }
      port := s.tellReady [.state, .drain] s.port
      hand := s.hand.readied [.state, .drain] } := by
  rw [changeState_sweeping hst hn, endSweepIfDue, if_neg]
  rw [sweepDue_iff]
  exact fun hx => hd hx.2

/-- With both slots empty no offer is deferred (R80). -/
theorem deferAll_of_noOffers {s : State} (h : s.noOffers) (why : DeferReason) (p : Port) : s.deferAll why p = p := by
  obtain ⟨h1, h2⟩ := h
  unfold State.deferAll
  rw [h1, h2]

/-- SWEEPING entered again, and its end due in the event (R152, R176). -/
theorem sweeping_ends {s : State} (hst : s.ctl.st ≠ .sweeping) (hn : s.noOffers) (ha : s.sweep.active = true)
    (hd : s.sweep.lastSeen = true ∨ s.sweep.drainAsked = true) (hq : s.track.queue = []) (hp : s.feed.pick = none)
    (h1 : s.drive.chA.run = .stopped) (h2 : s.drive.chB.run = .stopped) :
    endSweepIfDue (changeState .sweeping s) = { s with
      ctl := { s.ctl with st := .ready }
      drive := { s.drive with speed := 0, hold := [] }
      hand := { s.hand.readied [.state, .drain] with waiting := none, holdTimer := .idle }
      reg := { s.reg with timer := .idle }
      sweep := { s.sweep with active := false }
      port := s.drive.hold.foldl (fun p e => p.postAll e.fwd (.go e.origin))
        ((s.tellReady [.state, .drain] s.port).post s.engAddr (.sweepReport s.sweep.results)) } := by
  obtain ⟨n1, n2⟩ := hn
  rw [changeState_sweeping hst ⟨n1, n2⟩, endSweepIfDue]
  refine Eq.trans (if_pos ((sweepDue_iff _).mpr (by exact ⟨rfl, ha, hd, hq, hp, h1, h2⟩))) ?_
  refine Eq.trans (endSweep_eq rfl) ?_
  rw [deferAll_of_noOffers (by exact ⟨n1, n2⟩)]
  simp only [Handoff.readied, n1, n2]
  rfl

theorem resume_stop {h : Header} {c : Context} {s : State} (hh : s.hearsEngine h) (hst : s.ctl.st = .jammed) (hq : s.quiet)
    (hk : s.flt.stack = [c]) (hc : c.isStop = true) (hrn : s.flt.restartNeeded = true) (hqu : s.track.queue = [])
    (hhold : s.drive.hold = []) (hcov : ∀ k < s.scount, (s.sensor k).covered = false)
    (hint : s.functionActive .interlock = false) :
    exec (.resume h) s = .next (settleDrive { s with
      ctl := { s.ctl with st := .ready }
      flt := { s.flt with stack := [], restartNeeded := false }
      hand := { s.hand.deferringAll .state with waiting := none, holdTimer := .idle }
      reg := { s.reg with timer := .idle }
      port := (s.deferAll .state s.port).post s.engAddr (.status
          { state := .ready, reason := .none, failing := none, queueCount := 0,
            depth := 0, top := none, holdCount := 0 }) }) := by
  have hcl : s.causeClear c = true := by
    simp [State.causeClear, hc, hqu, someCovered_eq_false hcov, hint]
  have hd : { s.drive with hold := [] } = s.drive := by rw [← hhold]
  rw [exec_resume hh (by simp [hst]), resumeStation_taken (by simp [hst, StationState.resumes]) hk hcl, popEntry_last,
    if_pos hrn, changeState_ready (by simp [hst]), endSweepIfDue_of_state (by simp),
    reply_of (queue := 0) (hold := 0) (by simp [hqu]) rfl, hd, hhold]
  exact congrArg Host.Outcome.next
    (settle_same (quiet_deferring (why := .state) hq (by simp) rfl rfl rfl rfl) rfl rfl rfl rfl rfl)

theorem resume_running {h : Header} {c : Context} {s : State} (hh : s.hearsEngine h)
    (hst : s.ctl.st = .pausing ∨ s.ctl.st = .paused) (hq : s.quiet) (hn : s.nothingWaits) (hk : s.flt.stack = [c])
    (hc : c.isStop = false) (h1 : c.code ≠ .bin) (h2 : c.code ≠ .table) (hsv : c.saved = .running)
    (hrn : s.flt.restartNeeded = false) :
    exec (.resume h) s = .next (settleDrive { s with
      ctl := { s.ctl with st := .running }
      flt := { s.flt with stack := [] }
      hand := s.hand.readied [.state, .drain]
      port := (s.tellReady [.state, .drain] s.port).post s.engAddr (.status
          { state := .running, reason := .none, failing := none, queueCount := s.track.queue.length,
            depth := 0, top := none, holdCount := s.drive.hold.length }) }) := by
  obtain ⟨-, r2, r3, r4⟩ := resumes_of_paused hst
  rw [exec_resume hh r2, resumeStation_hold hst hk hc h1 h2 hrn, hsv, changeState_running (by exact r3) (by exact hn),
    endSweepIfDue_of_state (by simp)]
  exact congrArg Host.Outcome.next
    (settle_same (quiet_readied (why := [.state, .drain]) hq rfl rfl rfl rfl) rfl rfl rfl rfl rfl)

theorem resume_sweeping {h : Header} {c : Context} {s : State} (hh : s.hearsEngine h)
    (hst : s.ctl.st = .pausing ∨ s.ctl.st = .paused) (hq : s.quiet) (hn : s.noOffers) (hk : s.flt.stack = [c])
    (hc : c.isStop = false) (h1 : c.code ≠ .bin) (h2 : c.code ≠ .table) (hsv : c.saved = .sweeping)
    (hrn : s.flt.restartNeeded = false)
    (hd : ¬ (s.sweep.active = true ∧ (s.sweep.lastSeen = true ∨ s.sweep.drainAsked = true) ∧ s.track.queue = [] ∧
      s.feed.pick = none ∧ s.drive.chA.run = .stopped ∧ s.drive.chB.run = .stopped)) :
    exec (.resume h) s = .next (settleDrive { s with
      ctl := { s.ctl with st := .sweeping }
      flt := { s.flt with stack := [] }
      drive := { s.drive with speed := 0 }
      hand := s.hand.readied [.state, .drain]
      port := (s.tellReady [.state, .drain] s.port).post s.engAddr (.status
          { state := .sweeping, reason := .none, failing := none, queueCount := s.track.queue.length,
            depth := 0, top := none, holdCount := s.drive.hold.length }) }) := by
  obtain ⟨-, r2, r3, r4⟩ := resumes_of_paused hst
  rw [exec_resume hh r2, resumeStation_hold hst hk hc h1 h2 hrn, hsv, sweeping_goes_on (by exact r4) (by exact hn) (by exact hd)]
  exact congrArg Host.Outcome.next
    (settle_same (quiet_readied (why := [.state, .drain]) hq rfl rfl rfl rfl) rfl rfl rfl rfl rfl)

theorem resume_ends {h : Header} {c : Context} {s : State} (hh : s.hearsEngine h)
    (hst : s.ctl.st = .pausing ∨ s.ctl.st = .paused) (hq : s.quiet) (hn : s.noOffers) (hk : s.flt.stack = [c])
    (hc : c.isStop = false) (h1 : c.code ≠ .bin) (h2 : c.code ≠ .table) (hsv : c.saved = .sweeping)
    (hrn : s.flt.restartNeeded = false) (ha : s.sweep.active = true)
    (hd : s.sweep.lastSeen = true ∨ s.sweep.drainAsked = true) (hqu : s.track.queue = []) (hp : s.feed.pick = none)
    (hA : s.drive.chA.run = .stopped) (hB : s.drive.chB.run = .stopped) :
    exec (.resume h) s = .next (settleDrive { s with
      ctl := { s.ctl with st := .ready }
      flt := { s.flt with stack := [] }
      drive := { s.drive with speed := 0, hold := [] }
      hand := { s.hand.readied [.state, .drain] with waiting := none, holdTimer := .idle }
      reg := { s.reg with timer := .idle }
      sweep := { s.sweep with active := false }
      port :=
        let told := (s.tellReady [.state, .drain] s.port).post s.engAddr (.sweepReport s.sweep.results)
        (s.drive.hold.foldl (fun p e => p.postAll e.fwd (.go e.origin)) told).post s.engAddr (.status
          { state := .ready, reason := .none, failing := none, queueCount := 0,
            depth := 0, top := none, holdCount := 0 }) }) := by
  obtain ⟨-, r2, r3, r4⟩ := resumes_of_paused hst
  rw [exec_resume hh r2, resumeStation_hold hst hk hc h1 h2 hrn, hsv,
    sweeping_ends (by exact r4) (by exact hn) (by exact ha) (by exact hd) (by exact hqu) (by exact hp) (by exact hA)
      (by exact hB), reply_of (queue := 0) (hold := 0) (by simp [hqu]) rfl]
  exact congrArg Host.Outcome.next
    (settle_same (quiet_readied (why := [.state, .drain]) hq rfl rfl rfl rfl) rfl rfl rfl rfl rfl)

/-- Settles O50: the entry on top is popped, or RESUME refused. -/
theorem resumePopsTheStack : Obligations.ResumePopsTheStack := by
  unfold Obligations.ResumePopsTheStack
  refine ⟨fun h c s => resume_stop, fun h c s => resume_running, ?_, ?_, fun h c s => resume_sweeping,
    fun h c s => resume_ends⟩
  · intro h c rest s hh hst hk hc hno
    have hr : s.ctl.st.resumes = true ∧ s.ctl.st ≠ .lockdown := by
      rcases hst with e | e | e <;> simp [e, StationState.resumes]
    have hcl : s.causeClear c = false := by
      rw [State.causeClear, if_pos hc]
      rcases hno with e | e | e
      · simp [e]
      · simp [(someCovered_iff s).mpr e]
      · simp [e]
    rw [exec_resume hh hr.2, resumeStation, if_pos hr.1, hk]
    dsimp only
    rw [hcl, if_neg (by simp), ← hk]
    rfl
  · intro h s hh h0 h1 h2 h3
    have hr : s.ctl.st.resumes = false := by
      cases e : s.ctl.st <;> simp_all [StationState.resumes]
    rw [exec_resume hh h0, resumeStation, hr]
    rfl

/-! ### CLEARPATH (R138, R153) -/

/-- The tray forgotten at CLEARPATH where no operation is ordered and no entry is late (R138). -/
theorem clearTray_of_idle {s : State} (ho : s.comp.op = .none) (hl : s.comp.late = []) :
    clearTray s = { s with
      comp := { s.comp with
        traySet := none, count := 0, nextSeq := 1, split := false, keepOpen := false, op := .none, dumpReason := none
        binReported := false, late := [], routedSet := none, routedNext := 1 }
      port := if 1 ≤ s.comp.count then s.port.post s.engAddr (.purged (s.comp.traySet.getD 0) s.comp.count .cleared)
        else s.port } := by
  have hc : s.comp.clearPath = { s.comp with
      traySet := none, count := 0, nextSeq := 1, split := false, keepOpen := false, op := .none, dumpReason := none
      binReported := false, late := [], routedSet := none, routedNext := 1 } := by
    unfold Compile.clearPath
    rw [ho]
    rfl
  unfold clearTray purgeTray
  by_cases hn : 1 ≤ s.comp.count
  · rw [if_pos ⟨.inl ho, hn⟩, if_pos hn]
    simp only [purgeLate, send_comp, hl, List.foldl_nil, hc]
    rfl
  · rw [if_neg (fun h => hn h.2), if_neg hn]
    simp only [purgeLate, hl, List.foldl_nil, hc]

/-- Settles O51: every sheet forgotten, or refused. -/
theorem clearpathClearsTheSheets : Obligations.ClearpathClearsTheSheets := by
  unfold Obligations.ClearpathClearsTheSheets
  refine ⟨?_, ?_⟩
  · intro h s hh hst hhold hop hlate
    have hl : s.ctl.st ≠ .lockdown := by rcases hst with e | e <;> simp [e]
    rw [exec_clearpath hh hl, clearCommand, if_pos hst, clearPath, clearHold_of_empty hhold,
      clearTray_of_idle (by exact hop) (by exact hlate)]
    refine Eq.trans (congrArg Host.Outcome.next (reply_of (queue := 0) (hold := 0) rfl ?_)) rfl
    show s.drive.hold.length = 0
    rw [hhold]
    rfl
  · intro h s hh h0 h1 h2
    rw [exec_clearpath hh h0, clearCommand, if_neg (by simp [h1, h2])]
    rfl

end Sys2Proof.Machine

/-! PROOFS. The sweep (R168 to R175). -/

namespace Sys2Proof.Machine

/-! ### SWEEP (R168) -/

theorem exec_sweep {h : Header} {g n o : Byte} {s : State} (hh : s.hearsEngine h) (hl : s.ctl.st ≠ .lockdown) :
    exec (.sweep h g n o) s = .next (sweepStation g.toNat n.toNat o.toNat s) := by
  rw [exec_heard rfl hh.1 rfl]
  exact congrArg Host.Outcome.next (admit_engine hh rfl (.inl hl))

theorem sweepStation_taken {g n o : Nat} {s : State} (h : s.sweepReason = .none) :
    sweepStation g n o s = settle s (reply .none (beginSweep g n o s)) := if_pos h

theorem sweepStation_refused {g n o : Nat} {s : State} {why : StatusReason} (h : s.sweepReason = why)
    (hw : why ≠ .none) :
    sweepStation g n o s = reply why { s with sweep := { s.sweep with refused := true } } := by
  unfold sweepStation
  rw [if_neg (by rwa [h]), refuseSweep, h]

theorem sweepReason_of_ready {s : State} (h : s.ctl.st = .ready) : s.sweepReason = s.startRefusal := if_pos h

theorem sweepCount_toNat (g : Byte) : sweepCount g.toNat = if g = 0#8 then 1 else g.toNat := by
  unfold sweepCount
  by_cases h : g = 0#8
  · rw [if_pos h, if_pos (by rw [h]; rfl)]
  · rw [if_neg h, if_neg (fun e => h (BitVec.eq_of_toNat_eq (by exact e)))]

theorem sweepInject_toNat (n : Byte) : sweepInject n.toNat = if n = 1#8 then 2 else n.toNat := by
  unfold sweepInject
  by_cases h : n = 1#8
  · rw [if_pos h, if_pos (by rw [h]; rfl)]
  · rw [if_neg h, if_neg (fun e => h (BitVec.eq_of_toNat_eq (by exact e)))]

theorem sweepCount_pos (g : Nat) : 1 ≤ sweepCount g := by
  unfold sweepCount
  split <;> omega

theorem sweepInject_ne_one (n : Nat) : sweepInject n ≠ 1 := by
  unfold sweepInject
  split <;> omega

/-- The first ghost is not the last (R170). -/
theorem lastGhost_pos (g n : Nat) : lastGhost (sweepCount g) (sweepInject n) ≠ 0 := by
  have hg := sweepCount_pos g
  have hn := sweepInject_ne_one n
  unfold lastGhost
  split
  · next h =>
    have := Nat.le_of_dvd hg (Nat.dvd_of_mod_eq_zero h.2)
    omega
  · omega

/-- The second ghost has number 1, as no inject period is 1 (R170). -/
theorem nextGhost_zero (n : Nat) : nextGhost (sweepInject n) 0 = 1 := by
  have hn := sweepInject_ne_one n
  unfold nextGhost
  rw [if_neg]
  rintro ⟨-, h⟩
  exact hn (Nat.dvd_one.mp (Nat.dvd_of_mod_eq_zero h))

/-- SWEEP at a station that launches nothing: SWEEPING with fresh results (R168). -/
theorem beginSweep_elsewhere {g n o : Nat} {s : State} (hst : s.ctl.st ≠ .sweeping) (hn : s.noOffers)
    (ho : ¬ (o = s.ctl.address ∧ s.role = .feed)) :
    beginSweep g n o s = { s with
      ctl := { s.ctl with st := .sweeping }
      drive := { s.drive with speed := 0 }
      sweep := { Sweep.reset with
        ghosts := sweepCount g, inject := sweepInject n, origin := some o, active := true }
      hand := s.hand.readied [.state, .drain]
      port := s.tellReady [.state, .drain] s.port } := by
  have hs : s.sweepTaken g n o = { Sweep.reset with
      ghosts := sweepCount g, inject := sweepInject n, origin := some o, active := true } := by
    unfold State.sweepTaken
    rw [decide_eq_false ho]
    rfl
  unfold beginSweep
  rw [hs, changeState_sweeping (by exact hst) (by exact hn)]
  exact if_neg (by simp [State.launchReady, Sweep.reset])

/-- SWEEP at its origin: ghost 0 is launched in the event (R168, R171). -/
theorem beginSweep_at_origin {g n o : Nat} {s : State} (hst : s.ctl.st ≠ .sweeping) (hn : s.noOffers)
    (ho : o = s.ctl.address) (hro : s.role = .feed) (hh : s.drive.hold = []) (hpk : s.feed.pick = none)
    (hqu : s.track.queue = []) :
    beginSweep g n o s = { s with
      ctl := { s.ctl with st := .sweeping }
      drive := { s.drive with speed := 0 }
      sweep :=
        { ghosts := sweepCount g, inject := sweepInject n, origin := some o, active := true, launching := true
          nextNumber := 1, spacing := some ⟨0, 1⟩, lastSeen := false, drainAsked := false, refused := false
          results := { SweepResults.reset with received := 1 } }
      feed := { s.feed with pick := some ⟨0, 1⟩ }
      track := { s.track with queue := [ghostRecord 0 false] }
      hand := s.hand.readied [.state, .drain]
      port := s.tellReady [.state, .drain] s.port } := by
  have hs : s.sweepTaken g n o = { Sweep.reset with
      ghosts := sweepCount g, inject := sweepInject n, origin := some o, active := true, launching := true } := by
    unfold State.sweepTaken
    rw [decide_eq_true ⟨ho, hro⟩]
  have hlast : (decide (0 = lastGhost (sweepCount g) (sweepInject n))) = false :=
    decide_eq_false (lastGhost_pos g n).symm
  unfold beginSweep
  rw [hs, changeState_sweeping (by exact hst) (by exact hn)]
  have hno : ∀ u : State, u.track.queue = [] → ∀ t, u.held t = false := fun u hu t => held_of_absent (by simp [hu])
  refine Eq.trans (if_pos (by simp [State.launchReady, Sweep.reset, hh, hpk, hqu, State.spacingMet, hno])) ?_
  unfold launchGhost
  dsimp only [Sweep.reset]
  rw [hlast]
  refine Eq.trans (joinQueue_ghost rfl rfl (by
    show s.role ≠ .exit
    simp [hro])) ?_
  simp only [nextGhost_zero, hqu, List.nil_append, ghostTag, if_true]
  rfl

/-! ### The residual watch (R173) -/

/-- In SWEEPING the record a lead edge is attributed to becomes the unconfirmed owner, and a residual is counted (R173). -/
theorem takeLead_sweeping {s : State} {k : Nat} (hst : s.ctl.st = .sweeping) :
    takeLead k s = { setSensor k (fun q => { q with
        covered := true, owner := (s.attributed k).map Record.tag, confirmed := false, stalled := false }) s with
      sweep := { s.sweep with results := s.sweep.results.residual k } } := by
  unfold takeLead
  dsimp only
  rw [if_neg (by simp [hst, StationState.checks]), if_pos (by exact hst), sweepLead]
  have ha : ∀ sw : Sweep, State.attributed { setSensor k (fun q => { q with covered := true }) s with sweep := sw } k =
      s.attributed k := fun _ => rfl
  simp only [setSensor_sweep, ha]
  cases h : s.attributed k with
  | none => exact setSensor_setSensor k _ _ { s with sweep := { s.sweep with results := s.sweep.results.residual k } }
  | some r => exact setSensor_setSensor k _ _ { s with sweep := { s.sweep with results := s.sweep.results.residual k } }

/-! ### The sequence checker (R175) -/

/-- What breaking a set leaves as it was: the blocks that neither hold records nor speak of sets. -/
structure SameOutside (s u : State) : Prop where
  pins : u.pins = s.pins
  ctl : u.ctl = s.ctl
  cfg : u.cfg = s.cfg
  sens : u.sens = s.sens
  feed : u.feed = s.feed
  sweep : u.sweep = s.sweep
  pending : u.pending = s.pending

theorem SameOutside.refl (s : State) : SameOutside s s := ⟨rfl, rfl, rfl, rfl, rfl, rfl, rfl⟩

theorem SameOutside.after {s u v : State} (g : SameOutside u v) (h : SameOutside s u) : SameOutside s v :=
  ⟨g.pins.trans h.pins, g.ctl.trans h.ctl, g.cfg.trans h.cfg, g.sens.trans h.sens, g.feed.trans h.feed,
    g.sweep.trans h.sweep, g.pending.trans h.pending⟩

theorem reviewImageWait_sameOutside (s : State) : SameOutside s (reviewImageWait s) := by
  obtain ⟨p, d1, d2, h, t, e, -⟩ := reviewImageWait_spec s
  rw [e]
  exact ⟨rfl, rfl, rfl, rfl, rfl, rfl, rfl⟩

theorem markSet_sameOutside (set : Nat) (s : State) : SameOutside s (markSet set s) :=
  SameOutside.after (reviewImageWait_sameOutside _) ⟨rfl, rfl, rfl, rfl, rfl, rfl, rfl⟩

theorem beginOrWait_sameOutside (s : State) : SameOutside s (beginOrWait s) := by
  unfold beginOrWait binWait beginOperation
  (repeat' split) <;> exact ⟨rfl, rfl, rfl, rfl, rfl, rfl, rfl⟩

theorem answerBroken_sameOutside (set : Nat) (reason : DumpReason) (s : State) :
    SameOutside s (answerBroken set reason s) := by
  unfold answerBroken answerTray
  split
  · split
    · split
      · split
        · exact ⟨rfl, rfl, rfl, rfl, rfl, rfl, rfl⟩
        · exact SameOutside.after (u := { s with comp := _ }) (beginOrWait_sameOutside _) ⟨rfl, rfl, rfl, rfl, rfl, rfl, rfl⟩
      all_goals exact ⟨rfl, rfl, rfl, rfl, rfl, rfl, rfl⟩
    · exact ⟨rfl, rfl, rfl, rfl, rfl, rfl, rfl⟩
  · exact ⟨rfl, rfl, rfl, rfl, rfl, rfl, rfl⟩

theorem addBroken_sameOutside (set : Nat) (reason : DumpReason) (s : State) :
    SameOutside s (addBroken set reason s) := by
  unfold addBroken
  split
  · exact ⟨rfl, rfl, rfl, rfl, rfl, rfl, rfl⟩
  · exact SameOutside.after (answerBroken_sameOutside set reason _) (SameOutside.after (markSet_sameOutside set _)
      ⟨rfl, rfl, rfl, rfl, rfl, rfl, rfl⟩)

theorem breakSet_sameOutside (set : Nat) (reason : DumpReason) (s : State) : SameOutside s (breakSet set reason s) := by
  unfold breakSet
  split
  · exact markSet_sameOutside set s
  · exact SameOutside.after (addBroken_sameOutside set reason _) ⟨rfl, rfl, rfl, rfl, rfl, rfl, rfl⟩

theorem interruptBill_sameOutside (c seq : Nat) (s : State) : SameOutside s (interruptBill c seq s) :=
  SameOutside.after (u := breakSet c .sequence _) ⟨rfl, rfl, rfl, rfl, rfl, rfl, rfl⟩ (SameOutside.after (breakSet_sameOutside c .sequence _)
    ⟨rfl, rfl, rfl, rfl, rfl, rfl, rfl⟩)

theorem misrouteToTray_sameOutside (set : Nat) (s : State) : SameOutside s (misrouteToTray set s) := by
  unfold misrouteToTray
  split
  · split
    · exact interruptBill_sameOutside _ _ s
    · split
      · split
        · exact interruptBill_sameOutside _ _ s
        · exact SameOutside.refl s
      · exact SameOutside.refl s
  · split
    · exact interruptBill_sameOutside _ _ s
    · exact SameOutside.refl s
  · exact SameOutside.refl s

theorem answerMisroute_sameOutside (r : Record) (branch : Route) (s : State) :
    SameOutside s (answerMisroute r branch s) := by
  unfold answerMisroute takeMisroute releaseMisroute
  split
  · split <;> exact ⟨rfl, rfl, rfl, rfl, rfl, rfl, rfl⟩
  · split <;> exact ⟨rfl, rfl, rfl, rfl, rfl, rfl, rfl⟩
  · exact misrouteToTray_sameOutside _ s
  · exact SameOutside.refl s

theorem routeFault_sameOutside (r : Record) (s : State) : SameOutside s (routeFault r s) := by
  have hm : SameOutside s (spoilMisrouted r (setRoute r.tag s.gate.position
      { raise (requestFor .route r (some r.pos) s.gateSensor) s with gate := s.gate.abandon })) := by
    unfold spoilMisrouted
    dsimp only
    split
    · exact ⟨rfl, rfl, rfl, rfl, rfl, rfl, rfl⟩
    · exact SameOutside.after (breakSet_sameOutside _ _ _) ⟨rfl, rfl, rfl, rfl, rfl, rfl, rfl⟩
  exact SameOutside.after (answerMisroute_sameOutside r s.gate.position _) (SameOutside.after (u := spoilMisrouted r _) ⟨rfl, rfl, rfl, rfl, rfl, rfl, rfl⟩ hm)

theorem purgeBinFull_sweep (t : Tag) (s : State) : (purgeBinFull t s).sweep = s.sweep := by
  unfold purgeBinFull onRec
  split
  · dsimp only
    split <;> rfl
  · rfl

theorem serveGate_sweep (s : State) : (serveGate s).sweep = s.sweep := by
  obtain ⟨a, b, c, e⟩ := serveGate_spec s
  rw [e]

/-- A ghost at the gate position of the EXIT station is checked while the sweep is active (R175). -/
theorem atGate_sweep_of_ghost {r : Record} {s : State} (hro : s.role = .exit) (ha : s.sweep.active = true)
    (hg : r.marks.ghost = true) (hr : r.route ≠ none) :
    (atGate r s).sweep = { s.sweep with results := s.sweep.results.check r.tag.set } := by
  obtain ⟨route, hr⟩ := Option.ne_none_iff_exists'.mp hr
  have hs : SameOutside s (if route = s.gate.position then occupyGate r.tag s else routeFault r s) := by
    split
    · exact ⟨rfl, rfl, rfl, rfl, rfl, rfl, rfl⟩
    · exact routeFault_sameOutside r s
  have hro' : (if route = s.gate.position then occupyGate r.tag s else routeFault r s).role = .exit := by
    unfold State.role
    rw [hs.ctl]
    exact hro
  unfold atGate
  rw [hr]
  dsimp only
  rw [serveGate_sweep, purgeBinFull_sweep, checkGhost, if_pos ⟨hro', hg, by rw [hs.sweep]; exact ha⟩, hs.sweep]

/-- The checker counts every ghost, and each that does not follow the last one as a mismatch (R175). -/
theorem SweepResults.check_eq {q : SweepResults} {number : Nat} (hq : q.synced = true ∨ q.firstExpected = none) :
    let due := if q.synced = true then q.expectedNext else 0
    let miss : Bool := decide (number ≠ due)
    q.check number = { q with
      received := min (q.received + 1) 255, synced := true, expectedNext := number + 1
      mismatches := if miss then min (q.mismatches + 1) 255 else q.mismatches
      firstExpected := if miss = true ∧ q.firstExpected = none then some due else q.firstExpected
      firstActual := if miss = true ∧ q.firstExpected = none then some number else q.firstActual } := by
  intro due miss
  unfold SweepResults.check
  dsimp only
  cases hs : q.synced with
  | false =>
    have hn : q.firstExpected = none := by simpa [hs] using hq
    by_cases h0 : number = 0 <;> simp [due, miss, hs, hn, h0, incSat_eq]
  | true =>
    by_cases h0 : number = q.expectedNext
    · simp [due, miss, hs, h0, incSat_eq]
    · simp [due, miss, hs, h0, incSat_eq, Option.isNone_iff_eq_none]

/-- Settles O53: SWEEP taken, its first ghost, its refusals, the residual watch and the sequence checker. -/
theorem sweepIsTaken : Obligations.SweepIsTaken := by
  unfold Obligations.SweepIsTaken
  refine ⟨?_, ?_, ?_, ?_, ?_, ?_, ?_⟩
  · intro h g n o s hh hst hq hf hc h1 h2 ho
    rw [exec_sweep hh (by simp [hst]), sweepStation_taken ((sweepReason_of_ready hst).trans (startRefusal_clear hf hc)),
      beginSweep_elsewhere (by simp [hst]) ⟨h1, h2⟩ ho, sweepCount_toNat, sweepInject_toNat]
    exact congrArg Host.Outcome.next
      (settle_same (quiet_readied (why := [.state, .drain]) hq rfl rfl rfl rfl) rfl rfl rfl rfl rfl)
  · intro h g n o s hh hst hq hf hc h1 h2 ho hro hhold hpk hqu
    rw [exec_sweep hh (by simp [hst]), sweepStation_taken ((sweepReason_of_ready hst).trans (startRefusal_clear hf hc)),
      beginSweep_at_origin (by simp [hst]) ⟨h1, h2⟩ ho hro hhold hpk hqu, sweepCount_toNat, sweepInject_toNat,
      reply_of (queue := 1) (hold := 0) rfl (by simp [hhold])]
    exact congrArg Host.Outcome.next (settle_appended (x := ghostRecord 0 false) ⟨rfl, rfl, rfl, by simp [ghostRecord, freshRecord]⟩
      ⟨by simp [ghostRecord, freshRecord],
        (quiet_readied (s := { s with hand := s.hand.readied [.state, .drain] }) (why := [.state, .drain]) hq rfl rfl rfl rfl).2⟩ (by rw [hqu]; rfl) rfl rfl rfl rfl)
  · intro h g n o s hh hl hst
    rw [exec_sweep hh hl, sweepStation_refused (if_neg hst) (by simp)]
    rfl
  · intro h g n o s hh hst hf
    rw [exec_sweep hh (by simp [hst]),
      sweepStation_refused ((sweepReason_of_ready hst).trans (startRefusal_failed hf)) (by simp)]
    rfl
  · intro h g n o s hh hst hf hc
    rw [exec_sweep hh (by simp [hst]),
      sweepStation_refused ((sweepReason_of_ready hst).trans (startRefusal_notClear hf hc)) (by simp)]
    rfl
  · intro s k hl hst hk hq hc
    rw [exec_leadEdge_uncovered (filters_of_inUse hl (by simp [hst]) hk) hc, takeLead_sweeping (by exact hst)]
    refine congrArg Host.Outcome.next (Eq.trans (settle_same hq rfl rfl rfl rfl rfl) ?_)
    simp only [SweepResults.residual, incSat_eq, Option.isNone_iff_eq_none]
    rfl
  · intro s r hro ha hg hr hq
    exact (atGate_sweep_of_ghost hro ha hg hr).trans (by rw [SweepResults.check_eq hq])

end Sys2Proof.Machine

/-! PROOFS. FEED (R86) and IMAGE (R111). -/

namespace Sys2Proof.Machine

/-! ### FEED (R86) -/

theorem sound_fields {o : SheetFields} (hq : o.tag.seq ≠ 0#6) (hs : o.side ≠ 3#2) : soundFields o = true := by
  have h1 : o.tag.seq.toNat ≠ 0 := fun e => hq (BitVec.eq_of_toNat_eq e)
  have h2 : o.side.toNat ≠ 3 := fun e => hs (BitVec.eq_of_toNat_eq e)
  simp [soundFields, h1, h2]

theorem exec_feed {h : Header} {o : SheetFields} {s : State} (hh : s.hearsEngine h) (hl : s.ctl.st ≠ .lockdown)
    (hq : o.tag.seq ≠ 0#6) (hs : o.side ≠ 3#2) : exec (.feed h o) s = .next (feedHeard (orderOf o) s) := by
  rw [exec_heard (c := .feed h o) rfl hh.1 (sound_fields hq hs)]
  exact congrArg Host.Outcome.next (admit_engine hh rfl (.inl hl))

theorem takesOrders_iff (st : StationState) :
    st.takesOrders = true ↔ st = .ready ∨ st = .running ∨ st = .draining := by
  cases st <;> simp [StationState.takesOrders]

theorem acceptsOrder_iff (s : State) (o : FeedOrder) : s.acceptsOrder o = true ↔
    s.role = .feed ∧ (s.ctl.st = .ready ∨ s.ctl.st = .running ∨ s.ctl.st = .draining) ∧
      s.feed.orders.length < 4 ∧ ∀ x ∈ s.feed.orders, x.tag ≠ o.tag := by
  simp only [State.acceptsOrder, Bool.and_eq_true, decide_eq_true_iff, takesOrders_iff, Bool.not_eq_true', and_assoc]
  simp

/-- FEED joins the tail of the orders, or is counted stale (R86). -/
theorem feedHeard_eq {o : FeedOrder} {s : State} (hq : s.quiet) :
    feedHeard o s =
      if s.role = .feed ∧ (s.ctl.st = .ready ∨ s.ctl.st = .running ∨ s.ctl.st = .draining) ∧
          s.feed.orders.length < 4 ∧ ∀ x ∈ s.feed.orders, x.tag ≠ o.tag then
        settleDrive { s with feed := { s.feed with orders := s.feed.orders ++ [o] } }
      else { s with port := { s.port with stale := min (s.port.stale + 1) 255 } } := by
  unfold feedHeard
  by_cases ha : s.acceptsOrder o = true
  · rw [if_pos ha, if_pos ((acceptsOrder_iff s o).mp ha)]
    exact settle_same hq rfl rfl rfl rfl rfl
  · rw [if_neg ha, if_neg fun hx => ha ((acceptsOrder_iff s o).mpr hx)]
    rfl

/-! ### IMAGE (R111) -/

theorem exec_image {h : Header} {t : FrameTag} {side : Byte} {s : State} (hh : s.hearsEngine h)
    (hl : s.ctl.st ≠ .lockdown) (hs : side.toNat = 1 ∨ side.toNat = 2) :
    exec (.image h t side) s = .next (imageHeard t side.toNat s) := by
  rw [exec_heard (c := .image h t side) rfl hh.1 (decide_eq_true hs)]
  exact congrArg Host.Outcome.next (admit_engine hh rfl (.inl hl))

/-- In a station that registers and is configured, IMAGE takes the first case that applies (R111). -/
theorem exec_image_taken {h : Header} {t : FrameTag} {side : Byte} {s : State} (hh : s.hearsEngine h)
    (hl : s.ctl.st ≠ .lockdown) (hs : side.toNat = 1 ∨ side.toNat = 2) (hro : s.role = .register)
    (hst : s.ctl.st ≠ .unconfigured) :
    exec (.image h t side) s = .next (settle s (takeImage { tag := keyOf t, side := side.toNat } s)) := by
  rw [exec_image hh hl hs, imageHeard, if_neg (by simp [hro]), if_neg hst]

theorem belongs_iff (e : ImageEntry) (r : Record) : e.belongs r = true ↔ e.tag = r.tag ∧ e.side = r.imageSide := by
  simp [ImageEntry.belongs]

/-- The decided record that an image belongs to (R110, R111). -/
theorem find?_imaged {s : State} {r : Record} {e : ImageEntry} (hs : s.queueSound) (hr : r ∈ s.track.queue)
    (ht : r.tag = e.tag) (hd : r.imageSide = e.side) (hi : r.image ≠ none) :
    s.track.queue.find? (fun r => r.image.isSome && e.belongs r) = some r := by
  refine find?_of_sound hs hr ?_ ?_
  · simp [ImageEntry.belongs, ht, hd, Option.isSome_iff_ne_none, hi]
  · intro x hx
    simp only [Bool.and_eq_true, belongs_iff] at hx
    rw [← hx.2.1, ht]

theorem someWaiting_iff (s : State) : s.someWaiting = true ↔ ∃ r ∈ s.track.queue, r.image = some .waiting := by
  simp [State.someWaiting]

/-- An image wait goes on while a record waits (R115). -/
theorem reviewImageWait_of_waiting {s : State} (h : s.someWaiting = true) : reviewImageWait s = s := if_pos (.inl h)

/-- An image wait that no record needs ends (R115, R116). -/
theorem reviewImageWait_of_none {s : State} (h : s.someWaiting = false) :
    reviewImageWait s =
      if s.ownHolds .imageWait = true then removeReason .imageWait { s with reg := { s.reg with timer := .idle } }
      else s := by
  unfold reviewImageWait
  by_cases ho : s.ownHolds .imageWait = true <;> simp [h, ho]

/-- The end of an image wait leaves a quiet state quiet. -/
theorem quiet_reviewImageWait {s : State} (hq : s.quiet) : (reviewImageWait s).quiet := by
  obtain ⟨q0, q1, q2, q3⟩ := hq
  rcases hs : s.someWaiting with _ | _
  · rw [reviewImageWait_of_none hs]
    split
    · obtain ⟨p, d1, d2, h, e, h1, h2⟩ :=
        removeReason_spec .imageWait { s with reg := { s.reg with timer := .idle } }
      rw [e]
      refine ⟨q0, ?_, ?_, q3⟩
      · rcases h1 with h1 | h1 <;> simp only [h1]
        · exact q1
        · simp
      · rcases h2 with h2 | h2 <;> simp only [h2]
        · exact q2
        · simp
    · exact ⟨q0, q1, q2, q3⟩
  · rw [reviewImageWait_of_waiting hs]
    exact ⟨q0, q1, q2, q3⟩

/-- A change of a record's image, and the end of an image wait with it, settle in the Drive Unit alone. -/
theorem settle_imaged {s : State} {t : Tag} {i : ImageState} (hq : s.quiet) (hro : s.role ≠ .invert) :
    settle s (reviewImageWait (setImage t i s)) = settleDrive (reviewImageWait (setImage t i s)) := by
  have hq' : (setImage t i s).quiet := by
    refine quiet_mapped (f := fun r => if r.tag = t then { r with image := some i } else r) hq ?_ rfl rfl rfl rfl
    intro r
    split <;> rfl
  have hqr := quiet_reviewImageWait hq'
  obtain ⟨p, d1, d2, h, tm, e, -⟩ := reviewImageWait_spec (setImage t i s)
  rw [e] at hqr ⊢
  refine settle_mapped (f := fun r => if r.tag = t then { r with image := some i } else r) hqr ?_ rfl rfl rfl
    ⟨rfl, rfl⟩ rfl (.inl (loopEnded_of_role hro))
  intro r
  split <;> rfl

/-- An image that no decided record has joins the list, or is there already (R111, R112). -/
theorem takeImage_listed {e : ImageEntry} {s : State}
    (hn : ∀ r ∈ s.track.queue, r.image ≠ none → r.tag = e.tag → r.imageSide ≠ e.side) :
    takeImage e s =
      if e.tag.set ∈ s.track.broken ∨ e ∈ s.reg.images then s
      else if s.reg.images.length < 8 then { s with reg := { s.reg with images := s.reg.images ++ [e] } }
      else { s with
        reg := { s.reg with images := s.reg.images.drop 1 ++ [e] }
        port := { s.port with stale := min (s.port.stale + 1) 255 } } := by
  have hf : s.track.queue.find? (fun r => r.image.isSome && e.belongs r) = none := by
    rw [List.find?_eq_none]
    intro r hr hx
    simp only [Bool.and_eq_true, belongs_iff, Option.isSome_iff_ne_none] at hx
    exact hn r hr hx.1 hx.2.1.symm hx.2.2.symm
  unfold takeImage
  rw [hf]
  dsimp only
  by_cases hb : e.tag.set ∈ s.track.broken
  · rw [if_pos (List.contains_iff_mem.mpr hb), if_pos (.inl hb)]
  · rw [if_neg (fun h => hb (List.contains_iff_mem.mp h))]
    by_cases hi : e ∈ s.reg.images
    · rw [if_pos (List.contains_iff_mem.mpr hi), if_pos (.inr hi)]
    · rw [if_neg (fun h => hi (List.contains_iff_mem.mp h)), if_neg (fun h => h.elim hb hi)]
      unfold joinImages pushImage
      by_cases hl : s.reg.images.length < 8
      · have : ¬ 8 ≤ s.reg.images.length := by omega
        simp [hl, this]
      · have : 8 ≤ s.reg.images.length := by omega
        simp only [this, if_true, hl, if_false, countStale_reg]
        rfl

/-- Such an image settles in the Drive Unit alone. -/
theorem settle_listed {e : ImageEntry} {s : State} (hq : s.quiet)
    (hn : ∀ r ∈ s.track.queue, r.image ≠ none → r.tag = e.tag → r.imageSide ≠ e.side) :
    settle s (takeImage e s) = settleDrive (takeImage e s) := by
  have h : ∃ (reg : Registration) (port : Port), takeImage e s = { s with reg := reg, port := port } := by
    rw [takeImage_listed hn]
    split
    · exact ⟨_, _, rfl⟩
    · split
      · exact ⟨_, _, rfl⟩
      · exact ⟨_, _, rfl⟩
  obtain ⟨reg, port, h⟩ := h
  rw [h]
  exact settle_same hq rfl rfl rfl rfl rfl

/-- An image for a decided record: it becomes READY where it waited, and is stale otherwise (R111). -/
theorem takeImage_decided {e : ImageEntry} {s : State} {r : Record} (hs : s.queueSound)
    (hb : e.tag.set ∉ s.track.broken) (hr : r ∈ s.track.queue) (ht : r.tag = e.tag) (hd : r.imageSide = e.side)
    (hi : r.image ≠ none) :
    takeImage e s =
      if r.image = some .waiting then reviewImageWait (setImage r.tag .ready s) else countStale s := by
  unfold takeImage
  rw [if_neg (fun h => hb (List.contains_iff_mem.mp h)), find?_imaged hs hr ht hd hi]

theorem setImage_someWaiting {t : Tag} {i : ImageState} {s : State} (hi : i ≠ .waiting) :
    (setImage t i s).someWaiting = true ↔ ∃ x ∈ s.track.queue, x.tag ≠ t ∧ x.image = some .waiting := by
  rw [someWaiting_iff]
  constructor
  · rintro ⟨y, hy, hw⟩
    obtain ⟨x, hx, rfl⟩ := List.mem_map.mp hy
    by_cases h : x.tag = t
    · simp [h, hi] at hw
    · exact ⟨x, hx, h, by simpa [h] using hw⟩
  · rintro ⟨x, hx, h, hw⟩
    exact ⟨x, List.mem_map.mpr ⟨x, hx, by simp [h]⟩, hw⟩

/-- Settles O52: FEED and IMAGE are listed, or counted stale. -/
theorem feedAndImageAreListed : Obligations.FeedAndImageAreListed := by
  unfold Obligations.FeedAndImageAreListed
  refine ⟨?_, ?_, ?_, ?_, ?_, ?_, ?_⟩
  · intro h o s hh hl hq hs hqu
    rw [exec_feed hh hl hq hs, feedHeard_eq hqu]
    rfl
  · intro h t side s hh hl hs hro hst
    rw [exec_image hh hl hs, imageHeard, if_neg (by simp [hro]), if_pos hst]
    rfl
  · intro h t side s hh hl hs hro
    rw [exec_image hh hl hs, imageHeard, if_pos hro]
  · intro h t side s hh hl hs hro hst hq hn
    rw [exec_image_taken hh hl hs hro hst, settle_listed hq hn, takeImage_listed hn]
    rfl
  · intro h t side r s hh hl hs hro hst hq hsd hb hr ht hd hw ⟨x, hx, hxt, hxw⟩
    rw [exec_image_taken hh hl hs hro hst,
      takeImage_decided (e := { tag := keyOf t, side := side.toNat }) hsd hb hr ht hd (by simp [hw]), if_pos hw,
      settle_imaged hq (by simp [hro]),
      reviewImageWait_of_waiting ((setImage_someWaiting (by simp)).mpr ⟨x, hx, hxt, hxw⟩), ht]
    rfl
  · intro h t side r s hh hl hs hro hst hq hsd hb hr ht hd hw hno
    rw [exec_image_taken hh hl hs hro hst,
      takeImage_decided (e := { tag := keyOf t, side := side.toNat }) hsd hb hr ht hd (by simp [hw]), if_pos hw,
      settle_imaged hq (by simp [hro]), reviewImageWait_of_none (by
        rw [Bool.eq_false_iff]
        intro hx
        obtain ⟨x, hx, hxt, hxw⟩ := (setImage_someWaiting (by simp)).mp hx
        exact hno x hx hxt hxw), ht]
    rfl
  · intro h t side r s hh hl hs hro hst hq hsd hb hr ht hd hi hw
    rw [exec_image_taken hh hl hs hro hst,
      takeImage_decided (e := { tag := keyOf t, side := side.toNat }) hsd hb hr ht hd hi, if_neg hw]
    exact congrArg Host.Outcome.next (settle_same hq rfl rfl rfl rfl rfl)

end Sys2Proof.Machine

/-! PROOFS. Fault dispatch: the order and the lookup (R142, R143), STOP, HOLD, SPOIL and COUNT (R144 to R148), and LOCKDOWN
(R150). -/

namespace Sys2Proof.Machine

/-! ### The order of dispatch (R142) -/

theorem code_injective : Function.Injective FaultCode.code := by
  intro a b h
  cases a <;> cases b <;> first | rfl | (simp [FaultCode.code] at h)

theorem before_iff (s : State) (a b : Request) : s.before a b = true ↔
    s.placeOf a.code < s.placeOf b.code ∨ (s.placeOf a.code = s.placeOf b.code ∧ a.code.code < b.code.code) := by
  have h : ∀ c : FaultCode, s.rankOf c = s.placeOf c := by
    intro c
    unfold State.rankOf
    by_cases hc : c.code < s.dLimit
    · exact (if_neg (by omega)).trans (if_pos hc).symm
    · exact (if_pos (by omega)).trans (if_neg hc).symm
  simp [State.before, h]

/-- The request of least rank is one of them, and none is dispatched before it (R142). -/
theorem leastRank_spec (s : State) : ∀ (l : List Request), l ≠ [] →
    ∃ b ∈ l, s.leastRank l = some b ∧ ∀ x ∈ l, ¬ s.before x b = true := by
  have irrefl : ∀ x, ¬ s.before x x = true := fun x => by simp [before_iff]
  intro l
  induction l with
  | nil => exact fun h => absurd rfl h
  | cons q rest ih =>
    intro _
    by_cases hr : rest = []
    · subst hr
      exact ⟨q, by simp, rfl, by simpa using irrefl q⟩
    obtain ⟨b, hb, hs, hmin⟩ := ih hr
    by_cases hbq : s.before b q = true
    · refine ⟨b, List.mem_cons_of_mem _ hb, by simp [State.leastRank, hs, hbq], ?_⟩
      intro x hx
      rcases List.mem_cons.mp hx with rfl | hx
      · intro hq
        rw [before_iff] at hq hbq
        omega
      · exact hmin x hx
    · refine ⟨q, by simp, by simp [State.leastRank, hs, hbq], ?_⟩
      intro x hx
      rcases List.mem_cons.mp hx with rfl | hx
      · exact irrefl x
      · have hxb := hmin x hx
        intro hq
        rw [before_iff] at hq hbq hxb
        omega

/-- Of the pending requests no two have one code (R141). -/
theorem eq_of_code {s : State} {a b : Request} (hs : s.pendingSound) (ha : a ∈ s.flt.pending) (hb : b ∈ s.flt.pending)
    (h : a.code.code = b.code.code) : a = b :=
  List.inj_on_of_nodup_map hs ha hb (code_injective h)

/-- The request a dispatch chooses is the next (R142). -/
theorem nextRequest_of_chooses {s : State} {q : Request} (h : s.chooses q) : s.nextRequest = some q := by
  obtain ⟨hs, hq, hc⟩ := h
  unfold State.nextRequest
  rcases hc with hp | hmin
  · cases hf : s.flt.pending.find? fun q => s.isPromoted q.code with
    | none => exact absurd (decide_eq_true hp) (List.find?_eq_none.mp hf q hq)
    | some x =>
      have hx : x.code.code = s.promoted := by simpa [State.isPromoted] using List.find?_some hf
      rw [eq_of_code hs (List.mem_of_find?_eq_some hf) hq (hx.trans hp.symm)]
  · have hf : (s.flt.pending.find? fun q => s.isPromoted q.code) = none :=
      List.find?_eq_none.mpr fun x hx hd => (hmin x hx).1 (of_decide_eq_true hd)
    rw [hf]
    dsimp only
    obtain ⟨b, hb, hl, hnone⟩ := leastRank_spec s s.flt.pending (List.ne_nil_of_mem hq)
    have hqb := hnone q hq
    have hbq := (hmin b hb).2
    rw [before_iff] at hqb
    rw [hl, eq_of_code hs hb hq (by omega)]

/-- FAULT_DISPATCH takes the chosen request (R142). -/
theorem exec_faultDispatch {s : State} {q : Request} (h0 : s.ctl.resetLow = false) (hp : s.ctl.st.faultsPend = true)
    (hc : s.chooses q) : exec .faultDispatch s = .next (settle s (dispatch q s)) := by
  have he : exec .faultDispatch s = execFaultDispatch s := rfl
  rw [he, execFaultDispatch, nextRequest_of_chooses hc]
  exact if_pos ⟨h0, hp⟩

/-! ### The lookup (R143) -/

theorem found_iff (s : State) (c : FaultCode) : s.found c = true ↔ s.listed c.code := by
  simp [State.found]

/-- The chosen request leaves the pending set (R142). -/
theorem pending_without (f : FaultUnit) (q : Request) :
    (f.pending.filter fun x => x.code != q.code) = f.pending.filter fun x => decide (x.code ≠ q.code) :=
  List.filter_congr fun x _ => by simp [bne, beq_eq_decide]

theorem takeRequest_found {s : State} {q : Request} (h : s.substitutes q = false) :
    takeRequest q s = { s with flt := s.flt.taking q q } := by
  unfold takeRequest
  rw [h, pending_without]
  simp

theorem takeRequest_table {s : State} {q : Request} (h : s.substitutes q = true) (hq : FaultCode.table ≠ q.code) :
    takeRequest q s = { s with flt := s.flt.taking q q.asTable } := by
  have hne : q.asTable.code ≠ q.code := hq
  unfold takeRequest FaultUnit.taking
  rw [h, pending_without, if_neg hne]
  rfl

/-- The PROMOTED code is dispatched with STOP and is reported (R143). -/
theorem dispatch_promoted {s : State} {q : Request} (h : q.code.code = s.promoted) :
    dispatch q s = applyAction q .stop true { s with flt := s.flt.taking q q } := by
  have hp : s.isPromoted q.code = true := decide_eq_true h
  unfold dispatch State.lookup
  rw [if_pos hp]
  dsimp only
  rw [takeRequest_found (by simp [State.substitutes, hp])]

theorem taking_stack (f : FaultUnit) (q found : Request) : (f.taking q found).stack = f.stack := by
  unfold FaultUnit.taking
  dsimp only
  split <;> rfl

/-- Any other is dispatched as the entry it is looked up at tells (R143). -/
theorem dispatch_looksUp {s : State} {q found : Request} (h : s.looksUp q found) :
    dispatch q s = applyAction found (s.dispAction found.code.code) (s.dispReport found.code.code)
      { s with flt := s.flt.taking q found } := by
  obtain ⟨hnp, h⟩ := h
  have hp : s.isPromoted q.code = false := decide_eq_false hnp
  unfold dispatch State.lookup
  rw [if_neg (by simp [hp])]
  rcases h with ⟨hl, rfl⟩ | ⟨hnl, hl, rfl⟩
  · have hf := (found_iff s found.code).mpr hl
    rw [if_pos hf]
    dsimp only
    rw [takeRequest_found (by simp [State.substitutes, hf])]
  · have hf : s.found q.code = false := Bool.eq_false_iff.mpr fun hx => hnl ((found_iff s _).mp hx)
    rw [if_neg (by simp [hf]), if_pos ((found_iff s .table).mpr hl)]
    dsimp only
    rw [takeRequest_table (by simp [State.substitutes, hp, hf]) (fun e => hnl (e ▸ hl))]
    rfl

/-- A request whose code and TABLE are both not found locks the station down (R143, R150). -/
theorem dispatch_unlisted {s : State} {q : Request} (hnp : q.code.code ≠ s.promoted) (h1 : ¬ s.listed q.code.code)
    (h2 : ¬ s.listed 15) : dispatch q s = lockdown q.asTable (takeRequest q s) := by
  unfold dispatch State.lookup
  rw [if_neg (by simpa [State.isPromoted] using hnp), if_neg fun hx => h1 ((found_iff s _).mp hx),
    if_neg fun hx => h2 ((found_iff s .table).mp hx)]

/-! ### STOP (R147) -/

/-- Both channels stopped at once, a direction wanted applied (R56). -/
theorem emergencyStop_eq (s : State) : emergencyStop s = { s with drive := { s.drive with
    chA := { run := .stopped, ramp := 0, dir := s.drive.chA.want.getD s.drive.chA.dir, want := none, period := 0 }
    chB := { run := .stopped, ramp := 0, dir := s.drive.chB.want.getD s.drive.chB.dir, want := none, period := 0 } } } := by
  unfold emergencyStop
  rw [halt_spec, halt_spec]

/-- Entering JAMMED clears the hold set and defers every offer that waits (R67, R80). -/
theorem changeState_jammed {s : State} (h : s.ctl.st ≠ .jammed) :
    changeState .jammed s = { s with
      ctl := { s.ctl with st := .jammed }
      port := s.deferAll .state (s.drive.hold.foldl (fun p e => p.postAll e.fwd (.go e.origin)) s.port)
      drive := { s.drive with hold := [] }
      hand := { s.hand.deferringAll .state with waiting := none, holdTimer := .idle }
      reg := { s.reg with timer := .idle }
      sweep := { s.sweep with active := false } } := by
  have he : enterState .jammed s = clearHold { setState .jammed s with sweep := { s.sweep with active := false } } :=
    enterState_of_ne h
  have hd : (clearHold { setState .jammed s with sweep := { s.sweep with active := false } }).defersAll .state :=
    .inr ⟨rfl, rfl, by simp [clearHold, setState]⟩
  unfold changeState
  rw [if_neg h, he, examineSlots_defers hd, examinePick_of_state (by simp [clearHold, setState])
    (by simp [clearHold, setState])]
  rfl

/-- STOP outside JAMMED: HALT, and the station jammed (R147). -/
theorem stopAction_jams {q : Request} {s : State} {stack : List Context} (h : s.ctl.st ≠ .jammed)
    (hk : s.flt.stack = stack) :
    stopAction q s = { s with
      ctl := { s.ctl with st := .jammed }
      port := s.deferAll .state (s.drive.hold.foldl (fun p e => p.postAll e.fwd (.go e.origin))
        (if q.code = .halted then s.port else s.port.post 63 (.halt q.code)))
      drive := { s.drive with
        chA := { run := .stopped, ramp := 0, dir := s.drive.chA.want.getD s.drive.chA.dir, want := none, period := 0 }
        chB := { run := .stopped, ramp := 0, dir := s.drive.chB.want.getD s.drive.chB.dir, want := none, period := 0 }
        hold := [] }
      hand := { s.hand.deferringAll .state with waiting := none, holdTimer := .idle }
      reg := { s.reg with timer := .idle }
      sweep := { s.sweep with active := false }
      flt := { s.flt with
        stack := { code := q.code, original := q.original, isStop := true, saved := s.ctl.st } :: stack
        restartNeeded := true } } := by
  subst hk
  unfold stopAction tellHalt
  rw [emergencyStop_eq]
  dsimp only
  by_cases hc : q.code = .halted
  · rw [if_pos (.inr hc), changeState_jammed (by exact h), if_pos hc]
    rfl
  · rw [if_neg (by exact fun hx => hx.elim h hc), changeState_jammed (by exact h), if_neg hc]
    rfl

/-- STOP in JAMMED: the channels and the stack alone (R147, R148). -/
theorem stopAction_jammed {q : Request} {s : State} {stack : List Context} (h : s.ctl.st = .jammed)
    (hk : s.flt.stack = stack) :
    stopAction q s = { s with
      drive := { s.drive with
        chA := { run := .stopped, ramp := 0, dir := s.drive.chA.want.getD s.drive.chA.dir, want := none, period := 0 }
        chB := { run := .stopped, ramp := 0, dir := s.drive.chB.want.getD s.drive.chB.dir, want := none, period := 0 } }
      flt := { s.flt with
        stack := { code := q.code, original := q.original, isStop := true, saved := .jammed } :: stack
        restartNeeded := true } } := by
  subst hk
  unfold stopAction tellHalt
  rw [emergencyStop_eq]
  dsimp only
  rw [if_pos (.inl (by exact h)), changeState_same (by exact h), ← h]
  rfl

/-- An action that does not find the stack full is reported after it (R144). -/
theorem applyAction_stop {q : Request} {report : Bool} {s : State} (h : s.flt.stack.length < 3) :
    applyAction q .stop report s = if report = true then reportFault q (stopAction q s) else stopAction q s := by
  unfold applyAction
  dsimp only
  rw [if_neg (by simpa [State.stackFull] using h)]

/-- The request is dispatched with STOP, whether PROMOTED or by its entry (R143). -/
theorem dispatch_stop {s : State} {q found : Request} (hk : s.flt.stack.length < 3)
    (h : (q.code.code = s.promoted ∧ found = q) ∨ (s.looksUp q found ∧ s.dispAction found.code.code = .stop)) :
    dispatch q s =
      let u := stopAction found { s with flt := s.flt.taking q found }
      if q.code.code = s.promoted ∨ s.dispReport found.code.code = true then reportFault found u else u := by
  have hk' : (s.flt.taking q found).stack.length < 3 := by rwa [taking_stack]
  rcases h with ⟨hp, rfl⟩ | ⟨hl, ha⟩
  · rw [dispatch_promoted hp, applyAction_stop hk']
    exact (if_pos rfl).trans (if_pos (.inl hp)).symm
  · rw [dispatch_looksUp hl, ha, applyAction_stop hk']
    by_cases hr : s.dispReport found.code.code = true
    · exact (if_pos hr).trans (if_pos (.inr hr)).symm
    · exact (if_neg hr).trans (if_neg fun hx => hx.elim hl.1 hr).symm

/-- Settles O37: the chosen request is dispatched, and STOP jams the station. -/
theorem stopActionJamsTheStation : Obligations.StopActionJamsTheStation := by
  unfold Obligations.StopActionJamsTheStation
  refine ⟨?_, ?_⟩
  · intro s q found h0 hp hst hc hk ha hq
    rw [exec_faultDispatch h0 hp hc, dispatch_stop hk ha, stopAction_jams (stack := s.flt.stack) (by exact hst)
      (taking_stack _ _ _)]
    by_cases hr : q.code.code = s.promoted ∨ s.dispReport found.code.code = true
    · simp only [if_pos hr]
      exact congrArg Host.Outcome.next
        (settle_same (quiet_deferring (why := .state) hq (by simp) rfl rfl rfl rfl) rfl rfl rfl rfl rfl)
    · simp only [if_neg hr]
      exact congrArg Host.Outcome.next
        (settle_same (quiet_deferring (why := .state) hq (by simp) rfl rfl rfl rfl) rfl rfl rfl rfl rfl)
  · intro s q found h0 hst hc hk ha hq
    rw [exec_faultDispatch h0 (by simp [hst, StationState.faultsPend]) hc, dispatch_stop hk ha,
      stopAction_jammed (stack := s.flt.stack) (by exact hst) (taking_stack _ _ _)]
    by_cases hr : q.code.code = s.promoted ∨ s.dispReport found.code.code = true
    · simp only [if_pos hr]
      exact congrArg Host.Outcome.next (settle_same hq rfl rfl rfl rfl rfl)
    · simp only [if_neg hr]
      exact congrArg Host.Outcome.next (settle_same hq rfl rfl rfl rfl rfl)

/-! ### LOCKDOWN (R150) -/

/-- LOCKDOWN entered: everything stops, nothing is pending, the hold set and the slots are empty (R67, R80, R150). -/
theorem lockdown_eq {q : Request} {s : State} (h : s.ctl.st ≠ .lockdown) :
    lockdown q s = { s with
      ctl := { s.ctl with st := .lockdown }
      port := ((s.drive.hold.foldl (fun p e => p.postAll e.fwd (.go e.origin)) s.port).post s.engAddr (.fault q)).post 63
        (.halt q.code)
      drive := { s.drive with
        chA := { run := .stopped, ramp := 0, dir := s.drive.chA.want.getD s.drive.chA.dir, want := none, period := 0 }
        chB := { run := .stopped, ramp := 0, dir := s.drive.chB.want.getD s.drive.chB.dir, want := none, period := 0 }
        hold := [] }
      hand := { s.hand with slot1 := none, slot2 := none, waiting := none, holdTimer := .idle }
      reg := { s.reg with timer := .idle }
      sweep := { s.sweep with active := false }
      flt := { s.flt with pending := [] } } := by
  unfold lockdown
  rw [emergencyStop_eq, enterState_of_ne (by exact h)]
  rfl

/-- LOCKDOWN settles in the Drive Unit alone. -/
theorem settle_lockdown {b s : State} {q : Request} (hq : b.quiet) (h : s.ctl.st ≠ .lockdown)
    (hb : s = { b with flt := s.flt }) : settle b (lockdown q s) = settleDrive (lockdown q s) := by
  rw [lockdown_eq h, hb]
  exact settle_same hq rfl rfl rfl rfl rfl

/-- A push onto a full stack locks the station down (R148, R150). -/
theorem dispatch_overflow {s : State} {q found : Request} (hk : 3 ≤ s.flt.stack.length)
    (h : (q.code.code = s.promoted ∧ found = q) ∨ (s.looksUp q found ∧
      (s.dispAction found.code.code = .hold ∨ s.dispAction found.code.code = .stop))) :
    dispatch q s = lockdown found { s with flt := s.flt.taking q found } := by
  have hk' : State.stackFull { s with flt := s.flt.taking q found } = true := by
    refine decide_eq_true ?_
    show 3 ≤ (s.flt.taking q found).stack.length
    rwa [taking_stack]
  rcases h with ⟨hp, rfl⟩ | ⟨hl, ha⟩
  · rw [dispatch_promoted hp]
    exact if_pos hk'
  · rw [dispatch_looksUp hl]
    rcases ha with ha | ha
    · rw [ha]
      exact if_pos hk'
    · rw [ha]
      exact if_pos hk'

theorem faultsPend_ne_lockdown {st : StationState} (h : st.faultsPend = true) : st ≠ .lockdown := by
  rintro rfl
  cases h

/-- Settles O39: LOCKDOWN by a full stack, and by a failed lookup of TABLE. -/
theorem lockdownIsEntered : Obligations.LockdownIsEntered := by
  unfold Obligations.LockdownIsEntered
  refine ⟨?_, ?_, ?_⟩
  · intro s q found h0 hp hc hk ha hq
    rw [exec_faultDispatch h0 hp hc, dispatch_overflow hk ha,
      settle_lockdown hq (faultsPend_ne_lockdown (by exact hp)) rfl,
      lockdown_eq (faultsPend_ne_lockdown (by exact hp))]
    rfl
  · intro s q h0 hp hc hnp h1 h2 hq
    have hf : s.substitutes q = true := by
      have hn : s.found q.code = false := Bool.eq_false_iff.mpr fun hx => h1 ((found_iff s _).mp hx)
      simp [State.substitutes, State.isPromoted, hnp, hn]
    rw [exec_faultDispatch h0 hp hc, dispatch_unlisted hnp h1 h2, takeRequest, hf,
      settle_lockdown hq (faultsPend_ne_lockdown (by exact hp)) rfl,
      lockdown_eq (faultsPend_ne_lockdown (by exact hp))]
    rfl
  · intro s hst
    simp [State.faultLamp, hst]

end Sys2Proof.Machine

/-! PROOFS. COUNT, SPOIL and HOLD (R144 to R146). -/

namespace Sys2Proof.Machine

/-- The dispatch of a request whose entry tells one of these, with room on the stack (R144 to R148). -/
theorem dispatch_told {s : State} {q found : Request} {a : Action} {u : State} (h : s.looksUp q found)
    (ha : s.dispAction found.code.code = a)
    (hu : applyAction found a (s.dispReport found.code.code) { s with flt := s.flt.taking q found } =
      if s.dispReport found.code.code = true then reportFault found u else u) :
    dispatch q s = if s.dispReport found.code.code = true then reportFault found u else u := by
  rw [dispatch_looksUp h, ha, hu]

/-- What settles in the Drive Unit alone does so with a report behind it (R144). -/
theorem settle_reported {b u : State} {q : Request} {c : Prop} [Decidable c]
    (h : ∀ p : Port, settle b { u with port := p } = settleDrive { u with port := p }) :
    settle b (if c then reportFault q u else u) =
      settleDrive { u with port := if c then u.port.post u.engAddr (.fault q) else u.port } := by
  by_cases hc : c
  · rw [if_pos hc, if_pos hc]
    exact h _
  · rw [if_neg hc, if_neg hc]
    exact h _

/-- HOLD in RUNNING with records in the queue: PAUSING (R146). -/
theorem holdAction_pauses {q : Request} {s : State} {stack : List Context} (hst : s.ctl.st = .running)
    (hqu : s.track.queue ≠ []) (hk : s.flt.stack = stack) :
    holdAction q s = { s with
      ctl := { s.ctl with st := .pausing }
      port := s.deferAll (if s.drive.hold = [] then .state else .held) s.port
      hand := s.hand.deferringAll (if s.drive.hold = [] then .state else .held)
      flt := { s.flt with
        stack := { code := q.code, original := q.original, isStop := false, saved := .running } :: stack } } := by
  subst hk
  have he : ∀ u : State, u.ctl.st = .running → changeState .pausing u = { u with
      ctl := { u.ctl with st := .pausing }
      port := u.deferAll (if u.drive.hold = [] then .state else .held) u.port
      hand := u.hand.deferringAll (if u.drive.hold = [] then .state else .held) } := by
    intro u hu
    have hs : enterState .pausing u = setState .pausing u := enterState_of_ne (by simp [hu])
    unfold changeState
    rw [if_neg (by simp [hu]), hs, examineSlots_defers
      (defersAll_of_state (s := setState .pausing u) (by simp [setState]) (by simp [setState]) (by simp [setState])),
      examinePick_of_state (by simp [setState]) (by simp [setState])]
    rfl
  unfold holdAction
  dsimp only
  rw [if_neg (by simp [hst]), he _ (by exact hst), pauseAtOnce, if_neg (by
    simp [State.runOut, pushContext, hqu])]
  simp only [pushContext, contextOf, hst]
  rfl

/-- SPOIL of a record that is no ghost, or of one that has left, breaks its set (R145, R22). -/
theorem spoil_breaks {q : Request} {t : Tag} {s : State} (hi : q.involved = some t) (hg : q.ghost = false)
    (hb : t.set ∉ s.track.broken) (hro : s.role ≠ .exit) (hw : ∀ x ∈ s.track.queue, x.image ≠ some .waiting)
    (ho : s.ownHolds .imageWait = false) :
    spoil q s = (send everyone (.broken t.set) (spoilInvolved q t s)).brokenBy t.set := by
  have ht : (spoilInvolved q t s).track.broken = s.track.broken := by
    unfold spoilInvolved
    split <;> rfl
  have hw' : ∀ x ∈ (spoilInvolved q t s).track.queue, x.image ≠ some .waiting := by
    unfold spoilInvolved
    split
    · exact hw
    · intro x hx
      obtain ⟨y, hy, rfl⟩ := List.mem_map.mp hx
      have := hw y hy
      split <;> exact this
  have hc : (spoilInvolved q t s).ctl = s.ctl ∧ (spoilInvolved q t s).drive = s.drive := by
    unfold spoilInvolved
    split <;> exact ⟨rfl, rfl⟩
  unfold spoil
  rw [hi]
  dsimp only
  rw [hg, if_neg (by simp), breakSet, if_neg (by simpa [ht] using hb)]
  refine addBroken_eq (by exact ht ▸ hb) ?_ hw' ?_
  · show (spoilInvolved q t s).role ≠ .exit
    unfold State.role
    rw [hc.1]
    exact hro
  · show (spoilInvolved q t s).ownHolds .imageWait = false
    rw [← ho]
    unfold State.ownHolds State.holdEntry?
    rw [hc.1, hc.2]

theorem looksUp_same {s : State} {q found : Request} (h : s.looksUp q found) :
    found.involved = q.involved ∧ found.gone = q.gone ∧ found.ghost = q.ghost := by
  obtain ⟨-, ⟨-, rfl⟩ | ⟨-, -, rfl⟩⟩ := h <;> exact ⟨rfl, rfl, rfl⟩

/-- The records after SPOIL of a record in the queue that is no ghost (R145, R21). -/
def Record.spoilBreak (t : Tag) (x : Record) : Record :=
  if x.tag = t then { x with marks := { x.marks with spoiled := true, broken := true } }
  else if x.tag.set = t.set ∧ x.marks.ghost = false then { x with marks := { x.marks with broken := true } }
  else x

/-- Marks of BROKEN and SPOILED settle in the Drive Unit alone at a station that is not INVERT. -/
theorem settle_marked {b s : State} {f : Record → Record} (hq : b.quiet)
    (hf : ∀ r, (f r).face = r.face ∧ (f r).offerOwed = r.offerOwed) (ht : s.track.queue = b.track.queue.map f)
    (hc : s.ctl.strap = b.ctl.strap) (hp : s.cfg.params = b.cfg.params) (hh : s.hand = b.hand) (hi : s.inv = b.inv)
    (ho : s.comp.op = b.comp.op) (hr : s.role ≠ .invert) : settle b s = settleDrive s :=
  settle_mapped (quiet_mapped hq (fun r => (hf r).2) ht (by rw [hh]) (by rw [hh]) (by rw [hi])) (fun r => (hf r).1) ht hc hp
    ⟨by rw [hi], by rw [hi]⟩ ho (.inl (loopEnded_of_role hr))

theorem spoil_face (r : Record) : r.spoil.face = r.face ∧ r.spoil.offerOwed = r.offerOwed := ⟨rfl, rfl⟩

theorem breakIn_same (set : Nat) (r : Record) :
    (r.breakIn set).face = r.face ∧ (r.breakIn set).offerOwed = r.offerOwed :=
  ⟨breakIn_face set r, breakIn_offerOwed set r⟩

theorem spoilBreak_same (t : Tag) (r : Record) :
    (r.spoilBreak t).face = r.face ∧ (r.spoilBreak t).offerOwed = r.offerOwed := by
  unfold Record.spoilBreak
  split
  · exact ⟨rfl, rfl⟩
  · split <;> exact ⟨rfl, rfl⟩

/-- Spoiling a record and breaking its set, record by record (R145, R21). -/
theorem map_spoil_break {l : List Record} {t : Tag} (h : ∀ x ∈ l, x.tag = t → x.marks.ghost = false) :
    (l.map fun x => if x.tag = t then x.spoil else x).map (Record.breakIn t.set) = l.map (Record.spoilBreak t) := by
  rw [List.map_map]
  refine List.map_congr_left fun x hx => ?_
  unfold Record.spoilBreak
  by_cases ht : x.tag = t
  · have hg := h x hx ht
    simp [Record.breakIn, Record.spoil, ht, hg]
  · simp [Record.breakIn, ht]

/-- SPOIL of a ghost marks it SPOILED and breaks no set (R145). -/
theorem spoil_ghost {q : Request} {t : Tag} {s : State} (hi : q.involved = some t) (hg : q.ghost = true) :
    spoil q s = { s with track := { s.track with queue := s.track.queue.map fun x =>
      if x.tag = t ∧ q.gone = false then { x with marks := { x.marks with spoiled := true } } else x } } := by
  unfold spoil
  rw [hi]
  dsimp only
  rw [hg, if_pos rfl, spoilInvolved]
  cases q.gone with
  | false => simp [mapRec, Record.spoil]
  | true => simp

/-- A ghost's mark makes it no LOOP record and ends none (R100). -/
theorem spoil_reshaped {r : Record} (h : r.marks.ghost = true) :
    r.Reshaped { r with marks := { r.marks with spoiled := true } } where
  tag := rfl
  exiting := Iff.rfl
  route := rfl
  reached := rfl
  loop := by
    simp [Record.isLoop, Record.wouldLoop, h]

/-- Settles O38: COUNT, SPOIL and HOLD, each reported after it. -/
theorem countSpoilAndHoldActions : Obligations.CountSpoilAndHoldActions := by
  unfold Obligations.CountSpoilAndHoldActions
  refine ⟨?_, ?_, ?_, ?_, ?_⟩
  · intro s q found h0 hp hc hl ha hq
    rw [exec_faultDispatch h0 hp hc, dispatch_told hl ha rfl]
    exact congrArg Host.Outcome.next
      (settle_reported (u := { s with flt := s.flt.taking q found }) fun p => settle_same hq rfl rfl rfl rfl rfl)
  · intro s q found r h0 hp hc hl ha hro hi hgo hg hr hrg hb hw ho hs hq
    obtain ⟨e1, e2, e3⟩ := looksUp_same hl
    have hsp : spoil found { s with flt := s.flt.taking q found } = { s with
        flt := s.flt.taking q found
        port := s.port.post 63 (.broken r.tag.set)
        reg := { s.reg with images := s.reg.images.filter fun e => e.tag.set != r.tag.set }
        track := {
          broken := (if s.track.broken.length < 8 then s.track.broken else s.track.broken.drop 1) ++ [r.tag.set]
          queue := s.track.queue.map (Record.spoilBreak r.tag) } } := by
      rw [spoil_breaks (e1.trans hi) (e3.trans hg) (by exact hb) (by
        show s.role ≠ .exit
        simp [hro]) (by exact hw) (by exact ho), spoilInvolved, e2, hgo]
      simp only [State.brokenBy, Bool.false_eq_true, if_false]
      rw [← map_spoil_break fun x hx ht => (eq_of_tag hs hr hx ht) ▸ hrg]
      rfl
    rw [exec_faultDispatch h0 hp hc, dispatch_told hl ha rfl, hsp]
    exact congrArg Host.Outcome.next (settle_reported fun p =>
      settle_marked (f := Record.spoilBreak r.tag) hq (spoilBreak_same r.tag) rfl rfl rfl rfl rfl rfl
        (show s.role ≠ .invert by simp [hro]))
  · intro s q found g h0 hp hc hl ha hro hi hgo hg hb hw ho hq
    obtain ⟨e1, e2, e3⟩ := looksUp_same hl
    have hsp : spoil found { s with flt := s.flt.taking q found } = { s with
        flt := s.flt.taking q found
        port := s.port.post 63 (.broken g.set)
        reg := { s.reg with images := s.reg.images.filter fun e => e.tag.set != g.set }
        track := {
          broken := (if s.track.broken.length < 8 then s.track.broken else s.track.broken.drop 1) ++ [g.set]
          queue := s.track.queue.map (Record.breakIn g.set) } } := by
      rw [spoil_breaks (e1.trans hi) (e3.trans hg) (by exact hb) (by
        show s.role ≠ .exit
        simp [hro]) (by exact hw) (by exact ho), spoilInvolved, e2, hgo]
      rfl
    rw [exec_faultDispatch h0 hp hc, dispatch_told hl ha rfl, hsp]
    exact congrArg Host.Outcome.next (settle_reported fun p =>
      settle_marked (f := Record.breakIn g.set) hq (breakIn_same g.set) rfl rfl rfl rfl rfl rfl
        (show s.role ≠ .invert by simp [hro]))
  · intro s q found g h0 hp hc hl ha hi hg hgh hq
    obtain ⟨e1, e2, e3⟩ := looksUp_same hl
    rw [exec_faultDispatch h0 hp hc, dispatch_told hl ha rfl, spoil_ghost (e1.trans hi) (e3.trans hg), e2]
    refine congrArg Host.Outcome.next (settle_reported fun p => ?_)
    refine settle_reshaped (f := fun x => if x.tag = g ∧ q.gone = false then { x with marks := { x.marks with
      spoiled := true } } else x) (quiet_mapped (f := fun x => if x.tag = g ∧ q.gone = false then { x with marks := {
      x.marks with spoiled := true } } else x) hq ?_ rfl rfl rfl rfl) rfl ?_ ?_ rfl ⟨Iff.rfl, rfl⟩ rfl
    · intro x
      split <;> rfl
    · intro x hx
      split
      · next h => exact spoil_reshaped (hgh x hx h.1)
      · exact ⟨rfl, Iff.rfl, rfl, rfl, rfl⟩
    · intro x hx
      split <;> exact id
  · intro s q found h0 hst hc hl ha hk hqu hq
    have hu : applyAction found .hold (s.dispReport found.code.code) { s with flt := s.flt.taking q found } =
        if s.dispReport found.code.code = true then
          reportFault found (holdAction found { s with flt := s.flt.taking q found })
        else holdAction found { s with flt := s.flt.taking q found } := by
      refine if_neg ?_
      show ¬ State.stackFull { s with flt := s.flt.taking q found } = true
      have := taking_stack s.flt q found
      unfold State.stackFull
      dsimp only
      rw [this]
      simpa using hk
    rw [exec_faultDispatch h0 (by simp [hst, StationState.faultsPend]) hc, dispatch_told hl ha hu,
      holdAction_pauses (stack := s.flt.stack) (by exact hst) (by exact hqu) (taking_stack _ _ _)]
    refine congrArg Host.Outcome.next (settle_reported fun p => ?_)
    refine settle_same (quiet_deferring (why := if s.drive.hold = [] then .state else .held) hq ?_ rfl rfl rfl rfl) rfl
      rfl rfl rfl rfl
    split <;> simp

end Sys2Proof.Machine

/-! PROOFS. The route rule of the EXIT station (R124, R125). -/

namespace Sys2Proof.Machine

/-! ### What a break leaves pending and listed (R20, R22, R141) -/

theorem pend_mem {f : FaultUnit} {q x : Request} (h : q ∈ f.pending) : q ∈ (f.pend x).pending := by
  unfold FaultUnit.pend
  split
  · exact h
  · exact List.mem_append_left _ h

theorem raise_pending_mem {s : State} {q x : Request} (h : q ∈ s.flt.pending) : q ∈ (raise x s).flt.pending := by
  unfold raise
  dsimp only
  split
  · exact pend_mem (f := s.flt.count x.code) h
  · exact h

/-- A request whose code is not pending becomes pending where the state lets it (R141). -/
theorem raise_pends {s : State} {q : Request} (hp : s.ctl.st.faultsPend = true) (hn : s.flt.pendingOf q.code = none) :
    q ∈ (raise q s).flt.pending := by
  have hn' : (s.flt.count q.code).pendingOf q.code = none := hn
  unfold raise
  dsimp only
  rw [if_pos hp, FaultUnit.pend, hn']
  exact List.mem_append_right _ (List.mem_singleton.mpr rfl)

theorem markSet_flt (set : Nat) (s : State) : (markSet set s).flt = s.flt := by
  obtain ⟨p, d1, d2, h, t, e, -⟩ := reviewImageWait_spec { s with track := { s.track with
    queue := (s.track.queue.map (Record.breakIn set)).map Record.skipMarked } }
  exact (congrArg State.flt e).trans rfl

theorem markSet_broken (set : Nat) (s : State) : (markSet set s).track.broken = s.track.broken :=
  Eq.trans (congrArg Track.broken (reviewImageWait_track _)) rfl

theorem beginOrWait_mem {s : State} {q : Request} (h : q ∈ s.flt.pending) : q ∈ (beginOrWait s).flt.pending := by
  unfold beginOrWait binWait beginOperation
  split
  · split
    · exact h
    · exact raise_pending_mem h
  · split <;> exact h

theorem answerBroken_mem {s : State} {q : Request} {set : Nat} {why : DumpReason} (h : q ∈ s.flt.pending) :
    q ∈ (answerBroken set why s).flt.pending := by
  unfold answerBroken answerTray
  split
  · split
    · split
      · split
        · exact h
        · exact beginOrWait_mem (by exact h)
      all_goals exact h
    · exact h
  · exact h

theorem beginOrWait_track (s : State) : (beginOrWait s).track = s.track := by
  unfold beginOrWait binWait beginOperation
  split
  · split <;> rfl
  · split <;> rfl

theorem answerBroken_track (set : Nat) (why : DumpReason) (s : State) : (answerBroken set why s).track = s.track := by
  unfold answerBroken answerTray
  split
  · split
    · split
      · split
        · rfl
        · exact beginOrWait_track _
      all_goals rfl
    · rfl
  · rfl

theorem breakSet_mem {s : State} {q : Request} {set : Nat} {why : DumpReason} (h : q ∈ s.flt.pending) :
    q ∈ (breakSet set why s).flt.pending := by
  unfold breakSet addBroken
  split
  · rwa [markSet_flt]
  · split
    · exact h
    · refine answerBroken_mem ?_
      rw [markSet_flt]
      exact h

/-- The list after a local break (R20, R22). -/
theorem breakSet_broken (set : Nat) (why : DumpReason) (s : State) :
    (breakSet set why s).track.broken =
      if set ∈ s.track.broken then s.track.broken else pushBroken set s.track.broken := by
  unfold breakSet
  by_cases h : set ∈ s.track.broken
  · rw [if_pos (by simpa using h), if_pos h, markSet_broken]
  · have hc : (send everyone (.broken set) s).track.broken.contains set = false := by simpa using h
    rw [if_neg (by simpa using h), if_neg h, addBroken, hc, if_neg (by simp), answerBroken_track, markSet_broken]
    rfl

theorem breakSet_listed (set : Nat) (why : DumpReason) (s : State) : set ∈ (breakSet set why s).track.broken := by
  rw [breakSet_broken]
  split
  · assumption
  · exact List.mem_append_right _ (List.mem_singleton.mpr rfl)

/-- The newest of the list stays when another set joins (R20). -/
theorem pushBroken_keeps {set c : Nat} {l : List Nat} : c ∈ pushBroken set (l ++ [c]) := by
  unfold pushBroken
  refine List.mem_append_left _ ?_
  split
  · next h =>
    cases l with
    | nil => simp at h
    | cons x l => simp
  · simp

/-! ### The cases (R124, R125) -/

theorem marks_any_none {r : Record} (h : r.marks = Marks.none) : r.marks.any = false := by
  rw [h]
  rfl

/-- Cases 3 and 5: the set is listed and SEQUENCE is pending against the record (R125). -/
theorem refuseOrder_spec {r : Record} {s : State} (hp : s.ctl.st.faultsPend = true)
    (hn : s.flt.pendingOf .sequence = none) :
    r.tag.set ∈ (refuseOrder r s).track.broken ∧
      requestFor .sequence r (some r.pos) s.gateSensor ∈ (refuseOrder r s).flt.pending :=
  ⟨breakSet_listed _ _ _, breakSet_mem (raise_pends hp hn)⟩

/-- Case 6: the routed set is listed as the newest, and SEQUENCE is pending for it (R125). -/
theorem interruptBill_spec {c n : Nat} {s : State} (hp : s.ctl.st.faultsPend = true)
    (hn : s.flt.pendingOf .sequence = none) (hb : c ∉ s.track.broken) :
    (∃ l, (interruptBill c n s).track.broken = l ++ [c]) ∧
      requestBare .sequence (some ⟨c, n⟩) false s.gateSensor ∈ (interruptBill c n s).flt.pending ∧
      (interruptBill c n s).comp.routedSet = none := by
  refine ⟨⟨if 8 ≤ s.track.broken.length then s.track.broken.drop 1 else s.track.broken, ?_⟩, ?_, rfl⟩
  · exact (breakSet_broken c .sequence _).trans (if_neg hb)
  · exact breakSet_mem (raise_pends hp hn)

/-- Settles O58: the cases of the route rule. -/
theorem routeRuleAtTheExit : Obligations.RouteRuleAtTheExit := by
  unfold Obligations.RouteRuleAtTheExit
  refine ⟨?_, ?_, ?_, ?_⟩
  · intro r s h
    have ha : r.marks.any = true := by
      rcases h with h | h | h | h <;> simp [Marks.any, h]
    exact if_pos ha
  · intro r s hm h
    unfold routeAtExit
    rw [if_neg (by simp [marks_any_none hm])]
    rcases h with ⟨hr, hq⟩ | ⟨hr, hq⟩
    · rw [hr]
      exact if_pos hq
    · rw [hr]
      dsimp only
      rw [if_pos rfl, if_pos hq]
      rfl
  · intro r s hm hp hn h
    have he : routeAtExit r s = (.alt, refuseOrder r s) := by
      unfold routeAtExit
      rw [if_neg (by simp [marks_any_none hm])]
      rcases h with ⟨hr, hq⟩ | ⟨hr, hq⟩
      · rw [hr]
        exact if_neg hq
      · rw [hr]
        dsimp only
        rw [if_pos rfl, if_neg hq]
    obtain ⟨h1, h2⟩ := refuseOrder_spec (r := r) hp hn
    rw [he]
    exact ⟨rfl, h1, _, h2, rfl, rfl, rfl, rfl, rfl⟩
  · intro r s c hm hp hn hr hc hb
    have he : routeAtExit r s = routeFresh r (interruptBill c s.comp.routedNext s) := by
      unfold routeAtExit
      rw [if_neg (by simp [marks_any_none hm]), hr]
      exact if_neg hc
    obtain ⟨⟨l, h1⟩, h2, h3⟩ := interruptBill_spec (n := s.comp.routedNext) hp hn hb
    rw [he]
    by_cases hq : r.tag.seq = 1
    · have hf : routeFresh r (interruptBill c s.comp.routedNext s) =
          (.main, commitMain r (interruptBill c s.comp.routedNext s)) := if_pos hq
      rw [hf, if_pos hq]
      refine ⟨rfl, ?_, ⟨_, h2, rfl, rfl, rfl⟩, fun _ => ⟨rfl, ?_⟩, fun h => absurd hq h⟩
      · show c ∈ (interruptBill c s.comp.routedNext s).track.broken
        simp [h1]
      · show (if r.last then 1 else r.tag.seq + 1) = _
        rw [hq]
    · have hf : routeFresh r (interruptBill c s.comp.routedNext s) =
          (.alt, refuseOrder r (interruptBill c s.comp.routedNext s)) := if_neg hq
      rw [hf, if_neg hq]
      refine ⟨rfl, ?_, ⟨_, breakSet_mem (raise_pending_mem h2), rfl, rfl, rfl⟩, fun h => absurd h hq,
        fun _ => breakSet_listed _ _ _⟩
      show c ∈ (breakSet r.tag.set .sequence _).track.broken
      rw [breakSet_broken, raise_track, h1]
      split
      · simp
      · exact pushBroken_keeps

end Sys2Proof.Machine

/-! PROOFS. The image decision, the sync point (R114 to R122) and the end of an image wait (R117). -/

namespace Sys2Proof.Machine

/-! ### Own reasons held (R61, R62) -/

/-- What `addReason` leaves of a channel: it loses demand where the hold set was empty (R54, R61). -/
def Chan.slowedBy (hold : List HoldEntry) (c : Chan) : Chan :=
  if hold = [] ∧ (c.run = .rampUp ∨ c.run = .atSpeed) then
    { c with run := if c.ramp = 0 then .stopped else .rampDown }
  else c

theorem slowedBy_of_ne {hold : List HoldEntry} (h : hold ≠ []) (c : Chan) : c.slowedBy hold = c := if_neg fun x => h x.1

/-- Adding an own reason touches the port, the hold set and the demand alone (R61). -/
theorem addReason_slows (r : OwnReason) (s : State) :
    ∃ (port : Port) (hold : List HoldEntry), addReason r s = { s with
      port := port
      drive := { s.drive with
        chA := s.drive.chA.slowedBy s.drive.hold, chB := s.drive.chB.slowedBy s.drive.hold, hold := hold } } := by
  cases he : s.holdEntry? s.ctl.address with
  | some e =>
    have hne : s.drive.hold ≠ [] := List.ne_nil_of_mem (List.mem_of_find?_eq_some he)
    rw [slowedBy_of_ne hne, slowedBy_of_ne hne, addReason_own he]
    exact ⟨_, _, rfl⟩
  | none =>
    unfold addReason
    rw [he, yieldDemand_eq]
    exact ⟨_, _, rfl⟩

theorem holdsIn_put (r : OwnReason) (on : Bool) (o : Reasons) : r.holdsIn (r.put on o) = on := by cases r <;> rfl

/-- A change of the own entries is found at the own entry. -/
theorem find?_own_map (l : List HoldEntry) (a : Nat) (f : HoldEntry → HoldEntry) (hf : ∀ e, (f e).origin = e.origin) :
    (l.map fun x => if x.origin = a then f x else x).find? (fun e => e.origin == a) =
      (l.find? fun e => e.origin == a).map f := by
  induction l with
  | nil => rfl
  | cons x l ih =>
    by_cases hx : x.origin = a
    · simp [hx, hf]
    · simp [hx, ih]

/-- An own reason added is held (R61). -/
theorem addReason_holds (r : OwnReason) (s : State) : (addReason r s).ownHolds r = true := by
  cases he : s.holdEntry? s.ctl.address with
  | some e =>
    rw [addReason_own he]
    unfold State.ownHolds State.holdEntry?
    dsimp only
    rw [find?_own_map s.drive.hold s.ctl.address (fun x => { x with own := r.put true x.own }) fun _ => rfl]
    unfold State.holdEntry? at he
    rw [he]
    exact holdsIn_put r true e.own
  | none =>
    unfold addReason
    rw [he, yieldDemand_eq]
    unfold State.ownHolds State.holdEntry?
    simp only [sendAll_drive, sendAll_ctl, State.withHold]
    have hn : s.drive.hold.find? (fun e => e.origin == s.ctl.address) = none := he
    rw [List.find?_append, hn]
    simp [holdsIn_put]

/-- An own reason removed is not held (R62). -/
theorem removeReason_holds (r : OwnReason) (s : State) : (removeReason r s).ownHolds r = false := by
  cases ho : s.ownHolds r with
  | false => rw [removeReason_absent ho, ho]
  | true =>
    unfold State.ownHolds at ho
    cases he : s.holdEntry? s.ctl.address with
    | none => simp [he] at ho
    | some e =>
      rw [he] at ho
      dsimp only at ho
      unfold removeReason
      rw [he]
      dsimp only
      rw [if_neg (by simp [ho])]
      split
      · unfold State.ownHolds State.holdEntry?
        simp only [State.withHold]
        rw [find?_own_map s.drive.hold s.ctl.address (fun x => { x with own := r.put false x.own }) fun _ => rfl]
        unfold State.holdEntry? at he
        rw [he]
        exact holdsIn_put r false e.own
      · have hoe : e.origin = s.ctl.address := by simpa using List.find?_some he
        rw [releaseEntry_eq]
        unfold State.ownHolds State.holdEntry?
        dsimp only
        have hn : (s.drive.hold.filter fun x => x.origin != e.origin).find? (fun x => x.origin == s.ctl.address) =
            none := by
          rw [List.find?_eq_none]
          intro x hx
          have := (List.mem_filter.mp hx).2
          simpa [hoe] using this
        rw [hn]

/-! ### The decision at the REG sensor (R114, R115) -/

theorem map_of_tag {s : State} {r : Record} (hs : s.queueSound) (hr : r ∈ s.track.queue) (f : Record → Record) :
    (s.track.queue.map fun x => if x.tag = r.tag then f x else x) =
      s.track.queue.map fun x => if x.tag = r.tag then f r else x :=
  List.map_congr_left fun x hx => by
    by_cases h : x.tag = r.tag
    · rw [if_pos h, if_pos h, eq_of_tag hs hr hx h]
    · rw [if_neg h, if_neg h]

/-- The entry of a record's tag and side (R110). -/
theorem belongs_eq (e : ImageEntry) (r : Record) :
    e.belongs r = (e == { tag := r.tag, side := if r.side = .second then 2 else 1 }) := by
  rw [Bool.eq_iff_iff, belongs_iff]
  obtain ⟨t, d⟩ := e
  simp [Record.imageSide]

theorem dropImages_eq (r : Record) (s : State) : dropImages r s = { s with reg := { s.reg with
    images := s.reg.images.filter fun e => e != { tag := r.tag, side := if r.side = .second then 2 else 1 } } } := by
  unfold dropImages
  simp only [belongs_eq]
  rfl

theorem anyBelongs_iff (r : Record) (s : State) : (s.reg.images.any fun e => e.belongs r) = true ↔
    { tag := r.tag, side := if r.side = .second then 2 else 1 } ∈ s.reg.images := by
  simp [belongs_eq]

/-- The decision of a record that carries a mark, or whose image is listed (R114). -/
theorem decideImage_listed {s : State} {r : Record} (hs : s.queueSound) (hr : r ∈ s.track.queue)
    (h : r.marks.ghost = true ∨ r.marks.broken = true ∨ r.marks.spoiled = true ∨
      { tag := r.tag, side := if r.side = .second then 2 else 1 } ∈ s.reg.images) :
    decideImage r s = { s with
      reg := { s.reg with
        images := s.reg.images.filter fun e => e != { tag := r.tag, side := if r.side = .second then 2 else 1 } }
      track := { s.track with
        queue := s.track.queue.map fun x =>
          if x.tag = r.tag then
            { r with image := some (if r.marks.ghost ∨ r.marks.broken ∨ r.marks.spoiled then .skipped else .ready) }
          else x } } := by
  unfold decideImage
  rw [dropImages_eq]
  by_cases hm : r.marks.ghost = true ∨ r.marks.broken = true ∨ r.marks.spoiled = true
  · rw [if_pos hm, if_pos hm, ← map_of_tag hs hr fun x => { x with image := some .skipped }]
    rfl
  · have hl : { tag := r.tag, side := if r.side = .second then 2 else 1 } ∈ s.reg.images := by
      simp only [not_or] at hm
      rcases h with h | h | h | h
      · exact absurd h hm.1
      · exact absurd h hm.2.1
      · exact absurd h hm.2.2
      · exact h
    rw [if_neg hm, if_pos ((anyBelongs_iff r s).mpr hl), if_neg hm,
      ← map_of_tag hs hr fun x => { x with image := some .ready }]
    rfl

theorem someWaiting_of_none {s : State} (h : ∀ x ∈ s.track.queue, x.image ≠ some .waiting) : s.someWaiting = false := by
  rw [Bool.eq_false_iff]
  intro hx
  obtain ⟨x, hx, hw⟩ := (someWaiting_iff s).mp hx
  exact h x hx hw

/-- The decision of the first record to wait (R114 to R116). -/
theorem decideImage_waits {s : State} {r : Record} (hm : r.marks = Marks.none)
    (hl : { tag := r.tag, side := if r.side = .second then 2 else 1 } ∉ s.reg.images)
    (hw : ∀ x ∈ s.track.queue, x.image ≠ some .waiting) :
    decideImage r s = { addReason .imageWait (setImage r.tag .waiting s) with reg := { s.reg with timer := .armed } } := by
  unfold decideImage
  rw [if_neg (by simp [hm, Marks.none]), if_neg fun h => hl ((anyBelongs_iff r s).mp h), beginImageWait,
    someWaiting_of_none hw, if_neg (by simp)]

theorem setImage_rec? {s : State} {r : Record} {i : ImageState} (hs : s.queueSound) (hr : r ∈ s.track.queue) :
    (setImage r.tag i s).rec? r.tag = some { r with image := some i } := by
  rw [setImage, rec?_mapRec (f := fun x => { x with image := some i }) (fun _ => rfl), rec?_of_mem hs hr]
  rfl

theorem setImage_rec?_ne {s : State} {t u : Tag} {i : ImageState} (h : u ≠ t) :
    (setImage t i s).rec? u = s.rec? u :=
  rec?_mapRec_ne (f := fun x => { x with image := some i }) (fun _ => rfl) h s

/-! ### The sync point (R119 to R121) -/

theorem hasPageSync_eq (s : State) :
    s.hasPageSync = [0, 1, 2, 3].any fun n => decide (s.lineFunction n = .pageSync) := rfl

/-- READY at the sync point (R119 to R121). -/
theorem syncAction_ready {s : State} {r : Record} (hs : s.queueSound) (hr : r ∈ s.track.queue)
    (hi : r.image = some .ready) :
    syncAction r s =
      if r.marks.broken = true ∨ r.marks.spoiled = true then
        { s with track := { s.track with
          queue := s.track.queue.map fun x => if x.tag = r.tag then { r with image := some .skipped } else x } }
      else { s with
        port := s.port.post s.engAddr (.sync r.tag r.last (if r.side = .second then 2 else 1))
        reg := { s.reg with
          pulse := s.reg.pulse || ([0, 1, 2, 3].any fun n => decide (s.lineFunction n = .pageSync)) }
        track := { s.track with
          queue := s.track.queue.map fun x => if x.tag = r.tag then { r with image := some .printed } else x } } := by
  unfold syncAction
  rw [hi]
  dsimp only
  rw [← map_of_tag hs hr fun x => { x with image := some .skipped },
    ← map_of_tag hs hr fun x => { x with image := some .printed }]
  rfl

/-- WAITING at the sync point, alone and with no other reason in the hold set: SKIPPED, with IMAGE against it; the hold
set is empty again (R62, R116, R120). -/
theorem syncAction_waiting {s : State} {r : Record} {e : HoldEntry} (hw : ∀ x ∈ s.track.queue, x.tag ≠ r.tag →
      x.image ≠ some .waiting) (hi : r.image = some .waiting) (hh : s.drive.hold = [e])
    (ho : e.origin = s.ctl.address) (hown : e.own = OwnReason.imageWait.put true Reasons.none) :
    ∃ (port : Port) (hand : Handoff), syncAction r s = { s with
      port := port
      hand := hand
      drive := { s.drive with hold := [] }
      reg := { s.reg with timer := .idle }
      flt := (raise (requestFor .image r (some r.pos) s.regSensor) s).flt
      track := (setImage r.tag .skipped s).track } := by
  have hn : (raiseImage r (setImage r.tag .skipped s)).someWaiting = false := by
    rw [Bool.eq_false_iff]
    intro hx
    obtain ⟨x, hx, hxt, hxw⟩ := (setImage_someWaiting (i := .skipped) (s := s) (by simp)).mp (by exact hx)
    exact hw x hx hxt hxw
  have he : ∀ u : State, u.drive.hold = [e] → u.ctl.address = e.origin → u.holdEntry? u.ctl.address = some e := by
    intro u hu hc
    simp [State.holdEntry?, hu, hc]
  have hoh : (raiseImage r (setImage r.tag .skipped s)).ownHolds .imageWait = true := by
    unfold State.ownHolds
    rw [he _ (by exact hh) (by exact ho.symm)]
    dsimp only
    rw [hown, holdsIn_put]
  unfold syncAction
  rw [hi]
  dsimp only
  rw [reviewImageWait_of_none hn, if_pos hoh,
    removeReason_last (he _ (by exact hh) (by exact ho.symm)) (by rw [hown, holdsIn_put]) (by
      rw [hown]
      intro r' hr'
      cases r' <;> simp_all [OwnReason.put, OwnReason.holdsIn, Reasons.none]), releaseEntry_eq]
  have hf : (s.drive.hold.filter fun x => x.origin != e.origin) = [] := by simp [hh]
  exact ⟨_, _, congrArg (fun l : List HoldEntry => ({ s with
    port := _, hand := _, drive := { s.drive with hold := l }, reg := _, flt := _, track := _ } : State)) hf⟩

/-- The first own reason under no hold is the only entry, and the channels lose demand (R54, R61). -/
theorem addReason_first {r : OwnReason} {s : State} (hh : s.drive.hold = []) :
    ∃ (port : Port) (e : HoldEntry), e.origin = s.ctl.address ∧ e.own = r.put true Reasons.none ∧
      addReason r s = { s with
        port := port
        drive := { s.drive with
          chA := s.drive.chA.slowedBy [], chB := s.drive.chB.slowedBy [], hold := [e] } } := by
  have hn : s.holdEntry? s.ctl.address = none := by simp [State.holdEntry?, hh]
  refine ⟨s.port.postAll s.sharing (.hold s.ctl.address),
    { origin := s.ctl.address, own := r.put true Reasons.none, via := none, fwd := s.sharing }, rfl, rfl, ?_⟩
  unfold addReason
  rw [hn, yieldDemand_eq, hh]
  rfl

/-- A record WAITING at its sync point. -/
def Record.waitsAtSync (r : Record) : Record :=
  { r with image := some .waiting, reached := { r.reached with sync := true } }

theorem mapRec_mapRec {t : Tag} {f g : Record → Record} (hf : ∀ x, (f x).tag = x.tag) (s : State) :
    mapRec t g (mapRec t f s) = mapRec t (g ∘ f) s := by
  unfold mapRec
  dsimp only
  rw [List.map_map]
  have : ((fun r => if r.tag = t then g r else r) ∘ fun r => if r.tag = t then f r else r) =
      fun r => if r.tag = t then (g ∘ f) r else r := by
    funext x
    by_cases h : x.tag = t <;> simp [h, hf]
  rw [this]

/-- The first record to wait, at its sync point already and under no other hold: SKIPPED, with IMAGE against it, in the
event of its decision (R55, R120). -/
theorem atRegSensor_late {s : State} {r : Record} {k before : Nat} (hs : s.queueSound) (hr : r ∈ s.track.queue)
    (hm : r.marks = Marks.none) (hi : r.image = none)
    (hl : { tag := r.tag, side := if r.side = .second then 2 else 1 } ∉ s.reg.images)
    (hw : ∀ x ∈ s.track.queue, x.image ≠ some .waiting) (hk : s.regSensor = some k) (hb : s.spos k + s.syncD ≤ before)
    (hh : s.drive.hold = []) :
    ∃ (port : Port) (hand : Handoff), atRegSensor r.tag before s = { s with
      port := port
      hand := hand
      drive := { s.drive with chA := s.drive.chA.slowedBy [], chB := s.drive.chB.slowedBy [] }
      reg := { s.reg with timer := .idle }
      flt := (raise (requestFor .image r (some r.pos) s.regSensor) s).flt
      track := { s.track with queue := s.track.queue.map fun x => if x.tag = r.tag then
        { r with image := some .skipped, reached := { r.reached with sync := true } } else x } } := by
  obtain ⟨port, e, he1, he2, hadd⟩ := addReason_first (r := .imageWait) (s := setImage r.tag .waiting s) hh
  have hdec : mapRec r.tag (fun x => { x with reached := { x.reached with sync := true } }) (decideImage r s) =
      { mapRec r.tag Record.waitsAtSync s with
        port := port
        drive := { s.drive with chA := s.drive.chA.slowedBy [], chB := s.drive.chB.slowedBy [], hold := [e] }
        reg := { s.reg with timer := .armed } } := by
    have hmm : mapRec r.tag (fun x => { x with reached := { x.reached with sync := true } })
        (setImage r.tag .waiting s) = mapRec r.tag Record.waitsAtSync s :=
      mapRec_mapRec (f := fun x => { x with image := some .waiting }) (fun _ => rfl) s
    rw [decideImage_waits hm hl hw, hadd, ← hmm]
    rfl
  have hrec : State.rec? { mapRec r.tag Record.waitsAtSync s with
      port := port
      drive := { s.drive with chA := s.drive.chA.slowedBy [], chB := s.drive.chB.slowedBy [], hold := [e] }
      reg := { s.reg with timer := .armed } } r.tag = some r.waitsAtSync := by
    have := rec?_mapRec (t := r.tag) (f := Record.waitsAtSync) (fun _ => rfl) s
    rw [rec?_of_mem hs hr] at this
    exact this
  have hat : atRegSensor r.tag before s = syncAction r.waitsAtSync { mapRec r.tag Record.waitsAtSync s with
      port := port
      drive := { s.drive with chA := s.drive.chA.slowedBy [], chB := s.drive.chB.slowedBy [], hold := [e] }
      reg := { s.reg with timer := .armed } } := by
    unfold atRegSensor
    rw [onRec_of_rec? (rec?_of_mem hs hr), if_neg (by simp [hi])]
    dsimp only
    rw [if_pos (.inr (by simpa [hk] using hb)), hdec, onRec_of_rec? hrec]
  obtain ⟨port', hand', hsync⟩ := syncAction_waiting (r := r.waitsAtSync) (e := e)
    (s := { mapRec r.tag Record.waitsAtSync s with
      port := port
      drive := { s.drive with chA := s.drive.chA.slowedBy [], chB := s.drive.chB.slowedBy [], hold := [e] }
      reg := { s.reg with timer := .armed } }) (by
      intro y hy hyt
      obtain ⟨x, hx, rfl⟩ := List.mem_map.mp hy
      by_cases hxt : x.tag = r.tag
      · exact absurd (by simp [hxt, Record.waitsAtSync]) hyt
      · simpa [hxt] using hw x hx) rfl rfl he1 he2
  refine ⟨port', hand', hat.trans (hsync.trans ?_)⟩
  have htr : setImage r.tag .skipped (mapRec r.tag Record.waitsAtSync s) = mapRec r.tag
      ((fun x => { x with image := some .skipped }) ∘ Record.waitsAtSync) s :=
    mapRec_mapRec (f := Record.waitsAtSync) (fun _ => rfl) s
  have hq := map_of_tag hs hr ((fun x => { x with image := some .skipped }) ∘ Record.waitsAtSync)
  have hd : { s.drive with chA := s.drive.chA.slowedBy [], chB := s.drive.chB.slowedBy [], hold := [] } =
      { s.drive with chA := s.drive.chA.slowedBy [], chB := s.drive.chB.slowedBy [] } :=
    congrArg (fun l => { s.drive with chA := s.drive.chA.slowedBy [], chB := s.drive.chB.slowedBy [], hold := l }) hh.symm
  have hq' : (setImage r.tag .skipped (mapRec r.tag Record.waitsAtSync s)).track = { s.track with
      queue := s.track.queue.map fun x => if x.tag = r.tag then
        { r with image := some .skipped, reached := { r.reached with sync := true } } else x } := by
    rw [htr]
    exact congrArg (fun l => { s.track with queue := l }) hq
  rw [← hd, ← hq']
  rfl

/-- Settles O59: the decision at the REG sensor and the action at the sync point. -/
theorem imageDecisionAndSync : Obligations.ImageDecisionAndSync := by
  unfold Obligations.ImageDecisionAndSync
  refine ⟨?_, ?_, ?_, ?_, ?_, ?_⟩
  · exact fun s r hs hr h => decideImage_listed hs hr h
  · intro s r hs hr hm hl hw
    obtain ⟨port, hold, e⟩ := addReason_slows .imageWait (setImage r.tag .waiting s)
    refine ⟨_, decideImage_waits hm hl hw, ?_, rfl, ?_, ?_, ?_⟩
    · exact addReason_holds .imageWait (setImage r.tag .waiting s)
    · rw [e]
      exact setImage_rec? hs hr
    · intro u hu
      rw [e]
      exact setImage_rec?_ne hu
    · rw [e]
      rfl
  · exact fun s r hs hr hi => syncAction_ready hs hr hi
  · intro s r hi
    unfold syncAction
    rcases hi with hi | hi <;> rw [hi]
  · exact fun s r => rfl
  · intro s r k before hs hr hm hi hl hw hk hb hh
    obtain ⟨port, hand, e⟩ := atRegSensor_late hs hr hm hi hl hw hk hb hh
    refine ⟨_, e, rfl, ?_⟩
    have hd : ∀ c : Chan, c.slowedBy [] =
        if c.run = .rampUp ∨ c.run = .atSpeed then { c with run := if c.ramp = 0 then .stopped else .rampDown } else c :=
      fun c => by simp [Chan.slowedBy]
    have hreq : requestFor .image r (some r.pos) s.regSensor =
        { code := .image, original := none, involved := some r.tag, tag := some r.tag, last := r.last,
          position := some (r.lead / 256), sensor := some k, worst := r.worst, ghost := false } := by
      simp [requestFor, hk, hm, Marks.none, Record.pos]
    rw [hd, hd, hreq]
    rfl

end Sys2Proof.Machine

/-! PROOFS. The end of an image wait (R117). -/

namespace Sys2Proof.Machine

/-- The Fault Unit when IMAGE is raised against a record at the REG sensor (R117, R140, R141). -/
def State.imageRaised (s : State) (f : FaultUnit) (r : Record) : FaultUnit :=
  if s.ctl.st.faultsPend then (f.count .image).pend (requestFor .image r (some r.pos) s.regSensor) else f.count .image

/-- The records of these tags become SKIPPED. -/
def skipTags (ts : List Tag) (r : Record) : Record := if r.tag ∈ ts then { r with image := some .skipped } else r

theorem skipTags_tag (ts : List Tag) (r : Record) : (skipTags ts r).tag = r.tag := by
  unfold skipTags
  split <;> rfl

theorem skipTags_cons (t : Tag) (ts : List Tag) (r : Record) :
    skipTags ts (if r.tag = t then { r with image := some .skipped } else r) = skipTags (t :: ts) r := by
  unfold skipTags
  by_cases h : r.tag = t
  · by_cases h' : t ∈ ts <;> simp [h, h']
  · by_cases h' : r.tag ∈ ts <;> simp [h, h']

/-- Each of these waits ends: the record is SKIPPED and IMAGE is raised against it (R117). -/
theorem foldl_expireImage (rs : List Record) (s : State) :
    rs.foldl (fun s r => expireImage r s) s = { s with
      flt := rs.foldl s.imageRaised s.flt
      track := { s.track with queue := s.track.queue.map (skipTags (rs.map Record.tag)) } } := by
  induction rs generalizing s with
  | nil =>
    have : s.track.queue.map (skipTags []) = s.track.queue :=
      (List.map_congr_left fun x _ => by simp [skipTags]).trans (List.map_id _)
    simp only [List.foldl_nil, List.map_nil, this]
  | cons r rs ih =>
    have hm : ((s.track.queue.map fun x => if x.tag = r.tag then { x with image := some .skipped } else x).map
        (skipTags (rs.map Record.tag))) = s.track.queue.map (skipTags ((r :: rs).map Record.tag)) := by
      rw [List.map_map]
      exact List.map_congr_left fun x _ => skipTags_cons r.tag _ x
    rw [List.foldl_cons, ih, List.foldl_cons, ← hm]
    rfl

/-- The WAITING records, oldest first (R117). -/
def State.waitingRecords (s : State) : List Record := s.track.queue.filter fun r => decide (r.image = some .waiting)

/-- The waits of all WAITING records end, oldest first (R117). -/
theorem expireImages_eq (s : State) :
    expireImages s.track.queue s = { s with
      flt := s.waitingRecords.foldl s.imageRaised s.flt
      track := { s.track with queue := s.track.queue.map (skipTags (s.waitingRecords.map Record.tag)) } } := by
  rw [← foldl_expireImage, State.waitingRecords, List.foldl_filter]
  simp [expireImages]

/-- A WAITING record becomes SKIPPED (R117). -/
def Record.waitEnded (r : Record) : Record := if r.image = some .waiting then { r with image := some .skipped } else r

theorem waitEnded_face (r : Record) : r.waitEnded.face = r.face ∧ r.waitEnded.offerOwed = r.offerOwed := by
  unfold Record.waitEnded
  split <;> exact ⟨rfl, rfl⟩

theorem waitEnded_isLoop (r : Record) : r.waitEnded.isLoop = r.isLoop := by
  unfold Record.waitEnded
  split <;> rfl

/-- In a sound queue the records of the tags of the WAITING ones are these. -/
theorem map_skipTags {s : State} (hs : s.queueSound) :
    s.track.queue.map (skipTags (s.waitingRecords.map Record.tag)) = s.track.queue.map Record.waitEnded := by
  refine List.map_congr_left fun x hx => ?_
  unfold skipTags Record.waitEnded State.waitingRecords
  by_cases hw : x.image = some .waiting
  · rw [if_pos hw, if_pos (List.mem_map_of_mem (List.mem_filter.mpr ⟨hx, decide_eq_true hw⟩))]
  · rw [if_neg hw, if_neg]
    intro hm
    obtain ⟨y, hy, hyt⟩ := List.mem_map.mp hm
    obtain ⟨hyq, hyw⟩ := List.mem_filter.mp hy
    exact hw (eq_of_tag hs hyq hx hyt.symm ▸ of_decide_eq_true hyw)

/-! ### The counter and the pending request (R140, R141) -/

theorem imageRaised_counters (s : State) (f : FaultUnit) (r : Record) :
    (s.imageRaised f r).counters = f.counters.set 8 (min (f.counters.getD 8 0 + 1) 255) := by
  have hp : ∀ (g : FaultUnit) (q : Request), (g.pend q).counters = g.counters := by
    intro g q
    unfold FaultUnit.pend
    split <;> rfl
  unfold State.imageRaised
  split
  · rw [hp]
    rfl
  · rfl

/-- Raising IMAGE changes the counters and the pending requests alone (R140, R141). -/
theorem foldl_imageRaised_rest (s : State) (rs : List Record) (f : FaultUnit) :
    rs.foldl s.imageRaised f = { f with
      counters := (rs.foldl s.imageRaised f).counters, pending := (rs.foldl s.imageRaised f).pending } := by
  have h1 : ∀ (g : FaultUnit) (r : Record), (s.imageRaised g r).stack = g.stack ∧
      (s.imageRaised g r).restartNeeded = g.restartNeeded := by
    intro g r
    unfold State.imageRaised FaultUnit.pend
    split
    · split <;> exact ⟨rfl, rfl⟩
    · exact ⟨rfl, rfl⟩
  induction rs generalizing f with
  | nil => rfl
  | cons r rs ih =>
    obtain ⟨e1, e2⟩ := h1 f r
    rw [List.foldl_cons, ← e1, ← e2]
    exact ih _

/-- IMAGE is counted once for each record, up to 255 (R117, R140). -/
theorem foldl_imageRaised_counters (s : State) (rs : List Record) (f : FaultUnit) (h8 : 8 < f.counters.length) :
    (rs.foldl s.imageRaised f).counters = if rs.length = 0 then f.counters
      else f.counters.set 8 (min (f.counters.getD 8 0 + rs.length) 255) := by
  induction rs generalizing f with
  | nil => rfl
  | cons r rs ih =>
    have hc := imageRaised_counters s f r
    rw [List.foldl_cons, ih _ (by rw [hc]; simpa using h8), hc]
    have hg : (f.counters.set 8 (min (f.counters.getD 8 0 + 1) 255)).getD 8 0 = min (f.counters.getD 8 0 + 1) 255 := by
      simp [List.getD_eq_getElem?_getD, h8]
    rw [hg, List.set_set]
    cases rs with
    | nil => simp
    | cons y ys =>
      rw [if_neg (by simp), if_neg (by simp)]
      congr 1
      simp only [List.length_cons]
      omega

/-- The oldest is the request pending, where the state lets faults pend and none was (R117, R141). -/
theorem foldl_imageRaised_pending {s : State} (hp : s.ctl.st.faultsPend = true) (rs : List Record) (f : FaultUnit)
    (hn : f.pendingOf .image = none) : (rs.foldl s.imageRaised f).pending =
      f.pending ++ (rs.head?.map fun r => requestFor .image r (some r.pos) s.regSensor).toList := by
  have hsome : ∀ (rs : List Record) (g : FaultUnit) (q : Request), g.pendingOf .image = some q →
      (rs.foldl s.imageRaised g).pending = g.pending := by
    intro rs
    induction rs with
    | nil => exact fun _ _ _ => rfl
    | cons r rs ih =>
      intro g q hq
      have hg : s.imageRaised g r = g.count .image := by
        have hq' : (g.count .image).pendingOf (requestFor .image r (some r.pos) s.regSensor).code = some q := hq
        unfold State.imageRaised FaultUnit.pend
        rw [if_pos hp, hq']
      rw [List.foldl_cons, hg]
      exact ih (g.count .image) q hq
  cases rs with
  | nil => simp
  | cons r rs =>
    have hg : s.imageRaised f r = { f.count .image with
        pending := f.pending ++ [requestFor .image r (some r.pos) s.regSensor] } := by
      have hn' : (f.count .image).pendingOf (requestFor .image r (some r.pos) s.regSensor).code = none := hn
      unfold State.imageRaised FaultUnit.pend
      rw [if_pos hp, hn']
      rfl
    have hf : FaultUnit.pendingOf { f.count .image with
        pending := f.pending ++ [requestFor .image r (some r.pos) s.regSensor] } .image =
          some (requestFor .image r (some r.pos) s.regSensor) := by
      have hn' : (f.pending.find? fun q => q.code == .image) = none := hn
      unfold FaultUnit.pendingOf
      rw [List.find?_append, hn']
      rfl
    rw [List.foldl_cons, hg, hsome rs _ _ hf]
    rfl

/-! ### IMAGE_WAIT_EXPIRY (R117) -/

theorem idle_startedBy (stands : Bool) : Timer.idle.startedBy stands = .idle := by simp [Timer.startedBy]

theorem exec_imageWaitExpiry {s : State} (h0 : s.ctl.resetLow = false) (ht : s.reg.timer = .running) :
    exec .imageWaitExpiry s = .next (settle s (endImageWait s)) := if_pos ⟨h0, ht⟩

/-- No record waits any more. -/
theorem someWaiting_skipped {s : State} {f : FaultUnit} (reg : Registration) : State.someWaiting { s with
    reg := reg
    flt := f
    track := { s.track with queue := s.track.queue.map Record.waitEnded } } = false := by
  refine someWaiting_of_none fun x hx => ?_
  obtain ⟨y, hy, rfl⟩ := List.mem_map.mp hx
  by_cases h : y.image = some .waiting <;> simp [Record.waitEnded, h]

/-- What the end of an image wait leaves (R116, R117). -/
theorem endImageWait_eq {s : State} (hs : s.queueSound) :
    ∃ (port : Port) (d1 d2 : Option Deferral) (hold : List HoldEntry), endImageWait s = { s with
      port := port
      hand := { s.hand with deferred1 := d1, deferred2 := d2 }
      drive := { s.drive with hold := hold }
      reg := { s.reg with timer := .idle }
      flt := s.waitingRecords.foldl s.imageRaised s.flt
      track := { s.track with queue := s.track.queue.map Record.waitEnded } } ∧
      (d1 = s.hand.deferred1 ∨ d1 = none) ∧ (d2 = s.hand.deferred2 ∨ d2 = none) ∧
      (endImageWait s).ownHolds .imageWait = false := by
  have he : endImageWait s = reviewImageWait { s with
      reg := { s.reg with timer := .idle }
      flt := s.waitingRecords.foldl s.imageRaised s.flt
      track := { s.track with queue := s.track.queue.map Record.waitEnded } } := by
    unfold endImageWait
    rw [← map_skipTags hs]
    exact congrArg reviewImageWait (expireImages_eq { s with reg := { s.reg with timer := .idle } })
  rw [he, reviewImageWait_of_none (someWaiting_skipped _)]
  split
  · obtain ⟨p, d1, d2, h, e, h1, h2⟩ := removeReason_spec .imageWait { s with
      reg := { s.reg with timer := .idle }
      flt := s.waitingRecords.foldl s.imageRaised s.flt
      track := { s.track with queue := s.track.queue.map Record.waitEnded } }
    exact ⟨p, d1, d2, h, e, h1, h2, removeReason_holds _ _⟩
  · next ho => exact ⟨_, _, _, _, rfl, .inl rfl, .inl rfl, Bool.eq_false_iff.mpr ho⟩

/-- Settles O34: every wait ends, and with them the own entry's reason. -/
theorem imageWaitExpires : Obligations.ImageWaitExpires := by
  unfold Obligations.ImageWaitExpires
  intro s h0 ht hq hs h8
  obtain ⟨port, d1, d2, hold, e, h1, h2, ho⟩ := endImageWait_eq hs
  obtain ⟨q0, q1, q2, q3⟩ := hq
  have hset : settle s (endImageWait s) = settleDrive (endImageWait s) := by
    rw [e]
    refine settle_mapped (f := Record.waitEnded) ⟨?_, ?_, ?_, q3⟩ (fun r => (waitEnded_face r).1) rfl rfl rfl ⟨rfl, rfl⟩
      rfl (.inl (loopEnded_mapped (f := Record.waitEnded) (fun r => congrArg (·.1) (waitEnded_face r).1)
        waitEnded_isLoop rfl))
    · intro x hx
      obtain ⟨y, hy, rfl⟩ := List.mem_map.mp hx
      rw [(waitEnded_face y).2]
      exact q0 y hy
    · rcases h1 with rfl | rfl
      · exact q1
      · simp
    · rcases h2 with rfl | rfl
      · exact q2
      · simp
  rw [e] at hset ho
  rw [exec_imageWaitExpiry h0 ht, e, hset, settleDrive_eq (by exact q3)]
  refine ⟨_, rfl, ?_, ho, foldl_imageRaised_counters s _ _ h8, ?_⟩
  · dsimp only
    rw [idle_startedBy, ← foldl_imageRaised_rest s s.waitingRecords s.flt]
    rfl
  · intro hp hn r hr
    have hh : s.waitingRecords.head? = some r := by
      rw [State.waitingRecords, List.head?_filter]
      exact hr
    exact (foldl_imageRaised_pending hp s.waitingRecords s.flt hn).trans (by rw [hh]; rfl)

end Sys2Proof.Machine

/-! PROOFS. The operations of the compile tray (R126 to R136). -/

namespace Sys2Proof.Machine

/-! ### Orders (R129, R130) -/

/-- The Fault Unit when an order has met an active BIN_FULL line: BIN is raised once (R130). -/
def State.binRaised (s : State) : FaultUnit :=
  if s.comp.binReported = true then s.flt
  else if s.ctl.st.faultsPend = true then (s.flt.count .bin).pend
    { code := .bin, original := none, involved := none, tag := none, last := false, position := none,
      sensor := none, worst := 0, ghost := false }
  else s.flt.count .bin

theorem binWait_eq (s : State) : binWait s = { s with comp := { s.comp with binReported := true }, flt := s.binRaised } := by
  unfold binWait State.binRaised
  by_cases h : s.comp.binReported = true
  · rw [if_pos h, if_pos h, ← h]
  · rw [if_neg h, if_neg h]
    rfl

/-- A dump ordered begins, or waits for the bin (R129, R130, R133). -/
theorem orderDump_eq (why : DumpReason) (s : State) : orderDump why s =
    if s.functionActive .binFull = true then { s with
      comp := { s.comp with
        op := .dumping .binWait, dumpReason := some why, keepOpen := false, binReported := true }
      flt := s.binRaised }
    else { s with
      comp := { s.comp with
        op := .dumping .active, timer := .running, dumpReason := some why, keepOpen := false, dumpLine := true }
      port := s.port.post s.engAddr (.purged (s.comp.traySet.getD 0) s.comp.count why) } := by
  unfold orderDump beginOrWait
  rw [binWait_eq]
  rfl

/-- An eject ordered begins, or waits for the bin (R129 to R132). -/
theorem orderEject_eq (split : Bool) (s : State) : orderEject split s =
    if s.functionActive .binFull = true then { s with
      comp := { s.comp with
        op := .ejecting .binWait, split := s.comp.split || split, keepOpen := split, binReported := true }
      flt := s.binRaised }
    else { s with
      comp := { s.comp with
        op := .ejecting .active, timer := .running, ejectLine := true, offset := !s.comp.offset
        split := s.comp.split || split, keepOpen := split }
      port := s.port.post s.engAddr
        (.delivered (s.comp.traySet.getD 0) s.comp.count (s.comp.split || split)) } := by
  unfold orderEject beginOrWait
  rw [binWait_eq]
  rfl

/-! ### Entry (R128, R129) -/

theorem counted_eq (c : Compile) (e : TrayEntry) : c.counted e =
    { c with traySet := some (c.traySet.getD e.tag.set), count := c.count + 1, nextSeq := e.tag.seq + 1 } := by
  unfold Compile.counted
  cases c.traySet <;> rfl

theorem entryMarked_iff (s : State) (e : TrayEntry) : s.entryMarked e = true ↔
    e.marks.broken = true ∨ e.marks.spoiled = true ∨ e.marks.ghost = true ∨ e.marks.misrouted = true ∨
      e.suspect = true ∨ e.tag.set ∈ s.track.broken := by
  simp only [State.entryMarked, Marks.any, Bool.or_eq_true, List.contains_iff_mem]
  tauto

/-- An entry applied counts and orders the tray's next operation (R129). -/
theorem applyEntry_eq (e : TrayEntry) (s : State) : applyEntry e s =
    if e.marks.broken = true ∨ e.marks.spoiled = true ∨ e.marks.ghost = true ∨ e.marks.misrouted = true ∨
        e.suspect = true ∨ e.tag.set ∈ s.track.broken then orderDump .marked { s with comp := s.comp.counted e }
    else if e.last = true ∨ s.comp.count + 1 = s.ccap then orderEject (!e.last) { s with comp := s.comp.counted e }
    else { s with comp := s.comp.counted e } := by
  unfold applyEntry
  dsimp only
  refine if_congr (entryMarked_iff _ e) rfl ?_
  cases hl : e.last with
  | true => exact (if_pos rfl).trans (if_pos (.inl rfl)).symm
  | false => exact (if_neg (by simp)).trans (if_congr ⟨.inr, fun h => h.resolve_left (by simp)⟩ rfl rfl)

/-- An entry applied changes the tray, the port and the Fault Unit alone (R128, R129). -/
theorem applyEntry_rest (e : TrayEntry) (s : State) :
    ∃ (comp : Compile) (port : Port) (flt : FaultUnit),
      applyEntry e s = { s with comp := comp, port := port, flt := flt } := by
  have hb : ∀ u : State, ∃ (comp : Compile) (port : Port) (flt : FaultUnit),
      beginOrWait u = { u with comp := comp, port := port, flt := flt } := by
    intro u
    unfold beginOrWait beginOperation
    rw [binWait_eq]
    split
    · exact ⟨_, _, _, rfl⟩
    · split
      · exact ⟨_, _, _, rfl⟩
      · exact ⟨_, _, _, rfl⟩
      · exact ⟨_, _, _, rfl⟩
  rw [applyEntry_eq]
  split
  · obtain ⟨c, p, f, h⟩ := hb { s with comp := { s.comp.counted e with
      op := .dumping .binWait, dumpReason := some .marked, keepOpen := false } }
    exact ⟨c, p, f, h⟩
  · split
    · obtain ⟨c, p, f, h⟩ := hb { s with comp := { s.comp.counted e with
        op := .ejecting .binWait, split := s.comp.split || !e.last, keepOpen := !e.last } }
      exact ⟨c, p, f, h⟩
    · exact ⟨_, _, _, rfl⟩

/-! ### Completion (R131 to R133) -/

/-- The end of an operation settles in the Drive Unit alone where no sheet waits for the tray (R135). -/
theorem settle_completed {b s : State} (hq : s.quiet) (ht : s.track = b.track) (hc : s.ctl.strap = b.ctl.strap)
    (hp : s.cfg.params = b.cfg.params) (hi : s.inv = b.inv) (ho : s.comp.op = .none) (hb : b.trayDue = false) :
    settle b s = settleDrive s := by
  refine settle_quiet hq (.inr ?_) ?_ (.inr ?_) (.inl (loopEnded_same (congrArg _ ht)))
  · simp only [State.stopDue, State.role, ht, hc, untaken_congr rfl rfl hc hp]
    rfl
  · rw [hb]
    simp [State.trayDue, ho]
  · simp only [State.loopDue, ht, hi]

theorem applyLate_nil {s : State} (h : s.comp.late = []) : applyLate [] s = s := by
  unfold applyLate
  rw [← h]

theorem exec_ejectComplete {s : State} (h0 : s.ctl.resetLow = false) (ht : s.comp.timer = .running)
    (ho : s.comp.op = .ejecting .active) : exec .ejectComplete s = .next (settle s (completeEject s)) :=
  if_pos ⟨h0, ht, ho⟩

theorem exec_dumpComplete {s : State} (h0 : s.ctl.resetLow = false) (ht : s.comp.timer = .running)
    (ho : s.comp.op = .dumping .active) : exec .dumpComplete s = .next (settle s (completeDump s)) :=
  if_pos ⟨h0, ht, ho⟩

theorem staysOpen_iff (s : State) :
    s.staysOpen = true ↔ s.comp.keepOpen = true ∧ ∃ d, s.comp.traySet = some d ∧ d ∉ s.track.broken := by
  unfold State.staysOpen
  cases h : s.comp.traySet <;> simp

/-! ### The tray's answer to a broken set (R126) -/

theorem forgetRouted_eq (c : Compile) (set : Nat) : c.forgetRouted set = { c with
    routedSet := if decide (c.routedSet = some set) then none else c.routedSet
    routedNext := if decide (c.routedSet = some set) then 1 else c.routedNext } := by
  unfold Compile.forgetRouted
  by_cases h : c.routedSet = some set <;> simp [h]

/-- The tray's answer by its operation and count (R126, R130). -/
theorem answerBroken_exit {s : State} {set : Nat} {why : DumpReason} (hr : s.role = .exit) :
    let mine : Bool := decide (s.comp.routedSet = some set)
    let c := { s.comp with
      routedSet := if mine then none else s.comp.routedSet, routedNext := if mine then 1 else s.comp.routedNext }
    answerBroken set why s =
      if s.comp.traySet ≠ some set then { s with comp := c }
      else match s.comp.op with
        | .none =>
          if s.comp.count = 0 then
            { s with comp := { c with traySet := none, count := 0, nextSeq := 1, split := false, keepOpen := false } }
          else if s.functionActive .binFull = true then { s with
            comp := { c with
              op := .dumping .binWait, dumpReason := some why, keepOpen := false, binReported := true }
            flt := s.binRaised }
          else { s with
            comp := { c with
              op := .dumping .active, timer := .running, dumpReason := some why, keepOpen := false, dumpLine := true }
            port := s.port.post s.engAddr (.purged set s.comp.count why) }
        | .ejecting .binWait =>
          { s with comp := { c with op := .dumping .binWait, dumpReason := some why, keepOpen := false } }
        | .ejecting .active => { s with comp := { c with keepOpen := false } }
        | .dumping _ => { s with comp := c } := by
  intro mine c
  unfold answerBroken answerTray
  rw [if_pos hr, forgetRouted_eq, orderDump_eq]
  dsimp only
  by_cases ht : s.comp.traySet = some set
  · have hg : s.comp.traySet.getD 0 = set := by rw [ht]; rfl
    rw [if_pos ht, if_neg (not_not.mpr ht), hg]
    rfl
  · rw [if_neg ht, if_pos ht]

/-! ### A sheet enters the tray (R128, R136) -/

/-- A break leaves a quiet state quiet. -/
theorem quiet_breakSet {s : State} {set : Nat} {why : DumpReason} (hq : s.quiet) : (breakSet set why s).quiet := by
  have hmark : ∀ u : State, u.quiet → (markSet set u).quiet := fun u hu => by
    refine quiet_reviewImageWait (quiet_mapped (f := fun r => (r.breakIn set).skipMarked) hu ?_ ?_ rfl rfl rfl)
    · intro r
      have : (Record.skipMarked (r.breakIn set)).offerOwed = (r.breakIn set).offerOwed := by
        unfold Record.skipMarked
        split <;> rfl
      rw [this, breakIn_offerOwed]
    · exact List.map_map
  have hbegin : ∀ u : State, (beginOrWait u).track = u.track ∧ (beginOrWait u).hand = u.hand ∧
      (beginOrWait u).inv = u.inv := by
    intro u
    unfold beginOrWait beginOperation
    rw [binWait_eq]
    split
    · exact ⟨rfl, rfl, rfl⟩
    · split <;> exact ⟨rfl, rfl, rfl⟩
  have htray : ∀ u : State, (answerBroken set why u).track = u.track ∧ (answerBroken set why u).hand = u.hand ∧
      (answerBroken set why u).inv = u.inv := by
    intro u
    unfold answerBroken answerTray
    split
    · split
      · split
        · split
          · exact ⟨rfl, rfl, rfl⟩
          · exact hbegin _
        all_goals exact ⟨rfl, rfl, rfl⟩
      · exact ⟨rfl, rfl, rfl⟩
    · exact ⟨rfl, rfl, rfl⟩
  unfold breakSet addBroken
  split
  · exact hmark s hq
  · split
    · exact hq
    · obtain ⟨e1, e2, e3⟩ := htray (markSet set { send everyone (.broken set) s with
        track := { s.track with broken := pushBroken set s.track.broken }
        reg := { s.reg with images := s.reg.images.filter fun e => e.tag.set != set } })
      have hm := hmark { send everyone (.broken set) s with
        track := { s.track with broken := pushBroken set s.track.broken }
        reg := { s.reg with images := s.reg.images.filter fun e => e.tag.set != set } } hq
      unfold State.quiet
      exact (congrArg Track.queue e1) ▸ (congrArg Handoff.deferred1 e2) ▸ (congrArg Handoff.deferred2 e2) ▸
        (congrArg Inverter.seq e3) ▸ hm

/-- A cover given up by its trail edge, then by its owner's leaving, is given up as by the leaving alone (R14, R38). -/
theorem modify_uncover_map {l : List Sensor} {k : Nat} {t : Tag} (h : (l.getD k Sensor.reset).owner = some t) :
    ((l.modify k fun q => { q.disown with covered := false, uncovered := 0 }).map fun q =>
        if q.owner = some t then { q with owner := none, confirmed := false, stalled := false } else q) =
      (l.modify k fun q => { q with covered := false, uncovered := 0 }).map fun q =>
        if q.owner = some t then { q with owner := none, confirmed := false, stalled := false } else q := by
  refine List.ext_getElem (by simp) fun i h1 h2 => ?_
  simp only [List.getElem_map, List.getElem_modify]
  by_cases hik : k = i
  · subst hik
    have hl : k < l.length := by simpa using h1
    have ho : l[k].owner = some t := by
      rw [← h, List.getD_eq_getElem?_getD, List.getElem?_eq_getElem hl]
      rfl
    simp [Sensor.disown, ho]
  · simp [hik]

theorem handGate_of_clear {s : State} {k : Nat} (hm : s.gate.move = .none) (hl : s.gate.list = [])
    (ho : s.gate.occupant = none) : handGate k s = s := by
  have hf : freeOccupant s = s := by
    have : { s with gate := { s.gate with occupant := none } } = s := by rw [← ho]
    unfold freeOccupant
    rw [this, serveGate_of_none hm hl]
  unfold handGate
  split
  · exact hf
  · rfl

theorem handInvert_of_role {s : State} {k : Nat} {r : Record} (h : s.role ≠ .invert) : handInvert k r s = s :=
  if_neg fun hx => h hx.1

theorem breakSet_empty {s : State} {set : Nat} {why : DumpReason} (h : s.track.queue = []) :
    (breakSet set why s).track.queue = [] := by
  have hm : ∀ u : State, u.track.queue = [] → (markSet set u).track.queue = [] := by
    intro u hu
    have := reviewImageWait_track { u with track := { u.track with
      queue := (u.track.queue.map (Record.breakIn set)).map Record.skipMarked } }
    exact (congrArg Track.queue this).trans (by simp [hu])
  unfold breakSet addBroken
  split
  · exact hm s h
  · split
    · exact h
    · rw [answerBroken_track]
      exact hm _ h

/-- An EXIT station whose last record has left settles in the Drive Unit alone. -/
theorem settle_emptied {b s : State} (hq : s.quiet) (hro : s.role = .exit) (hqu : s.track.queue = [])
    (hb : b.trayDue = false) : settle b s = settleDrive s := by
  refine settle_quiet hq (.inl ?_) ?_ (.inl ?_) (.inl (loopEnded_of_role (by simp [hro])))
  · exact if_pos hro
  · rw [hb]
    simp [State.trayDue, hqu]
  · simp [State.loopDue, hqu]

/-- The state when the only record has left for the tray at the trail edge of its confirmed cover (R14, R128). -/
theorem leaveQueue_tray {s : State} {k : Fin 6} {r : Record} (hqu : s.track.queue = [r])
    (ho : (s.sensor k).owner = some r.tag) (hg : r.marks.ghost = false) (hm : s.gate.move = .none) (hl : s.gate.list = [])
    (hoc : s.gate.occupant = none) (hlo : s.inv.loop = none) (hi : s.ownHolds .imageWait = false) :
    leaveQueue r (setSensor k (fun q => { q.disown with covered := false, uncovered := 0 }) (pinSensor k false s)) = { s with
      pins := { s.pins with sensors := withBit s.pins.sensors k false }
      sens := { s.sens with
        sensors := (s.sens.sensors.modify k fun q => { q with covered := false, uncovered := 0 }).map fun q =>
          if q.owner = some r.tag then { q with owner := none, confirmed := false, stalled := false } else q }
      track := { s.track with queue := [] }
      feed := { s.feed with pick := if s.feed.pick = some r.tag then none else s.feed.pick }
      hand := { s.hand with givenUp := if s.hand.givenUp = some r.tag then none else s.hand.givenUp }
      flt := s.flt.forgetting r.tag } := by
  have hf : s.track.queue.filter (fun x => x.tag != r.tag) = [] := by simp [hqu]
  have hsw : ¬ (r.marks.ghost = true ∧ r.last = true) := by simp [hg]
  rw [leaveQueue_eq (by exact hm) (by exact hl) (by simp [setSensor, pinSensor, hoc]) (by simp [setSensor, pinSensor, hlo])
    (by exact hi), if_neg hsw, ← modify_uncover_map ho, ← hf]
  rfl

/-- The trail edge of the confirmed cover of a MAIN record, long enough, is its entry into the tray (R42, R128). -/
theorem takeTrail_enters {s : State} {k : Fin 6} {r : Record} (hst : s.ctl.st.checks = true) (hro : s.role = .exit)
    (hk : s.compileSensor = some k.val) (hqu : s.track.queue = [r]) (ho : (s.sensor k).owner = some r.tag)
    (hcf : (s.sensor k).confirmed = true) (hrt : r.route = some .main)
    (hlen : r.length - s.tLen ≤ (r.odo - (s.sensor k).latch) / 256) (hm : s.gate.move = .none) (hl : s.gate.list = [])
    (hoc : s.gate.occupant = none) :
    takeTrail k (pinSensor k false s) = enterTray r (s.sensor k).stalled
      (setSensor k (fun q => { q.disown with covered := false, uncovered := 0 }) (pinSensor k false s)) := by
  have hrec : ((pinSensor k false s).sensor k).owner.bind (pinSensor k false s).rec? = some r := by
    show (s.sensor k).owner.bind s.rec? = some r
    rw [ho]
    simp [State.rec?, hqu]
  have hshort : State.shortDue (setSensor k (fun q => { q.disown with covered := false, uncovered := 0 })
      (pinSensor k false s)) (s.sensor k) r = false := by
    have : ¬ covering r (s.sensor k) < r.length - s.tLen := by
      unfold covering
      omega
    simp only [State.shortDue, Bool.and_eq_false_iff, decide_eq_false_iff_not]
    exact .inr this
  have hsteps : s.ctl.st.steps = true := by
    cases e : s.ctl.st <;> simp_all [StationState.checks, StationState.steps]
  unfold takeTrail
  rw [hrec]
  dsimp only
  unfold takeOwned
  have hq : (pinSensor k false s).sensor k = s.sensor k := rfl
  rw [hq, hshort]
  dsimp only
  rw [if_pos (by exact hsteps), if_neg (by simp), handGate_of_clear (by exact hm) (by exact hl) (by exact hoc),
    handInvert_of_role (by
      show s.role ≠ .invert
      simp [hro]), handCompile, if_pos ⟨hro, hk, hrt, hcf⟩, Bool.false_or]

/-- The entry clause of O35: the record leaves, its entry is applied or kept, and a suspect one's set broken. -/
theorem exec_trailEdge_tray {s : State} {k : Fin 6} {r : Record} (h0 : s.ctl.resetLow = false)
    (hst : s.ctl.st.checks = true) (hro : s.role = .exit) (hq : s.quiet) (hk : s.compileSensor = some k.val)
    (hc : (s.sensor k).covered = true) (hqu : s.track.queue = [r]) (ho : (s.sensor k).owner = some r.tag)
    (hcf : (s.sensor k).confirmed = true) (hrt : r.route = some .main)
    (hlen : r.length - s.tLen ≤ (r.odo - (s.sensor k).latch) / 256) (hg : r.marks.ghost = false)
    (hm : s.gate.move = .none) (hl : s.gate.list = []) (hoc : s.gate.occupant = none) (hlo : s.inv.loop = none)
    (hi : s.ownHolds .imageWait = false) (hop : s.comp.op = .none ∨ r.reached.compileStop = false) :
    let e := trayEntryOf r (s.sensor k).stalled
    let u := leaveQueue r
      (setSensor k (fun q => { q.disown with covered := false, uncovered := 0 }) (pinSensor k false s))
    let v := if s.comp.op = .none then applyEntry e u else addLate e u
    exec (.trailEdge k) s = .next (settleDrive
      (if (s.sensor k).stalled = true then breakSet r.tag.set .broken v else v)) := by
  intro e u v
  have hin : k.val < s.scount := by
    have hf := List.mem_of_find?_eq_some (show s.ofKind 4 = some k.val from hk)
    exact List.mem_range.mp hf
  have hb : s.trayDue = false := by
    rcases hop with hop | hop <;> simp [State.trayDue, hop, hqu]
  have hleave := leaveQueue_tray hqu ho hg hm hl hoc hlo hi
  have hv : v.quiet ∧ v.role = .exit ∧ v.track.queue = [] := by
    have hu : u.quiet ∧ u.role = .exit ∧ u.track.queue = [] := by
      show State.quiet (leaveQueue _ _) ∧ (leaveQueue _ _).role = .exit ∧ (leaveQueue _ _).track.queue = []
      rw [hleave]
      exact ⟨⟨by simp, hq.2⟩, hro, rfl⟩
    show State.quiet (if s.comp.op = .none then applyEntry e u else addLate e u) ∧
      (if s.comp.op = .none then applyEntry e u else addLate e u).role = .exit ∧
      (if s.comp.op = .none then applyEntry e u else addLate e u).track.queue = []
    split
    · obtain ⟨c, p, f, h⟩ := applyEntry_rest e u
      rw [h]
      exact hu
    · exact hu
  have henter : enterTray r (s.sensor k).stalled
      (setSensor k (fun q => { q.disown with covered := false, uncovered := 0 }) (pinSensor k false s)) =
      if (s.sensor k).stalled = true then breakSet r.tag.set .broken v else v := by
    have hcu : u.comp.op = s.comp.op := by
      show (leaveQueue _ _).comp.op = _
      rw [hleave]
    have hin' : enterTray r (s.sensor k).stalled
        (setSensor k (fun q => { q.disown with covered := false, uncovered := 0 }) (pinSensor k false s)) =
        breakSuspect e (if u.comp.op = .none then applyEntry e u else addLate e u) := rfl
    rw [hin', hcu]
    exact if_congr ⟨fun h => h.1, fun h => ⟨h, hg⟩⟩ rfl rfl
  rw [exec_trailEdge_covered (filters_of_inUse h0 (checks_ne_selftest hst) hin) hc,
    takeTrail_enters hst hro hk hqu ho hcf hrt hlen hm hl hoc, henter]
  refine congrArg Host.Outcome.next (settle_emptied ?_ ?_ ?_ hb)
  · split
    · exact quiet_breakSet hv.1
    · exact hv.1
  · split
    · unfold State.role
      rw [(breakSet_sameOutside r.tag.set .broken v).ctl]
      exact hv.2.1
    · exact hv.2.1
  · split
    · exact breakSet_empty hv.2.2
    · exact hv.2.2

/-- Settles O35: orders, the tray's answer to a broken set, entries and completions. -/
theorem trayOperationsComplete : Obligations.TrayOperationsComplete := by
  unfold Obligations.TrayOperationsComplete
  refine ⟨?_, ?_, ?_, ?_, ?_, ?_⟩
  · intro s d h0 ht ho hl hd hq hk hset hb
    have hs : s.staysOpen = true := (staysOpen_iff s).mpr ⟨hk, d, hset, hb⟩
    rw [exec_ejectComplete h0 ht ho, completeEject, if_pos hs, hl, applyLate_nil (by exact hl)]
    exact congrArg Host.Outcome.next (settle_completed hq rfl rfl rfl rfl rfl hd)
  · intro c s h0 ht hl hd hq hc
    have hd' : completeDump s = { s with comp := s.comp.cleared.idle } := by
      rw [completeDump, hl, applyLate_nil (by exact hl)]
    have he : exec c s = .next (settle s { s with comp := s.comp.cleared.idle }) := by
      rcases hc with ⟨rfl, ho, hk⟩ | ⟨rfl, ho⟩
      · have hs : ¬ s.staysOpen = true := by
          rw [staysOpen_iff]
          rintro ⟨h1, d, h2, h3⟩
          rcases hk with hk | ⟨d', hd', hs'⟩
          · simp [hk] at h1
          · rw [h2] at hs'
            exact h3 (Option.some.inj hs' ▸ hd')
        rw [exec_ejectComplete h0 ht ho, completeEject, if_neg hs, hl, applyLate_nil (by exact hl)]
      · rw [exec_dumpComplete h0 ht ho, hd']
    rw [he]
    exact congrArg Host.Outcome.next (settle_completed hq rfl rfl rfl rfl rfl hd)
  · intro s e ho
    rw [applyEntry_eq, orderDump_eq, orderEject_eq, counted_eq]
    rfl
  · exact fun s set why h => answerBroken_of_role h
  · exact fun s set why h => answerBroken_exit h
  · intro s k r h0 hst hro hq hk hc hqu ho hcf hrt hlen hg hm hl hoc hlo hi hop
    rw [exec_trailEdge_tray h0 hst hro hq hk hc hqu ho hcf hrt hlen hg hm hl hoc hlo hi hop,
      leaveQueue_tray hqu ho hg hm hl hoc hlo hi]
    rfl

end Sys2Proof.Machine

/-! PROOFS. Completed frames as levels and as commands (R178, R180 to R182). -/

namespace Sys2Proof.Machine

/-! ### Bits and fields (R178) -/

@[simp] theorem bitsOf_length {w : Nat} (x : BitVec w) : (bitsOf x).length = w := by simp [bitsOf]

theorem natOf_concat (l : List Bool) (b : Bool) : natOf (l ++ [b]) = 2 * natOf l + b.toNat := by
  simp [natOf, List.foldl_append]

/-- The bits of a field stand for its number (R178). -/
theorem natOf_bitsOf {w : Nat} (x : BitVec w) : natOf (bitsOf x) = x.toNat := by
  have h : ∀ k ≤ w, natOf ((List.range k).map fun i => x.getMsbD i) = x.toNat / 2 ^ (w - k) := by
    intro k
    induction k with
    | zero => intro _; simp [natOf, Nat.div_eq_of_lt x.isLt]
    | succ k ih =>
      intro hk
      have hbit : x.getMsbD k = x.toNat.testBit (w - (k + 1)) := by
        rw [BitVec.getMsbD_eq_getLsbD, decide_eq_true (by omega), Bool.true_and, BitVec.testBit_toNat]
        congr 1
        omega
      have hdiv : x.toNat / 2 ^ (w - k) = x.toNat / 2 ^ (w - (k + 1)) / 2 := by
        rw [Nat.div_div_eq_div_mul, ← pow_succ]
        congr 2
        omega
      rw [List.range_succ, List.map_append, List.map_singleton, natOf_concat, ih (by omega), hbit, hdiv,
        Nat.toNat_testBit]
      omega
  have := h w (Nat.le_refl w)
  simpa [bitsOf] using this

/-- A field read back from its place (R178). -/
theorem fieldAt_append {w : Nat} (pre post : List Bool) (x : BitVec w) {n : Nat} (hn : pre.length = n) :
    fieldAt (pre ++ bitsOf x ++ post) n w = x := by
  subst hn
  have : ((pre ++ bitsOf x ++ post).drop pre.length).take w = bitsOf x := by
    rw [List.append_assoc, List.drop_left]
    exact List.take_left' (bitsOf_length x)
  unfold fieldAt
  rw [this, natOf_bitsOf, BitVec.ofNat_toNat, BitVec.setWidth_eq]

theorem fieldBits_length (cls : BitVec 3) (kind : BitVec 5) (h : Header) (payload : List Byte) :
    (fieldBits cls kind h payload).length = 24 + 8 * payload.length := by
  have : (payload.flatMap bitsOf).length = 8 * payload.length := by
    induction payload with
    | nil => rfl
    | cons b l ih =>
      simp only [List.flatMap_cons, List.length_append, bitsOf_length, List.length_cons, ih]
      omega
  simp only [fieldBits, List.length_append, bitsOf_length, this]

/-- The length field of a frame's bits (R178). -/
theorem fieldAt_length (cls : BitVec 3) (kind : BitVec 5) (h : Header) {payload : List Byte} (hp : payload.length ≤ 8)
    (post : List Bool) :
    (fieldAt (false :: (fieldBits cls kind h payload ++ post)) 21 4).toNat = payload.length := by
  have := fieldAt_append ([false] ++ bitsOf cls ++ bitsOf kind ++ bitsOf h.src ++ bitsOf h.dst)
    (payload.flatMap bitsOf ++ post) (BitVec.ofNat 4 payload.length) (n := 21) (by simp)
  have hl : false :: (fieldBits cls kind h payload ++ post) = [false] ++ bitsOf cls ++ bitsOf kind ++ bitsOf h.src ++
      bitsOf h.dst ++ bitsOf (BitVec.ofNat 4 payload.length) ++ (payload.flatMap bitsOf ++ post) := by
    simp [fieldBits]
  rw [hl, this, BitVec.toNat_ofNat]
  omega

/-! ### Framing errors (R178, R180) -/

theorem plainLevels_length_le (xs : List Bool) : ∀ (level : Bool) (run : Nat),
    (plainLevels level run xs).length ≤ xs.length := by
  induction xs with
  | nil => exact fun _ _ => Nat.le_refl 0
  | cons b rest ih =>
    intro level run
    unfold plainLevels
    split
    · split
      · exact Nat.zero_le _
      · exact Nat.le_succ_of_le (ih b 1)
    · exact Nat.succ_le_succ (ih b _)

/-- Six equal levels end the reading; at most five of them have been read as bits (R178). -/
theorem plainLevels_six_le (pre post : List Bool) (b : Bool) :
    (plainLevels true 0 (pre ++ List.replicate 6 b ++ post)).length ≤ pre.length + 5 := by
  have six : pre ++ List.replicate 6 b ++ post = pre ++ (List.replicate 5 b ++ b :: post) := by
    simp [List.replicate_succ]
  rw [six]
  obtain ⟨out, h1 | ⟨l, r, hr, h1⟩⟩ := plainLevels_append pre (level := true) (run := 0) (by decide)
  · have := plainLevels_length_le (pre ++ []) true 0
    rw [h1] at this ⊢
    simp at this
    omega
  · have hout : out.length ≤ pre.length := by
      have := plainLevels_length_le (pre ++ []) true 0
      rw [h1] at this
      simpa [plainLevels] using this
    obtain ⟨out2, h2 | h2⟩ := plainLevels_five b (level := l) hr
    · have := plainLevels_length_le (List.replicate 5 b ++ []) l r
      rw [h2] at this
      rw [h1, h2, List.length_append]
      simp at this
      omega
    · have := plainLevels_length_le (List.replicate 5 b ++ []) l r
      rw [h2] at this
      rw [h1, h2]
      simp [plainLevels] at this ⊢
      omega

theorem ofLevels_eq_none {levels : List Bool} (h : (plainLevels true 0 levels).length ≤
    41 + 8 * (fieldAt (plainLevels true 0 levels) 21 4).toNat) : RxFrame.ofLevels levels = none := if_pos h

/-- A sixth equal level in place of the bit inserted after the check is a framing error too (R178). -/
theorem ofLevels_sixth {cls : BitVec 3} {kind : BitVec 5} {h : Header} {payload : List Byte} {check : Half}
    {pre : List Bool} {b : Bool} (post : List Bool) (hp : payload.length ≤ 8)
    (e : insertBits true 0 (false :: (fieldBits cls kind h payload ++ bitsOf check)) = pre ++ List.replicate 5 b ++ [!b]) :
    RxFrame.ofLevels (pre ++ List.replicate 6 b ++ post) = none := by
  refine ofLevels_eq_none ?_
  rw [plainLevels_sixth post e, fieldAt_length cls kind h hp]
  simp only [List.length_cons, List.length_append, fieldBits_length, bitsOf_length]
  omega

/-! ### The table of kinds and lengths (R181) -/

theorem readClass1_listed (h : Header) (kind : Nat) (p : List Byte) : readClass1 h kind p = .bad ∨
    (kind, p.length) ∈ [(0, 3), (1, 3), (2, 1), (3, 1), (4, 2)] := by
  unfold readClass1
  split
  case h_6 => exact .inl rfl
  all_goals exact .inr (by simp)

theorem readClass2_listed (h : Header) (kind : Nat) (p : List Byte) : readClass2 h kind p = .bad ∨
    (kind, p.length) ∈ [(0, 7), (1, 3), (2, 4), (3, 0)] := by
  match kind, p with
  | 0, [_, _, _, _, _, _, _] => exact .inr (by simp)
  | 1, [_, _, _] => exact .inr (by simp)
  | 2, [_, _, _, _] => exact .inr (by simp)
  | 3, [] => exact .inr (by simp)
  | 0, [] | 0, [_] | 0, [_, _] | 0, [_, _, _] | 0, [_, _, _, _] | 0, [_, _, _, _, _] | 0, [_, _, _, _, _, _]
  | 0, _ :: _ :: _ :: _ :: _ :: _ :: _ :: _ :: _ => exact .inl rfl
  | 1, [] | 1, [_] | 1, [_, _] | 1, _ :: _ :: _ :: _ :: _ => exact .inl rfl
  | 2, [] | 2, [_] | 2, [_, _] | 2, [_, _, _] | 2, _ :: _ :: _ :: _ :: _ :: _ => exact .inl rfl
  | 3, _ :: _ => exact .inl rfl
  | _ + 4, _ => exact .inl rfl

theorem readClass3_listed (s : State) (h : Header) (kind : Nat) (p : List Byte) : readClass3 s h kind p = .bad ∨
    (kind, p.length) ∈ [(0, 1), (0, 3), (0, 5), (0, 7), (1, 0), (2, 0), (3, 0), (4, 0), (5, 0), (6, 7), (7, 4), (8, 3),
      (9, 1)] := by
  unfold readClass3
  split
  case h_1 a rest =>
    split
    · rename_i hv
      refine .inr ?_
      have : rest.length = 0 ∨ rest.length = 2 ∨ rest.length = 4 ∨ rest.length = 6 := by omega
      rcases this with e | e | e | e <;> simp [e]
    · exact .inl rfl
  case h_11 => exact .inl rfl
  all_goals exact .inr (by simp)

theorem reportLength_iff (kind n : Nat) : reportLength kind = some n ↔
    (kind, n) ∈ [(0, 7), (1, 8), (2, 8), (3, 6), (4, 6), (5, 8), (6, 4), (7, 4), (8, 3), (9, 6)] := by
  unfold reportLength
  split
  case h_11 h0 h1 h2 h3 h4 h5 h6 h7 h8 h9 => simp; tauto
  all_goals simp [eq_comm]

/-- A row of a class that stands in the whole table. -/
theorem not_mem_cell {cls kind n : Nat} {l : List (Nat × Nat)} {t : List (Nat × Nat × Nat)} (hn : (cls, kind, n) ∉ t)
    (ht : ∀ x ∈ l, (cls, x) ∈ t) : (kind, n) ∉ l := fun hm => hn (ht _ hm)


/-- What the table of R181 does not list is bad. -/
theorem read_bad {s : State} {cls kind : Nat} {h : Header} {p : List Byte}
    (hn : (cls, kind, p.length) ∉
      [(0, 0, 1), (1, 0, 3), (1, 1, 3), (1, 2, 1), (1, 3, 1), (1, 4, 2), (2, 0, 7), (2, 1, 3), (2, 2, 4), (2, 3, 0),
       (3, 0, 1), (3, 0, 3), (3, 0, 5), (3, 0, 7), (3, 1, 0), (3, 2, 0), (3, 3, 0), (3, 4, 0), (3, 5, 0), (3, 6, 7),
       (3, 7, 4), (3, 8, 3), (3, 9, 1), (4, 0, 4), (5, 0, 7), (5, 1, 8), (5, 2, 8), (5, 3, 6), (5, 4, 6), (5, 5, 8),
       (5, 6, 4), (5, 7, 4), (5, 8, 3), (5, 9, 6)]) : s.read cls kind h p = .bad := by
  unfold State.read
  split
  · split
    · exact absurd (List.mem_of_elem_eq_true rfl) hn
    · rfl
  · exact (readClass1_listed h kind p).resolve_right (not_mem_cell hn (by decide))
  · exact (readClass2_listed h kind p).resolve_right (not_mem_cell hn (by decide))
  · exact (readClass3_listed s h kind p).resolve_right (not_mem_cell hn (by decide))
  · unfold readClass4
    split
    · exact absurd (List.mem_of_elem_eq_true rfl) hn
    · rfl
  · exact if_neg fun hr => not_mem_cell hn (by decide) ((reportLength_iff _ _).mp hr)
  · rfl

/-- What the port does with a frame of each row (R180, R181). -/
def Reading.heard (r : Reading) (s : State) : State :=
  match r with
  | .bad => countCheckError s
  | .foreign => countForeign s
  | .command c => if sound c then bufferFrame c s else countCheckError s

/-- A reading that is a command with undefined values, or an undefined SYNC, is as bad as what is not listed (R181). -/
def Reading.refused : Reading → Bool
  | .bad => true
  | .foreign => false
  | .command c => !sound c

theorem soundFields_iff (o : SheetFields) : soundFields o = true ↔ o.tag.seq.toNat ≠ 0 ∧ o.side.toNat ≠ 3 := by
  simp [soundFields]

/-- Undefined values (R1, R110, R181). -/
theorem read_refused {s : State} {cls kind : Nat} {h : Header} {p : List Byte}
    (hv : (∃ a b c d m hi lo : Byte, p = [a, b, c, d, m, hi, lo] ∧
        ((cls = 2 ∧ kind = 0) ∨ (cls = 3 ∧ kind = 6)) ∧ (c.toNat % 64 = 0 ∨ d.toNat % 4 = 3)) ∨
      (∃ a b c x : Byte, p = [a, b, c, x] ∧
        ((cls = 2 ∧ kind = 2 ∧ 3 < x.toNat) ∨
          (((cls = 3 ∧ kind = 7) ∨ (cls = 4 ∧ kind = 0)) ∧ x.toNat ≠ 1 ∧ x.toNat ≠ 2))) ∨
      (∃ q : Byte, p = [q] ∧ cls = 3 ∧ kind = 9 ∧ 4 < q.toNat % 8)) : (s.read cls kind h p).refused = true := by
  rcases hv with ⟨a, b, c, d, m, hi, lo, rfl, hk, hv⟩ | ⟨a, b, c, x, rfl, hv⟩ | ⟨q, rfl, rfl, rfl, hq⟩
  · have hs : soundFields (readSheet a b c d m hi lo) = false := by
      rw [Bool.eq_false_iff, Ne, soundFields_iff, not_and_or, not_not, not_not]
      simpa [readSheet, readTag] using hv
    have hs' : (!soundFields (readSheet a b c d m hi lo)) = true := by rw [hs]; rfl
    rcases hk with ⟨rfl, rfl⟩ | ⟨rfl, rfl⟩
    · exact hs'
    · exact hs'
  · rcases hv with ⟨rfl, rfl, hx⟩ | ⟨⟨rfl, rfl⟩ | ⟨rfl, rfl⟩, h1, h2⟩
    · have hs : (!decide (x.toNat ≤ 3)) = true := by simpa using hx
      exact hs
    · have hs : (!decide (x.toNat = 1 ∨ x.toNat = 2)) = true := by simp [h1, h2]
      exact hs
    · have hr : s.read 4 0 h [a, b, c, x] = .bad := if_neg (by simp [h1, h2])
      rw [hr]
      rfl
  · have hs : (!decide ((q.truncate 3).toNat ≤ 4)) = true := by simpa using hq
    exact hs

/-- SYNC and the frames of class 5 are foreign (R182). -/
theorem read_foreign {s : State} {cls kind : Nat} {h : Header} {p : List Byte}
    (hf : (cls = 5 ∧ (kind, p.length) ∈
        [(0, 7), (1, 8), (2, 8), (3, 6), (4, 6), (5, 8), (6, 4), (7, 4), (8, 3), (9, 6)]) ∨
      (cls = 4 ∧ kind = 0 ∧ ∃ a b c x : Byte, p = [a, b, c, x] ∧ (x.toNat = 1 ∨ x.toNat = 2))) :
    s.read cls kind h p = .foreign := by
  rcases hf with ⟨rfl, hl⟩ | ⟨rfl, rfl, a, b, c, x, rfl, hx⟩
  · exact if_pos ((reportLength_iff _ _).mpr hl)
  · exact if_pos hx

/-! ### The tests in their order (R180, R181) -/

theorem portClosed_of {s : State} (h0 : s.ctl.resetLow = false) (hst : s.ctl.st ≠ .selftest) : s.portClosed = false := by
  simp [State.portClosed, h0, hst]

theorem hears_iff {s : State} {h : Header} (h0 : s.ctl.resetLow = false) (hst : s.ctl.st ≠ .selftest) :
    s.hears h = true ↔ h.src.toNat ≠ s.ctl.address ∧ (h.dst.toNat = s.ctl.address ∨ h.dst.toNat = 63) := by
  simp [State.hears, portClosed_of h0 hst, State.addressed]

/-- Levels that are no frame count a check error (R178, R180). -/
theorem exec_frameError_none {levels : List Bool} {s : State} (h0 : s.ctl.resetLow = false) (hst : s.ctl.st ≠ .selftest)
    (hl : RxFrame.ofLevels levels = none) : exec (.frameError levels) s = .next (countCheckError s) := by
  have he : exec (.frameError levels) s = .next (frameHeard levels s) := rfl
  rw [he, frameHeard, portClosed_of h0 hst, if_neg (by simp), hl]

theorem exec_frameError_some {levels : List Bool} {f : RxFrame} {s : State} (h0 : s.ctl.resetLow = false)
    (hst : s.ctl.st ≠ .selftest) (hl : RxFrame.ofLevels levels = some f) :
    exec (.frameError levels) s = .next (judgeFrame f s) := by
  have he : exec (.frameError levels) s = .next (frameHeard levels s) := rfl
  rw [he, frameHeard, portClosed_of h0 hst, if_neg (by simp), hl]

theorem checkRight_iff (f : RxFrame) :
    f.checkRight = true ↔ f.check = checkOf (fieldBits f.cls f.kind f.hdr f.payload) := by
  simp [RxFrame.checkRight]

/-- A frame with a right check for this station, with room in the buffer, is what the table makes of it (R180, R181). -/
theorem judgeFrame_read {f : RxFrame} {s : State} (h0 : s.ctl.resetLow = false) (hst : s.ctl.st ≠ .selftest)
    (hc : f.check = checkOf (fieldBits f.cls f.kind f.hdr f.payload)) (hs : f.hdr.src.toNat ≠ s.ctl.address)
    (hd : f.hdr.dst.toNat = s.ctl.address ∨ f.hdr.dst.toNat = 63) (hr : s.port.rx.length < 2) :
    judgeFrame f s = (s.read f.cls.toNat f.kind.toNat f.hdr f.payload).heard s := by
  have hb : s.bufferFull = false := decide_eq_false (by omega)
  unfold judgeFrame
  rw [(checkRight_iff f).mpr hc, if_neg (by simp), (hears_iff h0 hst).mpr ⟨hs, hd⟩, if_neg (by simp), hb,
    if_neg (by simp)]
  cases s.read f.cls.toNat f.kind.toNat f.hdr f.payload with
  | bad | foreign | command => rfl

theorem judgeFrame_refused {f : RxFrame} {s : State} (h0 : s.ctl.resetLow = false) (hst : s.ctl.st ≠ .selftest)
    (hc : f.check = checkOf (fieldBits f.cls f.kind f.hdr f.payload)) (hs : f.hdr.src.toNat ≠ s.ctl.address)
    (hd : f.hdr.dst.toNat = s.ctl.address ∨ f.hdr.dst.toNat = 63) (hr : s.port.rx.length < 2)
    (hv : (s.read f.cls.toNat f.kind.toNat f.hdr f.payload).refused = true) : judgeFrame f s = countCheckError s := by
  rw [judgeFrame_read h0 hst hc hs hd hr]
  cases hx : s.read f.cls.toNat f.kind.toNat f.hdr f.payload with
  | bad => rfl
  | foreign => simp [hx, Reading.refused] at hv
  | command c =>
    have : sound c = false := by simpa [hx, Reading.refused] using hv
    exact if_neg (by simp [this])

/-! ### Senders and states (R182, R150, R160) -/

/-- What R182 says of each kind of frame. -/
def rulesOf : Instr → Rules
  | .halt _ _ | .broken _ _ => ⟨.anyone, .plain⟩
  | .offer _ _ | .pass _ _ => ⟨.upstream, .handoff⟩
  | .take _ _ | .defer _ _ _ | .ready _ | .arrived _ _ => ⟨.downstream, .handoff⟩
  | .hold _ _ | .go _ _ => ⟨.neighbours, .handoff⟩
  | .configure _ _ _ _ => ⟨.engine, .configuration⟩
  | .restart _ _ _ | .query _ _ _ => ⟨.engine, .always⟩
  | _ => ⟨.engine, .plain⟩

theorem named_iff (p x : Nat) : named p x = true ↔ p ≠ 0 ∧ x = p := by simp [named]

theorem named_or (a b x : Nat) : (named a x || named b x) = true ↔ x ≠ 0 ∧ (x = a ∨ x = b) := by
  rw [Bool.or_eq_true, named_iff, named_iff]
  omega

/-- The sender that the rules of a kind let send it (R182). -/
theorem admits_iff {c : Instr} {h : Header} {s : State} (hc : c.header? = some h) :
    s.admits (rulesOf c).who h.src.toNat = true ↔ s.maySend c := by
  cases c with
  | halt | broken => cases hc; exact iff_of_true rfl trivial
  | pass | offer => cases hc; exact named_or ..
  | take | defer | ready | arrived => cases hc; exact named_or ..
  | hold | go =>
    cases hc
    refine Iff.trans ?_ (or_congr (named_or ..) (named_or ..))
    simp [rulesOf, State.admits, or_assoc]
  | configure | start | drain | resume | clearpath | restart | feed | image | sweep | query =>
    cases hc; exact decide_eq_true_iff
  | _ => cases hc

/-- A frame from another sender, or in a state that refuses its kind, counts foreign at its turn (R182). -/
theorem takeFrame_foreign {c : Instr} {h : Header} {s : State} (hc : c.header? = some h)
    (hf : s.admits (rulesOf c).who h.src.toNat = false ∨ s.refusesKind (rulesOf c).admission = true) :
    takeFrame c s = countForeign s := by
  cases c <;> first | cases hc; exact if_pos hf | cases hc

/-! ### FRAME_ERROR, test by test (O40) -/

theorem refusesKind_of {c : Instr} {h : Header} {s : State} (hc : (handoffKind c = true ∧ s.ctl.st = .unconfigured) ∨
    ((∃ i m v, c = .configure h i m v) ∧ s.ctl.st ≠ .unconfigured ∧
      s.ctl.st ≠ .ready)) :
    s.refusesKind (rulesOf c).admission = true := by
  rcases hc with ⟨hk, hst⟩ | ⟨⟨i, m, v, rfl⟩, hst⟩
  · have : (rulesOf c).admission = .handoff := by
      cases c with
      | offer | pass | take | defer | ready | arrived | hold | go => rfl
      | _ => cases hk
    rw [this]
    exact decide_eq_true hst
  · exact decide_eq_true hst

/-- A frame behind one that waits joins the buffer (R180, log entry 10). -/
theorem receive_waits {c d : Instr} {h : Header} {take : State → State} {s : State} (hh : s.hears h = true)
    (hs : sound c = true) (hr : s.port.rx = [d]) :
    receive c h take s = { s with port := { s.port with rx := [d, c] } } := by
  have hb : s.bufferFull = false := by simp [State.bufferFull, hr]
  unfold receive
  rw [hh, if_neg (by simp), hb, if_neg (by simp), hs, if_neg (by simp), if_neg (by simp [hr])]
  simp [bufferFrame, hr]

/-- Settles O40: each clause is one test of R180 or R181, in their order. -/
theorem frameErrorsAreCounted : Obligations.FrameErrorsAreCounted := by
  unfold Obligations.FrameErrorsAreCounted
  refine ⟨?_, ?_, ?_, ?_, ?_, ?_, ?_, ?_, ?_, ?_, ?_, ?_⟩
  · intro pre post b s h0 hst hpre
    have := plainLevels_six_le pre post b
    exact exec_frameError_none h0 hst (ofLevels_eq_none (by omega))
  · exact fun levels s h0 hst hl => exec_frameError_none h0 hst hl
  · intro levels f s h0 hst hl hc
    refine (exec_frameError_some h0 hst hl).trans (congrArg _ ?_)
    exact if_pos (Bool.eq_false_iff.mpr fun e => hc ((checkRight_iff f).mp e))
  · intro levels f s h0 hst hl hc ha
    refine (exec_frameError_some h0 hst hl).trans (congrArg _ ?_)
    have hh : s.hears f.hdr = false := Bool.eq_false_iff.mpr fun e => by
      have := (hears_iff h0 hst).mp e
      omega
    exact (if_neg (by simp [(checkRight_iff f).mpr hc])).trans (if_pos hh)
  · intro levels f s h0 hst hl hc hs hd hr
    refine (exec_frameError_some h0 hst hl).trans (congrArg _ ?_)
    refine (if_neg (by simp [(checkRight_iff f).mpr hc])).trans ?_
    refine (if_neg (by simp [(hears_iff h0 hst).mpr ⟨hs, hd⟩])).trans ?_
    exact if_pos (decide_eq_true hr)
  · intro levels f s h0 hst hl hc hs hd hr hn
    refine (exec_frameError_some h0 hst hl).trans (congrArg _ ?_)
    exact judgeFrame_refused h0 hst hc hs hd hr (congrArg Reading.refused (read_bad hn))
  · intro levels f s h0 hst hl hc hs hd hr hv
    refine (exec_frameError_some h0 hst hl).trans (congrArg _ ?_)
    exact judgeFrame_refused h0 hst hc hs hd hr (read_refused hv)
  · intro levels f s h0 hst hl hc hs hd hr hf
    refine (exec_frameError_some h0 hst hl).trans (congrArg _ ?_)
    rw [judgeFrame_read h0 hst hc hs hd hr, read_foreign hf]
    rfl
  · intro levels f c s h0 hst hl hc hs hd hr hread hsound
    refine (exec_frameError_some h0 hst hl).trans (congrArg _ ?_)
    rw [judgeFrame_read h0 hst hc hs hd hr, hread]
    exact if_pos hsound
  · intro c d h s h0 hst hc hsound hs hd hr
    refine (exec_frame hc s).trans (congrArg _ ?_)
    exact receive_waits ((hears_iff h0 hst).mpr ⟨hs, hd⟩) hsound hr
  · intro c h s hc hsound hh hf
    refine (exec_frame hc s).trans (congrArg _ ?_)
    refine (receive_heard hh hsound).trans (takeFrame_foreign hc ?_)
    rcases hf with hw | hk
    · exact .inl (Bool.eq_false_iff.mpr fun e => hw ((admits_iff hc).mp e))
    · exact .inr (refusesKind_of hk)
  · intro cls kind h payload check pre post b s h0 hst hp e
    exact exec_frameError_none h0 hst (ofLevels_sixth post hp e)

end Sys2Proof.Machine

/-! PROOFS. What a station sends reads back: payloads, their lengths, and levels (R178, R181, R183). -/

namespace Sys2Proof.Machine

/-! ### Payload bytes (R183) -/

theorem toNat_append_eq {n m : Nat} (a : BitVec n) (b : BitVec m) : (a ++ b).toNat = a.toNat * 2 ^ m + b.toNat := by
  rw [BitVec.toNat_append, ← Nat.shiftLeft_add_eq_or_of_lt b.isLt, Nat.shiftLeft_eq]

theorem byteOf_toNat (x : Byte) : byteOf x.toNat = x := by rw [byteOf, BitVec.ofNat_toNat, BitVec.setWidth_eq]

/-- The two bytes of a number, read together (R183). -/
theorem halfBytes_joined (x : Half) : byteOf (x.toNat / 256) ++ byteOf x.toNat = x := by
  apply BitVec.eq_of_toNat_eq
  rw [toNat_append_eq]
  simp only [byteOf, BitVec.toNat_ofNat]
  omega

theorem sequenceByte_toNat (x : BitVec 6) (last : Bool) :
    (sequenceByte x.toNat last).toNat = last.toNat * 128 + x.toNat := by
  unfold sequenceByte
  rw [if_pos x.isLt, toNat_append_eq, toNat_append_eq, BitVec.toNat_ofBool, BitVec.toNat_ofNat]
  have := x.isLt
  simp only [BitVec.toNat_ofNat]
  omega

/-- A number below 128 with a flag above it keeps the flag in its top bit. -/
theorem flagged_top {b : Byte} {n : Nat} {flag : Bool} (hn : n < 128) (h : b.toNat = flag.toNat * 128 + n) :
    b.getLsbD 7 = flag := by
  rw [← BitVec.testBit_toNat, h, Nat.testBit, Nat.shiftRight_eq_div_pow]
  cases flag <;> simp <;> omega

/-- The three bytes of a tag, read together (R183). -/
theorem readTag_written (t : FrameTag) :
    readTag (byteOf (t.set.toNat / 256)) (byteOf t.set.toNat) (sequenceByte t.seq.toNat t.last) = t := by
  have hs := sequenceByte_toNat t.seq t.last
  have hlt := t.seq.isLt
  unfold readTag
  rw [halfBytes_joined, flagged_top (by omega) hs]
  have hq : (sequenceByte t.seq.toNat t.last).truncate 6 = t.seq := by
    apply BitVec.eq_of_toNat_eq
    rw [BitVec.truncate_eq_setWidth, BitVec.toNat_setWidth, hs]
    have := Bool.toNat_le t.last
    omega
  rw [hq]

theorem sideOf_code {x : BitVec 2} (h : x ≠ 3#2) : (sideOf x.toNat).code = x.toNat := by
  revert x
  decide

theorem marksOf_code (m : BitVec 4) : (byteOf (marksOf m).code).truncate 4 = m := by
  revert m
  decide

/-- The fields of a sheet, written and read back (R183). -/
theorem readSheet_written {o : SheetFields} (h : o.side ≠ 3#2) :
    readSheet (byteOf (o.tag.set.toNat / 256)) (byteOf o.tag.set.toNat) (sequenceByte o.tag.seq.toNat o.tag.last)
      (byteOf ((sideOf o.side.toNat).code + 4 * o.speed.toNat)) (byteOf (marksOf o.marks).code)
      (byteOf (o.length.toNat / 256)) (byteOf o.length.toNat) = o := by
  unfold readSheet
  have h1 := o.side.isLt
  have h2 := o.speed.isLt
  have hside : (byteOf ((sideOf o.side.toNat).code + 4 * o.speed.toNat)).truncate 2 = o.side := by
    apply BitVec.eq_of_toNat_eq
    rw [BitVec.truncate_eq_setWidth, BitVec.toNat_setWidth, byteOf, BitVec.toNat_ofNat, sideOf_code h]
    omega
  have hspeed : (byteOf ((sideOf o.side.toNat).code + 4 * o.speed.toNat) >>> 2).truncate 2 = o.speed := by
    apply BitVec.eq_of_toNat_eq
    rw [BitVec.truncate_eq_setWidth, BitVec.toNat_setWidth, BitVec.toNat_ushiftRight, byteOf, BitVec.toNat_ofNat,
      sideOf_code h, Nat.shiftRight_eq_div_pow]
    omega
  rw [readTag_written, hside, hspeed, marksOf_code, halfBytes_joined]

/-- A byte of seven bits with a flag above them (R183). -/
theorem flagged_byte {w : Nat} (hw : w ≤ 7) (x : BitVec w) (flag : Bool) :
    (BitVec.ofNat 8 (x.toNat + 128 * flag.toNat)).truncate w = x ∧
    (BitVec.ofNat 8 (x.toNat + 128 * flag.toNat)).getLsbD 7 = flag := by
  have hx := x.isLt
  have hp : 2 ^ w ∣ 128 := Nat.pow_dvd_pow 2 hw
  have hle : 2 ^ w ≤ 128 := Nat.le_of_dvd (by omega) hp
  have hb := Bool.toNat_le flag
  have hn : (BitVec.ofNat 8 (x.toNat + 128 * flag.toNat)).toNat = flag.toNat * 128 + x.toNat := by
    rw [BitVec.toNat_ofNat]
    omega
  refine ⟨?_, flagged_top (by omega) hn⟩
  apply BitVec.eq_of_toNat_eq
  rw [BitVec.truncate_eq_setWidth, BitVec.toNat_setWidth, hn]
  obtain ⟨k, hk⟩ := hp
  rw [hk, ← Nat.mul_assoc, Nat.mul_comm flag.toNat, Nat.mul_assoc, Nat.add_comm, Nat.add_mul_mod_self_left,
    Nat.mod_eq_of_lt hx]

theorem readValues_written (vs : List Half) : readValues (vs.flatMap fun v => halfBytes v.toNat) = vs := by
  induction vs with
  | nil => rfl
  | cons v vs ih =>
    have : readValues (halfBytes v.toNat ++ vs.flatMap fun v => halfBytes v.toNat) =
        (byteOf (v.toNat / 256) ++ byteOf v.toNat) :: readValues (vs.flatMap fun v => halfBytes v.toNat) := rfl
    rw [List.flatMap_cons, this, halfBytes_joined, ih]

theorem values_length (vs : List Half) : (vs.flatMap fun v => halfBytes v.toNat).length = 2 * vs.length := by
  induction vs with
  | nil => rfl
  | cons v vs ih =>
    rw [List.flatMap_cons, List.length_append, ih, List.length_cons]
    simp only [halfBytes, List.length_cons, List.length_nil]
    omega

/-! ### Lengths (R181) -/

theorem faultTag_length (q : Request) : (faultTag q).length = 3 := by
  unfold faultTag
  split
  · rfl
  · rfl

theorem faultPosition_length (q : Request) : (faultPosition q).length = 2 := by
  unfold faultPosition
  split
  · rfl
  · rfl

/-- Every payload has the length of its row. -/
theorem payload_listed (b : FrameBody) (hf : ∀ upper l, b = .statusFaults upper l → l.length = 8)
    (hb : ∀ l, b = .statusBus l → l.length = 6) :
    (FrameBody.cls b, FrameBody.kind b, b.payload.length) ∈
      [(0, 0, 1), (1, 0, 3), (1, 1, 3), (1, 2, 1), (1, 3, 1), (1, 4, 2), (2, 0, 7), (2, 1, 3), (2, 2, 4), (2, 3, 0),
       (4, 0, 4), (5, 0, 7), (5, 1, 8), (5, 2, 8), (5, 3, 6), (5, 4, 6), (5, 5, 8), (5, 6, 4), (5, 7, 4), (5, 8, 3),
       (5, 9, 6)] := by
  cases b with
  | statusFaults upper l =>
    have hl : (FrameBody.statusFaults upper l).payload.length = 8 := (List.length_map _).trans (hf upper l rfl)
    rw [hl]
    cases upper <;> exact List.mem_of_elem_eq_true rfl
  | statusBus l =>
    have hl : (FrameBody.statusBus l).payload.length = 6 := (List.length_map _).trans (hb l rfl)
    rw [hl]
    exact List.mem_of_elem_eq_true rfl
  | fault q =>
    have hl : (FrameBody.fault q).payload.length = 8 := by
      simp [FrameBody.payload, faultTag_length, faultPosition_length]
    rw [hl]
    exact List.mem_of_elem_eq_true rfl
  | _ => exact List.mem_of_elem_eq_true rfl

theorem payload_length_le (b : FrameBody) (hf : ∀ upper l, b = .statusFaults upper l → l.length = 8)
    (hb : ∀ l, b = .statusBus l → l.length = 6) : b.payload.length ≤ 8 := by
  have h := payload_listed b hf hb
  generalize b.payload.length = n at h ⊢
  generalize b.cls = c at h
  generalize b.kind = k at h
  revert h
  simp
  omega

/-! ### Levels (R178) -/

/-- The payload bytes in a frame's bits. -/
theorem payload_read (pre post : List Bool) (payload : List Byte) {n : Nat} (hn : pre.length = n) :
    ((List.range payload.length).map fun i =>
      fieldAt (pre ++ payload.flatMap bitsOf ++ post) (n + 8 * i) 8) = payload := by
  induction payload generalizing pre n with
  | nil => rfl
  | cons b l ih =>
    rw [List.length_cons, List.range_succ_eq_map, List.map_cons, List.map_map]
    refine congrArg₂ List.cons ?_ ?_
    · have := fieldAt_append pre (l.flatMap bitsOf ++ post) b hn
      simpa using this
    · refine Eq.trans ?_ (ih (pre ++ bitsOf b) (n := n + 8) (by simp [hn]))
      refine List.map_congr_left fun i _ => ?_
      simp only [Function.comp_apply, List.flatMap_cons, List.append_assoc]
      congr 1
      omega

/-- The fields of a frame's bits, whatever follows them (R178). -/
theorem ofBits_fields (cls : BitVec 3) (kind : BitVec 5) (h : Header) (payload : List Byte) (check : Half)
    (post : List Bool) :
    RxFrame.ofBits (false :: (fieldBits cls kind h payload ++ bitsOf check) ++ post) payload.length =
      { cls := cls, kind := kind, hdr := h, payload := payload, check := check } := by
  have bytes : (payload.flatMap bitsOf).length = 8 * payload.length := by
    have := fieldBits_length cls kind h payload
    simp only [fieldBits, List.length_append, bitsOf_length] at this
    omega
  have hcls := fieldAt_append [false] (bitsOf kind ++ bitsOf h.src ++ bitsOf h.dst ++
    bitsOf (BitVec.ofNat 4 payload.length) ++ payload.flatMap bitsOf ++ bitsOf check ++ post) cls (n := 1) rfl
  have hkind := fieldAt_append ([false] ++ bitsOf cls) (bitsOf h.src ++ bitsOf h.dst ++
    bitsOf (BitVec.ofNat 4 payload.length) ++ payload.flatMap bitsOf ++ bitsOf check ++ post) kind (n := 4) (by simp)
  have hsrc := fieldAt_append ([false] ++ bitsOf cls ++ bitsOf kind) (bitsOf h.dst ++
    bitsOf (BitVec.ofNat 4 payload.length) ++ payload.flatMap bitsOf ++ bitsOf check ++ post) h.src (n := 9) (by simp)
  have hdst := fieldAt_append ([false] ++ bitsOf cls ++ bitsOf kind ++ bitsOf h.src)
    (bitsOf (BitVec.ofNat 4 payload.length) ++ payload.flatMap bitsOf ++ bitsOf check ++ post) h.dst (n := 15) (by simp)
  have hpayload := payload_read ([false] ++ bitsOf cls ++ bitsOf kind ++ bitsOf h.src ++ bitsOf h.dst ++
    bitsOf (BitVec.ofNat 4 payload.length)) (bitsOf check ++ post) payload (n := 25) (by simp)
  have hcheck := fieldAt_append ([false] ++ bitsOf cls ++ bitsOf kind ++ bitsOf h.src ++ bitsOf h.dst ++
    bitsOf (BitVec.ofNat 4 payload.length) ++ payload.flatMap bitsOf) post check (n := 25 + 8 * payload.length)
    (by simp only [List.length_append, bitsOf_length, bytes, List.length_cons, List.length_nil])
  have whole : false :: (fieldBits cls kind h payload ++ bitsOf check) ++ post =
      [false] ++ bitsOf cls ++ bitsOf kind ++ bitsOf h.src ++ bitsOf h.dst ++ bitsOf (BitVec.ofNat 4 payload.length) ++
        payload.flatMap bitsOf ++ bitsOf check ++ post := by simp [fieldBits]
  simp only [← List.append_assoc] at hcls hkind hsrc hdst hpayload hcheck
  unfold RxFrame.ofBits
  rw [whole, hcls, hkind, hsrc, hdst, hpayload, hcheck]

/-- The levels of a frame as sent are that frame (R178). -/
theorem ofLevels_sent (cls : BitVec 3) (kind : BitVec 5) (h : Header) {payload : List Byte} (check : Half)
    (hp : payload.length ≤ 8) (post : List Bool) :
    RxFrame.ofLevels (insertBits true 0 (false :: (fieldBits cls kind h payload ++ bitsOf check)) ++ true :: post) =
      some { cls := cls, kind := kind, hdr := h, payload := payload, check := check } := by
  obtain ⟨tail, ht⟩ := plainLevels_sent (false :: (fieldBits cls kind h payload ++ bitsOf check)) post true
  have hl : (fieldAt (false :: (fieldBits cls kind h payload ++ bitsOf check) ++ true :: tail) 21 4).toNat =
      payload.length := by
    rw [List.cons_append, List.append_assoc]
    exact fieldAt_length cls kind h hp _
  unfold RxFrame.ofLevels
  rw [ht]
  simp only [hl]
  rw [if_neg, ofBits_fields]
  simp only [List.length_cons, List.length_append, fieldBits_length, bitsOf_length]
  omega

/-! ### O60 -/

theorem read_configure {s : State} {h : Header} {b : Byte} {rest : List Byte} (hr : rest.length % 2 = 0)
    (h6 : rest.length ≤ 6) :
    s.read 3 0 h (b :: rest) = .command (.configure h (b.truncate 7) (b.getLsbD 7) (readValues rest)) :=
  if_pos ⟨hr, h6⟩

/-- Settles O60: payload by payload, then the levels of a whole frame. -/
theorem sentFramesReadBack : Obligations.SentFramesReadBack := by
  unfold Obligations.SentFramesReadBack
  refine ⟨?_, ?_, ?_, ?_, ?_, ?_, ?_, payload_listed, ?_, ?_, ?_, ?_, ?_⟩
  · intro s h t
    have ht := readTag_written t
    exact ⟨congrArg (fun x => Reading.command (.pass h x)) ht, congrArg (fun x => Reading.command (.arrived h x)) ht,
      congrArg (fun x => Reading.command (.take h x)) ht⟩
  · exact fun s h t why => congrArg (fun x => Reading.command (.defer h x _)) (readTag_written t)
  · exact fun s h c => rfl
  · exact fun s h o => ⟨congrArg (fun x => Reading.command (.hold h x)) (byteOf_toNat o),
      congrArg (fun x => Reading.command (.go h x)) (byteOf_toNat o)⟩
  · exact fun s h set => congrArg (fun x => Reading.command (.broken h x)) (halfBytes_joined set)
  · exact fun s h => rfl
  · exact fun s h o ho => congrArg (fun x => Reading.command (.offer h x)) (readSheet_written ho)
  · exact fun address f hf hb => ofLevels_sent _ _ _ _ (payload_length_le f.body hf hb) _
  · intro s h start m vs hv
    have hl := values_length vs
    obtain ⟨hstart, hm⟩ := flagged_byte (Nat.le_refl 7) start m
    rw [read_configure (by omega) (by omega), hstart, hm, readValues_written]
  · exact fun s h => ⟨rfl, rfl, rfl, rfl, rfl⟩
  · exact fun s h o ho => congrArg (fun x => Reading.command (.feed h x)) (readSheet_written ho)
  · intro s h t side g n o selector clear
    obtain ⟨hq, hc⟩ := flagged_byte (by decide : 3 ≤ 7) selector clear
    exact ⟨congrArg (fun x => Reading.command (.image h x side)) (readTag_written t), rfl,
      congrArg₂ (fun x y => Reading.command (.query h x y)) hq hc⟩

end Sys2Proof.Machine

/-! PROOFS. The gate: its moves, the decision, and the gate position (R32, R94 to R99, R102, R108). -/

namespace Sys2Proof.Machine

/-! ### Moves (R96, R97) -/

theorem makeMove_eq (target : Route) (s : State) (hm : s.gate.move = .none) : makeMove target s = { s with
    gate := if s.gateClear = false then { s.gate with move := .waiting target }
      else if s.gateSw = 0 then { s.gate with output := target, position := target }
      else { s.gate with output := target, move := .moving target 0 } } := by
  unfold makeMove
  by_cases hc : s.gateClear = true
  · rw [if_pos hc, if_neg (by simp [hc]), startMove, ← hm]
  · rw [if_neg hc, if_pos (by simpa using hc)]

/-- With no move made the head of the list is served (R96). -/
theorem serveGate_head {s : State} {t : Tag} {rest : List Tag} {r : Record} {route : Route} (hl : s.gate.list = t :: rest)
    (hr : s.rec? t = some r) (hroute : r.route = some route) (hm : s.gate.move = .none) :
    serveGate s = if route = s.gate.position then s else makeMove route s := by
  have hw : s.gateWanted = some route := by simp [State.gateWanted, hl, hr, hroute]
  unfold serveGate
  rw [hm, hw]

theorem serveGate_waiting {s : State} {target : Route} (hm : s.gate.move = .waiting target) :
    serveGate s = if s.gateClear then startMove target s else s := by
  unfold serveGate
  rw [hm]

/-! ### A record at the gate of an INVERT station (R98, R99) -/

/-- At an INVERT station no ghost is checked and no BIN raised at the gate (R137, R175). -/
theorem gateChecks_of_role {r : Record} {t : Tag} {s : State} (hr : s.role ≠ .exit) :
    purgeBinFull t (checkGhost r s) = s := by
  have hc : checkGhost r s = s := if_neg fun e => hr e.1
  rw [hc, purgeBinFull]
  cases h : s.rec? t with
  | none => rw [onRec_of_none h]
  | some x => rw [onRec_of_rec? h, if_neg fun e => hr e.1]

theorem atGate_passes {r : Record} {s : State} (hr : s.role ≠ .exit) (hroute : r.route = some s.gate.position) :
    atGate r s = serveGate (occupyGate r.tag s) := by
  have hc : purgeBinFull r.tag (checkGhost r (occupyGate r.tag s)) = occupyGate r.tag s :=
    gateChecks_of_role (s := occupyGate r.tag s) hr
  unfold atGate
  rw [hroute]
  dsimp only
  rw [if_pos rfl, hc]

theorem breakSet_unlisted {s : State} {set : Nat} {why : DumpReason} (h : set ∉ s.track.broken) (hr : s.role ≠ .exit)
    (hw : ∀ x ∈ s.track.queue, x.image ≠ some .waiting) (ho : s.ownHolds .imageWait = false) :
    breakSet set why s = (send everyone (.broken set) s).brokenBy set := by
  unfold breakSet
  rw [if_neg (by simpa using h)]
  exact addBroken_eq (by exact h) (by exact hr) (by exact hw) (by exact ho)

/-- The record of a ROUTE fault before its set is broken: its route that of the gate, MISROUTED and SPOILED (R99). -/
def Record.turned (s : State) (r : Record) : Record := (r.withRoute s s.gate.position).misroute

theorem withRoute_eq (s : State) (route : Route) (r : Record) :
    r.withRoute s route = { r with
      route := some route
      next := s.rerouted route r.next
      window := if s.rerouted route r.next = r.next then r.window
        else s.windowOf { r with next := s.rerouted route r.next } } := by
  unfold Record.withRoute
  dsimp only
  by_cases h : s.rerouted route r.next = r.next
  · rw [if_pos h, if_pos h]
  · rw [if_neg h, if_neg h]
    rfl

/-- The inverter's answer to a record misrouted to a branch (R99, R102, R108). -/
def Inverter.misrouted (i : Inverter) (t : Tag) (branch : Route) : Inverter :=
  if branch = .alt then
    (if i.seq = .idle then { seq := .filling, loop := some t, runout := 0, timer := .idle, givenUp := false }
     else { i with seq := .blocked })
  else if i.loop = some t then { i with seq := .idle, loop := none, timer := .idle }
  else i

theorem releaseMisroute_eq (t : Tag) (s : State) :
    releaseMisroute t s = { s with inv := s.inv.misrouted t .main } := by
  unfold releaseMisroute Inverter.misrouted
  by_cases h : s.inv.loop = some t
  · simp [h]
  · simp [h]

theorem takeMisroute_eq (t : Tag) (s : State) : takeMisroute t s = { s with inv := s.inv.misrouted t .alt } := by
  unfold takeMisroute Inverter.misrouted
  by_cases h : s.inv.seq = .idle
  · simp [h, Inverter.fill]
  · simp [h]

theorem answerMisroute_invert {r : Record} {branch : Route} {s : State} (hr : s.role = .invert) :
    answerMisroute r branch s = { s with inv := s.inv.misrouted r.tag branch } := by
  unfold answerMisroute
  rw [hr]
  cases branch with
  | main => exact releaseMisroute_eq r.tag s
  | alt => exact takeMisroute_eq r.tag s

/-- The state of a ROUTE fault before the set is broken (R99). -/
def State.routeTurned (s : State) (r : Record) : State :=
  mapRec r.tag (Record.turned s)
    { raise (requestFor .route r (some r.pos) s.gateSensor) s with gate := s.gate.abandon }

theorem withRoute_image (s : State) (route : Route) (r : Record) : (r.withRoute s route).image = r.image := by
  rw [withRoute_eq]

/-- A ROUTE fault at an INVERT station, of a sheet whose set is not listed (R99). -/
theorem routeFault_invert {r : Record} {s : State} (hr : s.role = .invert) (hg : r.marks.ghost = false)
    (hb : r.tag.set ∉ s.track.broken) (hw : ∀ x ∈ s.track.queue, x.image ≠ some .waiting)
    (ho : s.ownHolds .imageWait = false) :
    routeFault r s =
      let u := occupyGate r.tag ((send everyone (.broken r.tag.set) (s.routeTurned r)).brokenBy r.tag.set)
      { u with inv := s.inv.misrouted r.tag s.gate.position } := by
  have hturn : mapRec r.tag Record.misroute (setRoute r.tag s.gate.position
      { raise (requestFor .route r (some r.pos) s.gateSensor) s with gate := s.gate.abandon }) = s.routeTurned r :=
    mapRec_mapRec (withRoute_tag _ _) _
  have hspoil : spoilMisrouted r (setRoute r.tag s.gate.position
      { raise (requestFor .route r (some r.pos) s.gateSensor) s with gate := s.gate.abandon }) =
      (send everyone (.broken r.tag.set) (s.routeTurned r)).brokenBy r.tag.set := by
    unfold spoilMisrouted
    dsimp only
    rw [hturn, hg, if_neg (by simp)]
    refine breakSet_unlisted (by exact hb) (by exact hr ▸ by decide) ?_ (by exact ho)
    intro x hx
    obtain ⟨y, hy, rfl⟩ := List.mem_map.mp hx
    have := hw y hy
    split
    · exact (withRoute_image s s.gate.position y).symm ▸ this
    · exact this
  refine Eq.trans (congrArg (fun u => answerMisroute r s.gate.position (occupyGate r.tag u)) hspoil) ?_
  exact answerMisroute_invert
    (s := occupyGate r.tag ((send everyone (.broken r.tag.set) (s.routeTurned r)).brokenBy r.tag.set)) hr

theorem atGate_misroutes {r : Record} {s : State} {route : Route} (hr : s.role ≠ .exit) (hroute : r.route = some route)
    (hne : route ≠ s.gate.position) (hs : (routeFault r s).role = s.role) :
    atGate r s = serveGate (routeFault r s) := by
  have hc : purgeBinFull r.tag (checkGhost r (routeFault r s)) = routeFault r s := gateChecks_of_role (hs ▸ hr)
  unfold atGate
  rw [hroute]
  dsimp only
  rw [if_neg hne, hc]

/-- The queue after a ROUTE fault, record by record (R21, R99). -/
theorem routeTurned_broken {s : State} {r : Record} (hs : s.queueSound) (hr : r ∈ s.track.queue)
    (hg : r.marks.ghost = false) :
    (s.routeTurned r).track.queue.map (Record.breakIn r.tag.set) = s.track.queue.map fun x =>
      if x.tag = r.tag then
        { r with
          route := some s.gate.position
          next := s.rerouted s.gate.position r.next
          window := if s.rerouted s.gate.position r.next = r.next then r.window
            else s.windowOf { r with next := s.rerouted s.gate.position r.next }
          marks := { broken := true, spoiled := true, ghost := false, misrouted := true } }
      else if x.tag.set = r.tag.set ∧ x.marks.ghost = false then
        { x with marks := { x.marks with broken := true } }
      else x := by
  have hq : (s.routeTurned r).track.queue =
      s.track.queue.map fun x => if x.tag = r.tag then r.turned s else x := map_of_tag hs hr (Record.turned s)
  rw [hq, List.map_map]
  refine List.map_congr_left fun x _ => ?_
  by_cases ht : x.tag = r.tag
  · simp [ht, Record.turned, withRoute_eq, Record.misroute, Record.breakIn, hg]
  · simp [ht, Record.breakIn]

/-! ### The decision (R95, R102) -/

theorem takeLoop_eq (t : Tag) (s : State) : takeLoop t s = { s with
    inv := if s.inv.seq = .idle then
        { seq := .filling, loop := some t, runout := 0, timer := .idle, givenUp := false }
      else s.inv } := by
  unfold takeLoop
  by_cases h : s.inv.seq = .idle
  · rw [if_pos h, if_pos h]
    rfl
  · rw [if_neg h, if_neg h]

theorem invertRoute_eq (r : Record) : r.invertRoute =
    if r.side = .first ∧ r.marks.broken = false ∧ r.marks.spoiled = false ∧ r.marks.ghost = false then .alt
    else .main := by
  unfold Record.invertRoute Record.wouldLoop
  simp [and_assoc]

/-- The record decided: its route and next sensor (R32, R95). -/
def Record.decided (s : State) (route : Route) (r : Record) : Record :=
  { r.withRoute s route with reached := { r.reached with decision := true } }

/-- The decision at an INVERT station (R95, R102). -/
theorem testDecision_invert {s : State} {r : Record} {k : Nat} (hr : s.role = .invert) (hk : s.gateSensor = some k)
    (hs : s.queueSound) (hm : r ∈ s.track.queue) (hd : r.dir = .forward) (hroute : r.route = none)
    (hn : r.reached.decision = false) (hp : s.spos k ≤ r.pos + s.gateSw) :
    testDecision r.tag s =
      let u := listAtGate r.tag (mapRec r.tag (fun _ => r.decided s r.invertRoute) s)
      serveGate (if r.invertRoute = .alt then takeLoop r.tag u else u) := by
  let s1 := mapRec r.tag (fun x => { x with reached := { x.reached with decision := true } }) s
  have hq : setRoute r.tag r.invertRoute s1 = mapRec r.tag (fun _ => r.decided s r.invertRoute) s := by
    refine (mapRec_mapRec (by exact fun _ => rfl) s).trans ?_
    unfold mapRec
    rw [map_of_tag hs hm]
    refine congrArg (fun l => { s with track := { s.track with queue := l } }) ?_
    have : (Record.withRoute s1 r.invertRoute) { r with reached := { r.reached with decision := true } } =
        r.decided s r.invertRoute := by
      unfold Record.decided
      rw [withRoute_eq, withRoute_eq]
      rfl
    exact List.map_congr_left fun x _ => by rw [Function.comp_apply, this]
  unfold testDecision
  rw [onRec_of_rec? (rec?_of_mem hs hm), hk]
  dsimp only
  rw [if_pos ⟨.inl hr, hd, hroute, hn, hp⟩, ← hq]
  show decideRoute r s1 = _
  unfold decideRoute
  rw [show s1.role = .invert from hr]

/-- Settles O56: the moves, the passing of the gate, the ROUTE fault, and the decision. -/
theorem gateMovesToServeItsList : Obligations.GateMovesToServeItsList := by
  unfold Obligations.GateMovesToServeItsList
  refine ⟨?_, ?_, ?_, ?_, ?_, ?_⟩
  · intro s t rest r route hl hr hroute hm
    rw [serveGate_head hl hr hroute hm]
    by_cases h : route = s.gate.position
    · rw [if_pos h, if_pos h]
    · rw [if_neg h, if_neg h, makeMove_eq route s hm]
  · intro s target hm
    rw [serveGate_waiting hm]
    by_cases hc : s.gateClear = true
    · rw [if_pos hc, if_neg (by simp [hc])]
      rfl
    · rw [if_neg hc, if_pos (by simpa using hc)]
  · intro s k ch target travel hk hm
    unfold gateStep
    rw [hk]
    dsimp only
    by_cases hz : s.zoneOf k = ch
    · rw [if_pos hz, if_neg (not_not.mpr hz), Gate.travel, hm]
    · rw [if_neg hz, if_pos hz]
  · intro s r hr hroute _
    obtain ⟨position, output, move, h⟩ := serveGate_spec (occupyGate r.tag s)
    exact ⟨_, (atGate_passes (by simp [hr]) hroute).trans h, rfl, rfl, rfl⟩
  · intro s r route hr hp hroute hne hs hm hg hb hw ho
    have hf := routeFault_invert hr hg hb hw ho
    refine (atGate_misroutes (by simp [hr]) hroute hne (by rw [hf]; rfl)).trans (congrArg serveGate ?_)
    rw [hf]
    have hflt : (raise (requestFor .route r (some r.pos) s.gateSensor) s).flt =
        (s.flt.count .route).pend (requestFor .route r (some r.pos) s.gateSensor) := if_pos hp
    have hreq := requestFor_of_sheet hg .route (some r.pos) s.gateSensor
    let u := occupyGate r.tag ((send everyone (.broken r.tag.set) (s.routeTurned r)).brokenBy r.tag.set)
    exact congrArg₂ (fun (f : FaultUnit) (l : List Record) =>
        { u with
          inv := s.inv.misrouted r.tag s.gate.position
          flt := f
          track := { u.track with queue := l } })
      (hflt.trans (congrArg (s.flt.count .route).pend hreq)) (routeTurned_broken hs hm hg)
  · intro s r k hr hk hs hm hd hroute hn
    dsimp only
    rw [← invertRoute_eq]
    by_cases hlt : r.lead / 256 + s.gateSw < s.spos k
    · rw [if_pos hlt]
      unfold testDecision
      rw [onRec_of_rec? (rec?_of_mem hs hm), hk]
      exact if_neg fun e => absurd e.2.2.2.2 (Nat.not_le.mpr hlt)
    · rw [if_neg hlt, testDecision_invert hr hk hs hm hd hroute hn (Nat.not_lt.mp hlt)]
      refine congrArg serveGate ?_
      have hdec : r.decided s r.invertRoute = { r with
          route := some r.invertRoute
          next := s.rerouted r.invertRoute r.next
          window := if s.rerouted r.invertRoute r.next = r.next then r.window
            else s.windowOf { r with next := s.rerouted r.invertRoute r.next }
          reached := { r.reached with decision := true } } := by
        rw [Record.decided, withRoute_eq]
      unfold mapRec
      rw [hdec]
      dsimp only
      by_cases ha : r.invertRoute = .alt
      · rw [if_pos ha, takeLoop_eq]
        simp only [ha, true_and]
        rfl
      · have hinv : (if r.invertRoute = .alt ∧ s.inv.seq = .idle then
            ({ seq := .filling, loop := some r.tag, runout := 0, timer := .idle, givenUp := false } : Inverter)
          else s.inv) = s.inv := if_neg fun e => ha e.1
        rw [if_neg ha, hinv]
        rfl

end Sys2Proof.Machine

/-! PROOFS. The inverter: the reversal of the loop record, its run-out, its return and its leaving (R90, R100 to R106). -/

namespace Sys2Proof.Machine

/-! ### Settling at an INVERT station -/

/-- An event at an INVERT station that leaves nothing owed and no own reason due settles by the slots and the duplicates
that are gone (R82, R100). -/
theorem settle_invert {b s : State} (hr : s.role = .invert) (hc : b.ctl.strap = s.ctl.strap)
    (h0 : ∀ x ∈ s.track.queue, x.offerOwed = false) (hs : s.stopDue = none) (hl : s.loopDue = false) :
    settle b s = settleDrive (sendDuplicateReadies (settleSlots b s)) := by
  have hb : b.role = .invert := by
    unfold State.role at hr ⊢
    rwa [hc]
  have e1 : settleStop b s = s := by
    unfold settleStop
    rw [hs]
  have e2 : settleTray b s = s := by simp [settleTray, State.trayDue, hr, hb]
  have e3 : settleLoop b s = s := by simp [settleLoop, hl]
  unfold settle settleHolds
  rw [sendOffers_of_none_owed h0, e1, e2, e3]

/-! ### The run-out (R102) -/

theorem checks_steps {st : StationState} (h : st.checks = true) : st.steps = true := by
  cases hs : st.steps with
  | true => rfl
  | false => simp [checks_of_steps hs] at h

theorem skind_of_ofKind {s : State} {kind k : Nat} (h : s.ofKind kind = some k) : s.skind k = kind := by
  have := List.find?_some h
  simpa using this

/-- The trail edge of the loop record at the INVERT sensor begins the run-out (R42, R102). -/
theorem takeTrail_runout {s b : State} {k : Fin 6} {r : Record} (hst : s.ctl.st.checks = true) (hro : s.role = .invert)
    (hv : s.invertSensor = some k.val) (hrec : s.rec? r.tag = some r) (ho : (s.sensor k).owner = some r.tag)
    (hd : r.dir = .forward) (hroute : r.route = some .alt) (hseq : s.inv.seq = .filling)
    (hloop : s.inv.loop = some r.tag)
    (hlen : (s.sensor k).confirmed = true → r.length - s.tLen ≤ (r.odo - (s.sensor k).latch) / 256)
    (hb : b = setSensor k Sensor.uncover s) : takeTrail k s = startRunout b := by
  have hb' : setSensor k (fun x => { x.disown with covered := false, uncovered := 0 }) s = b := hb.symm
  have hrole : b.role = .invert := hb ▸ hro
  have hshort : b.shortDue (s.sensor k) r = false := by
    have ht : b.tLen = s.tLen := hb ▸ rfl
    unfold State.shortDue covering
    rw [ht]
    cases hcf : (s.sensor k).confirmed with
    | false => simp
    | true => simp [Nat.not_lt.mpr (hlen hcf)]
  have hsteps : b.ctl.st.steps = true := hb ▸ checks_steps hst
  have hgate : handGate k b = b := by
    refine if_neg fun h => ?_
    have h1 := skind_of_ofKind h.2
    have h3 := skind_of_ofKind (s := b) (kind := 3) (hb ▸ hv : b.invertSensor = some k.val)
    omega
  have hinv : handInvert k r b = startRunout b := by
    refine if_pos ⟨hrole, hb ▸ hv, hb ▸ hseq, hb ▸ hloop, hd, hroute⟩
  have hcomp : ∀ x, handCompile k r (s.sensor k) x (startRunout b) = startRunout b := fun x =>
    if_neg fun h => by
      have : b.role = .exit := h.1
      rw [hrole] at this
      cases this
  unfold takeTrail
  simp only [ho, Option.bind_some, hrec]
  rw [hb', takeOwned, hshort, if_pos hsteps, if_neg Bool.false_ne_true, hgate, hinv, hcomp]

/-! ### The leaving of the loop record (R106) -/

/-- The loop record leaves (R14, R106). -/
def State.loopLeft (s : State) (r : Record) : State :=
  { s with
    track := { s.track with queue := [] }
    flt := s.flt.forgetting r.tag
    sens := { s.sens with
      sensors := s.sens.sensors.map fun q =>
        if q.owner = some r.tag then { q with owner := none, confirmed := false, stalled := false } else q }
    inv := { s.inv with seq := .idle, loop := none, timer := .idle, givenUp := false }
    drive := { s.drive with chB :=
      if s.drive.chB.run = .stopped then { s.drive.chB with dir := .forward, want := none }
      else if s.drive.chB.dir = .forward then { s.drive.chB with want := none }
      else { s.drive.chB with want := some .forward } }
    feed := { s.feed with pick := if s.feed.pick = some r.tag then none else s.feed.pick }
    hand := { s.hand with givenUp := if s.hand.givenUp = some r.tag then none else s.hand.givenUp } }

theorem leaveQueue_loop {s : State} {r : Record} (hq : s.track.queue = [r]) (hmove : s.gate.move = .none)
    (hlist : s.gate.list = []) (hocc : s.gate.occupant = none) (hloop : s.inv.loop = some r.tag)
    (himg : s.ownHolds .imageWait = false) (hg : r.marks.ghost = false) :
    leaveQueue r.seen (mapRec r.tag Record.seen s) = s.loopLeft r := by
  have hleft : (mapRec r.tag Record.seen s).track.queue.filter (fun x => x.tag != r.tag) = [] := by
    rw [filter_mapRec (f := Record.seen) (fun _ => rfl), hq]
    simp
  have hgate : s.gate.without r.tag = s.gate := Gate.without_eq hlist (by simp [hocc])
  have hinv : s.inv.without r.tag = { s.inv with seq := .idle, loop := none, timer := .idle, givenUp := false } :=
    if_pos hloop
  have hhand : (if s.hand.givenUp = some r.tag then { s.hand with givenUp := none } else s.hand) =
      { s.hand with givenUp := if s.hand.givenUp = some r.tag then none else s.hand.givenUp } := by split <;> rfl
  have hfeed : (if s.feed.pick = some r.tag then { s.feed with pick := none } else s.feed) =
      { s.feed with pick := if s.feed.pick = some r.tag then none else s.feed.pick } := by split <;> rfl
  have hsweep : (if r.marks.ghost = true ∧ r.last = true then { s.sweep with lastSeen := true } else s.sweep) =
      s.sweep := if_neg (by simp [hg])
  unfold leaveQueue
  simp only [show r.seen.tag = r.tag from rfl, hleft, mapRec_gate, mapRec_inv, mapRec_hand, mapRec_feed, mapRec_sweep,
    show r.seen.marks = r.marks from rfl, show r.seen.last = r.last from rfl]
  rw [hgate, hinv, hhand, hfeed, hsweep, if_pos hloop]
  unfold reviewImageWait
  rw [if_pos (.inr (by exact himg)), serveGate_of_none (by exact hmove) (by exact hlist)]
  rfl

/-! ### Reverse thresholds (R26, R73, R104) -/

theorem testsReverse_of {s : State} {r : Record} (hr : s.role = .invert) (hd : r.dir = .reverse) :
    s.testsExit r = false ∧ s.testsReverse r = true := by
  simp [State.testsExit, State.testsReverse, hr, hd]

theorem stopDue_looping {s : State} {r : Record} (hro : s.role = .invert) (hq : s.track.queue = [r])
    (hr : r.route = some .alt) : s.stopDue = none := by
  simp [State.stopDue, hro, hq, hr]

/-- Settles O57: the reversal, the run-out, the leaving, and the thresholds of the way back. -/
theorem reversalTurnsTheLoopRecord : Obligations.ReversalTurnsTheLoopRecord := by
  unfold Obligations.ReversalTurnsTheLoopRecord
  refine ⟨?_, ?_, ?_, ?_, ?_, ?_, ?_⟩
  · intro s r v hro hseq hrun hloop hs hr hv
    have hwin : Record.rebase s v r = { r with
        ref := r.lead / 256 - r.length
        lead := (r.lead / 256 - r.length) * 256
        dir := .reverse
        next := some v
        side := if r.side = .first then .second else r.side
        window := if r.marks.ghost ∨ r.place = .expected then none
          else some (s.windowAt .reverse (r.lead / 256 - r.length) v) } := rfl
    have hreq : s.drive.chB.request .reverse = { s.drive.chB with dir := .reverse, want := none } := if_pos hrun
    unfold settleReversal
    rw [if_pos ⟨hro, hseq, hrun⟩, reverseLoop, hloop]
    dsimp only
    rw [hreq, hv, Option.getD_some, mapRec, ← hwin, ← map_of_tag hs hr]
  · intro s k r hl hst hro hq hk hv hc hqueue ho hd hroute hseq hloop hlen
    have hrec : s.rec? r.tag = some r := by simp [State.rec?, hqueue]
    have htake := takeTrail_runout (s := pinSensor k false s) hst hro hv hrec ho hd hroute hseq hloop hlen rfl
    rw [exec_trailEdge_covered (filters_of_inUse hl (checks_ne_selftest hst) hk) hc, htake]
    refine congrArg Host.Outcome.next ?_
    have hstop : (startRunout (setSensor k Sensor.uncover (pinSensor k false s))).stopDue = none :=
      stopDue_looping hro hqueue hroute
    have hdue : (startRunout (setSensor k Sensor.uncover (pinSensor k false s))).loopDue = false := by
      unfold startRunout State.loopDue
      dsimp only
      split <;> simp
    rw [settle_invert (by exact hro) (by rfl) (by exact hq.1) hstop hdue,
      settleSlots_of_none (.inl (loopEnded_same (by rfl))), sendDuplicateReadies_of_none (by exact hq.2.1)
        (by exact hq.2.2.1)]
    rfl
  · intro s r v hro hseq hloop hrec hd hv
    unfold testRunout
    rw [onRec_of_rec? hrec, hv]
    dsimp only
    by_cases h : s.spos v + s.tLen + (s.slip * r.length + 1023) / 1024 + r.length < r.lead / 256
    · rw [if_pos h, if_pos ⟨hro, hseq, hloop, hd, h⟩]
      rfl
    · rw [if_neg h, if_neg fun e => h e.2.2.2.2]
  · intro s hro hseq
    refine ⟨if_neg (by simp), ?_⟩
    unfold moveRunout
    rw [if_pos ⟨rfl, hro, hseq⟩]
    by_cases h : s.revD * 256 ≤ s.inv.runout + s.stepLen .b
    · rw [if_pos h, if_pos h, Nat.min_eq_right h]
    · rw [if_neg h, if_neg h, Nat.min_eq_left (by omega), ← hseq]
  · intro h t r o s hh hst hro hq hqueue ht hpl hroute hg hd hout hloop hmove hlist hocc himg hhold h1 h2 hog hob hol left
    have hs : s.queueSound := by simp [State.queueSound, hqueue]
    have hr : r ∈ s.track.queue := by simp [hqueue]
    have hlo : r.isLoop = true := by simp [Record.isLoop, hroute]
    have hnone : ∀ x ∈ (s.loopLeft r).track.queue, x.isLoop = false := fun x hx => nomatch hx
    have hj : (s.loopLeft r).judge .up1 o = .free :=
      judge_unlooped hst hnone h2 hhold (by simp [State.loopLeft]) (fun x hx => nomatch hx) hog
    have hslots : settleSlots s (s.loopLeft r) = (s.loopLeft r).tookUp1 o :=
      (if_pos (loopEnded_of_all (s := s.loopLeft r) hro ⟨r, hr, hlo⟩ hnone)).trans
        (examineSlots_up1 (s := s.loopLeft r) h1 h2 hj hog hob hol (.inl rfl))
    rw [exec_arrived hh (by simp [hst]) (by simp [hst]), arrivedHeard_of_exiting hs hr ht hpl hd, if_pos hout,
      leaveQueue_loop hqueue hmove hlist hocc hloop himg hg]
    refine congrArg Host.Outcome.next ?_
    rw [settle_invert (b := s) (s := s.loopLeft r) hro rfl (fun x hx => nomatch hx) (stopDue_of_empty rfl) rfl, hslots,
      sendDuplicateReadies_of_none (s := (s.loopLeft r).tookUp1 o) hq.2.1 hq.2.2.1]
    rfl
  · intro s r hro hs hr hd hloop hseq hn
    obtain ⟨-, hrev⟩ := testsReverse_of hro hd
    unfold testReturnStop
    rw [onRec_of_rec? (rec?_of_mem hs hr)]
    by_cases h : s.cfg.returnStop < r.lead / 256
    · rw [if_pos h, if_neg fun e => absurd e.2.2 (Nat.not_le.mpr h)]
    · rw [if_neg h, if_pos ⟨hrev, hn, Nat.not_lt.mp h⟩, mapRec, map_of_tag hs hr]
      dsimp only
      by_cases htk : r.stage = .taken (s.downstream r)
      · rw [if_pos htk, if_neg (by simp [State.untaken, State.taken, htk])]
      · rw [if_neg htk, if_pos ⟨hloop, hseq, by simp [State.untaken, State.taken, htk]⟩]
  · intro s r hro hs hr hd hn hp hhold
    obtain ⟨hfwd, hrev⟩ := testsReverse_of hro hd
    dsimp only
    unfold testExit
    rw [onRec_of_rec? (rec?_of_mem hs hr), if_neg (by simp [hfwd]), if_pos ⟨hrev, hn, hp⟩, passIfTaken]
    by_cases hpass : r.stage = .taken (s.downstream r) ∧ s.ctl.st.steps = true
    · rw [if_pos hpass, if_pos hpass, if_pos ⟨decide_eq_true hpass.1, hpass.2⟩]
      unfold passRecord
      rw [extendHolds_of_empty (by exact hhold)]
      have hqueue := congrArg (fun u => u.track.queue) (mapRec_mapRec (t := r.tag)
        (f := fun x => { x with reached := { x.reached with revExit := true } })
        (g := fun x => { x with place := .exiting }) (fun _ => rfl) s)
      exact congrArg (fun l => { s with
          port := s.port.post (s.downstream r) (.pass r.tag r.last)
          track := { s.track with queue := l } })
        (hqueue.trans (map_of_tag hs hr _))
    · rw [if_neg hpass, if_neg hpass, if_neg fun e => hpass ⟨of_decide_eq_true e.1, e.2⟩, mapRec, map_of_tag hs hr]

end Sys2Proof.Machine
